-- ==== Sys2Proof/Word.lean ====
section
/-! DEFINITION. The word types of the FG416 and the numbers that name its buffers, slots, tiles,
bands and curve points. -/

namespace Sys2Proof

/-- A frame-bus word (spec/00 "Numbers and units": a word is 32 bits). -/
abbrev Word := BitVec 32

/-- A 16-bit value of the service link or a CRC-16. -/
abbrev Half := BitVec 16

abbrev Byte := BitVec 8

/-- Buffers B0 to B7 (R24). -/
abbrev BufferNo := Fin 8

/-- Cue slots 0-31 (R46). -/
abbrev SlotNo := Fin 32

/-- Tiles and report slots 0-127 (R113, R131). -/
abbrev TileNo := Fin 128

/-- Schedule bands 0-7 (R102). -/
abbrev BandNo := Fin 8

/-- Points of the ambient curve 0-15 (R105). -/
abbrev PointNo := Fin 16

end Sys2Proof
end

