-- ==== Sys2Proof/Syntax.lean ====
section
/-! DEFINITION. The commands of the FG416: one constructor of Instr for each row of
spec/opcode_table.json, and the operand types. -/

namespace Sys2Proof

/-- The initiator tag of a transaction (00 "The part in its setting"). -/
inductive Initiator where
  | content | scan | report | other
  deriving DecidableEq, Repr

inductive Direction where
  | read | write
  deriving DecidableEq, Repr

/-- Four byte enables, most significant byte first (R2, 12 "Record Layouts"). -/
structure ByteEnables where
  b3 : Bool
  b2 : Bool
  b1 : Bool
  b0 : Bool
  deriving DecidableEq, Repr

/-- A transaction as an initiator presents it (R2). -/
structure Presented where
  initiator : Initiator
  direction : Direction
  address : Word
  length : Nat
  deriving DecidableEq, Repr

/-- The status with which the memory controller ends a burst (R3). -/
inductive MemStatus where
  | ok | error
  deriving DecidableEq, Repr

/-- Sensor channel A on LUXA or B on LUXB (R90). -/
inductive Channel where
  | a | b
  deriving DecidableEq, Repr

/-- The PAIRSEL strap (R187). -/
inductive Strap where
  | alone | paired
  deriving DecidableEq, Repr

/-- The channel settings other than enable (R90). -/
inductive ChannelSetting where
  | gate | shift | jump | dead | saturation
  deriving DecidableEq, Repr

/-- The two limits of R148. -/
inductive Limit where
  | suspect | fault
  deriving DecidableEq, Repr

/-- The fields of a schedule band in item order (R178). -/
inductive BandField where
  | enabled | startMinute | startSecond | days | ceiling | fallback | minDwell
  deriving DecidableEq, Repr

/-- The default band's settings (R102). -/
inductive DefaultBandField where
  | ceiling | fallback | minDwell
  deriving DecidableEq, Repr

/-- The two values of a curve point (R105). -/
inductive CurveField where
  | threshold | gain
  deriving DecidableEq, Repr

/-- What the supervisor does on the link's input lines (R172): SVSEL falls or rises, SVCLK rises with SVDI
at this level, or SVCLK falls. -/
inductive LinkEdge where
  | selectFall
  | selectRise
  | clockRise (svdi : Bool)
  | clockFall
  deriving DecidableEq, Repr

/-- The items of the service link (R178, R179), one constructor a group. -/
inductive Item where
  | status (i : Fin 24)
  | layout (i : Fin 15)
  | operating (i : Fin 36)
  | curve (p : PointNo) (f : CurveField)
  | band (b : BandNo) (f : BandField)
  | trim (t : TileNo)
  | param (i : Fin 3)
  | call
  | serviceStatus
  | faultWindow (i : Fin 7)
  | snapshot (i : Fin 21)
  | tileSelect
  | tileField (i : Fin 25)
  | bufferField (k : BufferNo) (f : Fin 7)
  | gateState
  | gateSeconds
  | testField (i : Fin 12)
  | testNamed (i : Fin 15)
  deriving DecidableEq, Repr

/-- One command: one row of spec/opcode_table.json each, in the table's order. -/
inductive Instr where
  | transactionTake (p : Option Presented)
  | writeDataWord (w : Word) (en : ByteEnables)
  | readWordDelivery (w : Word)
  | initiatorShortEnd
  | forwardedBurstEnd (st : MemStatus)
  | starvationGuardClaim
  | writeBackBurstEnd (st : MemStatus)
  | wipeBurstEnd (st : MemStatus)
  | verifyBurstEnd (st : MemStatus) (ws : List Word)
  | silent (tile : TileNo)
  | testWaitExpiry
  | decisecondStep
  | holdOffEnd (slot : SlotNo)
  | cueExpiry (slot : SlotNo)
  | noticeTimeEnd (slot : SlotNo)
  | dwellMet
  | pairWaitExpiry
  | partnerRise (level : Bool)
  | scanStall
  | luxPulse (ch : Channel)
  | gateWindowEnd (ch : Channel)
  | jump (ch : Channel)
  | sensorDead (ch : Channel)
  | sensorSaturated (ch : Channel)
  | secondStep
  | noticeGateTimeout
  | upstreamReset
  | upstreamResetRelease
  | powerOnReset
  | powerOnRelease (strap : Strap)
  | nop (item data : Half)
  | read (item data : Half)
  | resetCauseRead (data : Half)
  | write (item data : Half)
  | channelEnableWrite (ch : Channel) (data : Half)
  | channelSettingWrite (ch : Channel) (setting : ChannelSetting) (data : Half)
  | limitWrite (limit : Limit) (data : Half)
  | faceFaultLimitWrite (data : Half)
  | tileBlankPolicyWrite (data : Half)
  | trimWrite (tile : TileNo) (data : Half)
  | bandFieldWrite (band : BandNo) (field : BandField) (data : Half)
  | defaultBandWrite (field : DefaultBandField) (data : Half)
  | unsetCeilingWrite (data : Half)
  | curvePointWrite (point : PointNo) (field : CurveField) (data : Half)
  | layoutWrite (index : Fin 15) (data : Half)
  | takeFault (item data : Half)
  | closeSetup
  | restart
  | setClock
  | openNoticeGate
  | closeNoticeGate
  | wipeBuffer
  | tileTest
  | clearTile
  | blankFace
  | unblankFace
  | captureSnapshot
  | frameCheckFailure (edges : List LinkEdge) (last : LinkEdge)
  deriving DecidableEq, Repr

end Sys2Proof
end

