-- ==== Sys2Proof/Config.lean ====
section
/-! DEFINITION. What each implementation fixes and the spec leaves open: two read-only items of the
service link whose values no rule gives (log 10). Each has no body, so nothing can be proved of its
value. -/

namespace Sys2Proof

/-- Item 0 of table 0x00 (R178): the spec names it and gives no value. -/
opaque Config.deviceCode : Half

/-- Item 1 of table 0x00 (R178): the spec names it and gives no value. -/
opaque Config.version : Half

end Sys2Proof
end

