-- ==== Sys2Proof/Machine/Table.lean ====
section
/-! DEFINITION. A fixed number of like things: a list that carries the proof of its length, read and
written at a number below that length. -/

namespace Sys2Proof

/-- `n` cells of one type. -/
structure Table (α : Type) (n : Nat) where
  cells : List α
  size : cells.length = n
  deriving DecidableEq, Repr

variable {α β : Type} {n : Nat}

def Table.get (t : Table α n) (i : Fin n) : α :=
  t.cells[i.val]'(by rw [t.size]; exact i.isLt)

def Table.set (t : Table α n) (i : Fin n) (a : α) : Table α n :=
  ⟨t.cells.set i.val a, by rw [List.length_set, t.size]⟩

def Table.modify (t : Table α n) (i : Fin n) (f : α → α) : Table α n :=
  t.set i (f (t.get i))

def Table.map (f : α → β) (t : Table α n) : Table β n :=
  ⟨t.cells.map f, by rw [List.length_map, t.size]⟩

/-- Every cell replaced by a function of its number and its content. -/
def Table.mapIdx (f : Fin n → α → β) (t : Table α n) : Table β n :=
  ⟨List.zipWith f (List.finRange n) t.cells, by
    rw [List.length_zipWith, List.length_finRange, t.size, Nat.min_self]⟩

/-- All cells alike. -/
def Table.fill (n : Nat) (a : α) : Table α n := ⟨List.replicate n a, List.length_replicate⟩

/-- The cells a function of their numbers. -/
def Table.tabulate (n : Nat) (f : Fin n → α) : Table α n :=
  ⟨(List.finRange n).map f, by rw [List.length_map, List.length_finRange]⟩

end Sys2Proof
end

