-- ==== Sys2Proof/Machine/State.lean ====
section
/-! DEFINITION. The state of the FG416, block by block, the reasons a step can stop, and the state
right after RSTN is released. Every block's record is plain data; each structure cites the rule that
names its fields. -/

namespace Sys2Proof.Machine

/-! ## Why a step can stop -/

/-- A fault of the model's own: the device itself never stops. -/
inductive Fault where
  /-- FORWARDED_BURST_END, where the memory controller ends a burst although words of it are still
  owed: R3 has it return every word of a read, or carry the read's error at a word, and end a write
  after its words. The spec gives such an end no effect. Safe: the model stops (log 6). -/
  | memoryEndsEarly
  deriving DecidableEq, Repr

inductive Refusal where
  /-- A command that has no meaning yet. Safe: the model stops. No arm raises it. -/
  | notModelled (mnemonic : String)
  /-- TRANSACTION_TAKE and VERIFY_BURST_END on a term that stands for nothing a counterpart can send
  (WellFormed.lean). Safe: the model stops (log 7). -/
  | illFormed (mnemonic : String)
  deriving DecidableEq, Repr

/-! ## The Frame Bus Path (01) -/

/-- The LAYOUT settings (R187). -/
structure Layout where
  tileWidth : Nat
  tileHeight : Nat
  columns : Nat
  rows : Nat
  faceBase : Word
  bufferBase : Word
  cueBase : Word
  reportBase : Word
  deriving DecidableEq, Repr

/-- The window of a transaction (R2, R4). `outside` is the spec's NONE. `straddle` marks a straddling
transaction, for which R2's list has no value (DESIGN CHOICE, log 11). -/
inductive Window where
  | face | buffer | cue | report | outside | straddle
  deriving DecidableEq, Repr

inductive Verdict where
  | pass | watch | remap | answer | refuse
  deriving DecidableEq, Repr

inductive Completion where
  | ok | memoryError | refused
  deriving DecidableEq, Repr

/-- A data word of a write with its enables (R2). -/
structure DataWord where
  word : Word
  enables : ByteEnables
  deriving DecidableEq, Repr

/-- The transaction record (R2). `layout`: the LAYOUT settings as they stood at the take (R5), which give
its words their slots and word numbers (log 35). `governed` (log 26): the take was in RUNNING and no
RESTART has followed. `endedShort`: the initiator has ended it short (R19). -/
structure TxRecord where
  initiator : Initiator
  direction : Direction
  address : Word
  length : Nat
  data : List DataWord
  window : Window
  verdict : Verdict
  target : Option BufferNo
  refreshStart : Bool
  wordsDone : Nat
  status : Option Completion
  layout : Layout
  governed : Bool
  endedShort : Bool
  deriving DecidableEq, Repr

/-- The three engines with bursts of their own, in the order of their rank (R15, R16). -/
inductive Engine where
  | writeBack | wipe | verify
  deriving DecidableEq, Repr

/-- An own-burst request (R15). A write-back's data are taken at the grant (R64). -/
structure OwnRequest where
  engine : Engine
  direction : Direction
  address : Word
  length : Nat
  data : List DataWord
  deriving DecidableEq, Repr

inductive BurstSource where
  | forwarded
  | own (e : Engine)
  deriving DecidableEq, Repr

/-- The burst that holds the memory port (R3). `discarded`: its result is thrown away (R15, R21, R22).
`serves` and `carriesFinal`: the slot a write-back burst serves, and whether the outcome it carries is
final (R64). -/
structure Burst where
  source : BurstSource
  direction : Direction
  address : Word
  length : Nat
  data : List DataWord
  discarded : Bool
  serves : Option SlotNo
  carriesFinal : Bool
  deriving DecidableEq, Repr

/-- The Frame Bus Path. `delivered` is the last word driven to an initiator and `closed` the record of
the last transaction completed, with its status (log 30). -/
structure BusState where
  presented : Option Presented
  upstream : Option TxRecord
  port : Option Burst
  writeBackReq : Option OwnRequest
  wipeReq : Option OwnRequest
  verifyReq : Option OwnRequest
  waited : Nat
  errorMark : Bool
  delivered : Option Word
  closed : Option TxRecord
  deriving DecidableEq, Repr

/-! ## The Buffer Table (02) -/

inductive BufferState where
  | free | filling | verifying | staged | showing | suspended | retiring | wiping | outOfUse
  deriving DecidableEq, Repr

/-- The cause of a refused buffer-area write (R26). -/
inductive RefusalCause where
  | state | gate | initiator
  deriving DecidableEq, Repr

/-- A buffer record (R24). -/
structure BufferRecord where
  state : BufferState
  slot : Option SlotNo
  refused : Nat
  lastRefusal : Option RefusalCause
  lastCrc : Option Half
  progress : Nat
  deriving DecidableEq, Repr

/-- The notice gate with its seconds remaining (R33). -/
inductive Gate where
  | closed
  | opened (seconds : Nat)
  deriving DecidableEq, Repr

/-- The verify engine at work (R41). -/
structure VerifyWork where
  buffer : BufferNo
  expected : Half
  wordsRead : Nat
  running : Half
  deriving DecidableEq, Repr

structure BufferTable where
  records : Table BufferRecord 8
  gate : Gate
  sweeping : Option BufferNo
  verifying : Option VerifyWork
  deriving DecidableEq, Repr

/-! ## The Cue unit (03) -/

inductive CueKind where
  | frame | notice | blank | withdraw
  deriving DecidableEq, Repr

inductive SlotState where
  | empty | pending | active | closing
  deriving DecidableEq, Repr

/-- Outcomes (R62). -/
inductive CueOutcome where
  | onFace | suspended | retired | rejected | expired | cancelled | withdrawn | noticeEnded | done
  deriving DecidableEq, Repr

/-- Reasons of a rejection (R62). -/
inductive Reason where
  | badKind | badBuffer | bufferState | noticeActive | noNotice | queueFull | contentMismatch | memoryError
  deriving DecidableEq, Repr

/-- A show stamp (R61). A clock of `none` is the clock-unset marker. -/
structure ShowStamp where
  sequence : Byte
  clock : Option Nat
  deriving DecidableEq, Repr

/-- An end stamp (R61). -/
structure EndStamp where
  clock : Option Nat
  duration : Nat
  deriving DecidableEq, Repr

/-- A slot record (R49). -/
structure SlotRecord where
  state : SlotState
  kind : Option CueKind
  buffer : Option BufferNo
  hostSequence : Byte
  cueTag : Half
  outcome : Option CueOutcome
  reason : Option Reason
  showStamp : Option ShowStamp
  endStamp : Option EndStamp
  shownTime : Nat
  noticeTime : Option Nat
  listed : Bool
  deriving DecidableEq, Repr

/-- A Cue Queue entry (R55). A lifetime of 0 means none. -/
structure QueueEntry where
  slot : SlotNo
  kind : CueKind
  buffer : Option BufferNo
  dwellClass : Fin 4
  pair : Bool
  holdOff : Nat
  lifetime : Nat
  expected : Option Half
  deriving DecidableEq, Repr

/-- A word 7 of a cue slot (R50) or a word 3 of a report slot (R132), noted until its write ends. -/
structure NotedWord (n : Nat) where
  slot : Fin n
  word : Word
  enables : ByteEnables
  deriving DecidableEq, Repr

/-- The Cue unit. Word w of slot s of the ring shadow is cell 4 * s + w (R48). -/
structure CueUnit where
  shadow : Table Word 128
  slots : Table SlotRecord 32
  queue : List QueueEntry
  writeBack : List SlotNo
  noted : List (NotedWord 32)
  deriving DecidableEq, Repr

/-! ## The Show unit (04 R68) -/

inductive Showing where
  | buffer (b : BufferNo) (slot : SlotNo)
  | blank (slot : SlotNo)
  | black
  deriving DecidableEq, Repr

inductive Suspended where
  | empty
  | buffer (b : BufferNo) (slot : SlotNo) (cls : Fin 4)
  | blank (slot : SlotNo) (cls : Fin 4)
  deriving DecidableEq, Repr

inductive Dwell where
  | idle
  | counting (ds : Nat)
  | met
  deriving DecidableEq, Repr

inductive PairWait where
  | idle
  | counting (ds : Nat)
  | expired
  deriving DecidableEq, Repr

structure ShowUnit where
  sequence : Byte
  showing : Showing
  dwellClass : Option (Fin 4)
  suspended : Suspended
  dwell : Dwell
  noticeEnd : Bool
  swapReady : Bool
  latch : Bool
  pairWait : PairWait
  stallCount : Nat
  stalled : Bool
  deriving DecidableEq, Repr

/-! ## The Light unit (05) -/

inductive ChannelState where
  | off | starting | good | dead | saturated
  deriving DecidableEq, Repr

inductive WindowClass where
  | dark | inRange | clipped
  deriving DecidableEq, Repr

/-- A sensor channel (R90). `left` = 0: no window has begun (log 13). -/
structure ChannelRecord where
  state : ChannelState
  window : Nat
  left : Nat
  pulses : Nat
  raw : Option Nat
  last : Option WindowClass
  level : Option Nat
  jumpRun : Nat
  darkRun : Nat
  clipRun : Nat
  deriving DecidableEq, Repr

/-- The clock of day (R100). -/
structure Clock where
  seconds : Nat
  day : Nat
  isSet : Bool
  deriving DecidableEq, Repr

/-- `tick` counts the decisecond steps since the last second step, 0-9 (R99). -/
structure LightUnit where
  channelA : ChannelRecord
  channelB : ChannelRecord
  clock : Clock
  ceiling : Nat
  gain : Nat
  tick : Nat
  deriving DecidableEq, Repr

/-! ## Tiles (06), Scan integrity (07) -/

inductive TileState where
  | lit | suspect | faulted
  deriving DecidableEq, Repr

/-- A tile's echo report, taken from its slot's words (R131, R193). -/
structure Report where
  tile : Byte
  sequence : Byte
  crc : Half
  dark : BitVec 12
  temperature : Byte
  overtemp : Bool
  supplyLow : Bool
  linkLost : Bool
  deriving DecidableEq, Repr

/-- Comparison results (R135, R138). -/
inductive Comparison where
  | matched | mismatch | notCompared | stale | test
  deriving DecidableEq, Repr

/-- A tile's last report (R138). -/
structure LastReport where
  sequence : Byte
  result : Comparison
  dark : BitVec 12
  temperature : Byte
  overtemp : Bool
  supplyLow : Bool
  linkLost : Bool
  deriving DecidableEq, Repr

structure HistoryEntry where
  sequence : Byte
  crc : Half
  complete : Bool
  deriving DecidableEq, Repr

/-- A tile's scan-integrity record (R127). -/
structure TileScan where
  running : Half
  delivered : Nat
  broken : Bool
  history : List HistoryEntry
  silence : Nat
  held : Option Report
  last : Option LastReport
  deriving DecidableEq, Repr

/-- A tile record (R113). -/
structure TileRecord where
  trim : Nat
  derate : Bool
  target : Nat
  bound : Nat
  applied : Nat
  state : TileState
  counter : Nat
  scan : TileScan
  deriving DecidableEq, Repr

/-- The Tile Table with the pair it was last handed (R113). -/
structure TileTable where
  records : Table TileRecord 128
  ceiling : Nat
  gain : Nat
  deriving DecidableEq, Repr

/-- Scan integrity's state for the whole face (R127). Word w of slot i of the report shadow is cell
3 * i + w (R131). -/
structure ScanUnit where
  openRefresh : Option Byte
  shadow : Table Word 384
  noted : List (NotedWord 128)
  deriving DecidableEq, Repr

/-! ## Fault accounting (08 R145, R156) -/

inductive FaultKind where
  | tileSuspect | tileFaulted | tileRecovered | tileOvertemp | reportMisplaced
  | faceBlanked | faceUnblanked | sensorDead | sensorSaturated | sensorRecovered
  | scanStall | scanResumed | pairSkew | memoryError | resultLost | wipeFailed
  deriving DecidableEq, Repr

/-- Seconds of day and day of week. -/
structure ClockReading where
  seconds : Nat
  day : Nat
  deriving DecidableEq, Repr

/-- A fault record (R156). A clock of `none` is the clock-unset marker. -/
structure FaultRecord where
  kind : FaultKind
  tile : Option TileNo
  detail : Half
  sequence : Byte
  clock : Option ClockReading
  deriving DecidableEq, Repr

inductive BlankReason where
  | supervisor | faultLimit
  deriving DecidableEq, Repr

/-- The blank reason set: which of the two reasons it holds. -/
structure BlankReasons where
  supervisor : Bool
  faultLimit : Bool
  deriving DecidableEq, Repr

structure FaultUnit where
  faultedCount : Nat
  reasons : BlankReasons
  queue : List FaultRecord
  overflow : Nat
  deriving DecidableEq, Repr

/-! ## Tile test (09 R162) -/

inductive TestPhase where
  | none | due | sending | awaiting
  deriving DecidableEq, Repr

inductive AttemptResult where
  | pass | mismatch | incomplete | stale | dark | noEcho
  deriving DecidableEq, Repr

inductive TestOutcome where
  | none | inProgress | passed | failedAttempts | failedStall
  deriving DecidableEq, Repr

structure TestRecord where
  tile : Option TileNo
  requested : Option Nat
  used : Nat
  phase : TestPhase
  sequence : Option Byte
  level : Option Nat
  wait : Nat
  named : List Byte
  lastResult : Option AttemptResult
  lastMatched : Option Bool
  lastDark : Option (BitVec 12)
  outcome : TestOutcome
  deriving DecidableEq, Repr

/-! ## Service link (10) -/

/-- Response outcomes (R195). -/
inductive LinkOutcome where
  | ok | crc | framing | unknown | noItem | readOnly | locked | range | busy | reset
  deriving DecidableEq, Repr

/-- The summary flags of a response (R174). -/
structure SummaryFlags where
  faultsWaiting : Bool
  faceBlanked : Bool
  clockUnset : Bool
  resetSeen : Bool
  deriving DecidableEq, Repr

/-- A response as it is held (R174); its CRC-8 is computed. -/
structure Response where
  outcome : LinkOutcome
  flags : SummaryFlags
  item : Half
  data : Half
  deriving DecidableEq, Repr

/-- A frame in progress (R172): the bits received, the first 48 of them, and how many falling edges of
SVCLK have moved the response on (R174). -/
structure LinkFrame where
  bits : Nat
  request : BitVec 48
  place : Nat
  deriving DecidableEq, Repr

/-- The link's wires: the frame in progress, which stands while SVSEL is low; the level driven on SVDO,
none while it is released (R174); and the bits the supervisor has sampled on SVDO in the frame last begun
(log 19). -/
structure LinkWires where
  frame : Option LinkFrame
  svdo : Option Bool
  shifted : List Bool
  deriving DecidableEq, Repr

/-- The eleven services (R196). -/
inductive Service where
  | closeSetup | restart | setClock | openNoticeGate | closeNoticeGate | wipeBuffer | tileTest
  | clearTile | blankFace | unblankFace | captureSnapshot
  deriving DecidableEq, Repr

inductive ServiceState where
  | idle | requested | inProgress | done | failed
  deriving DecidableEq, Repr

inductive ServiceError where
  | none | unknownService | badParameter | bufferState | layoutInvalid | notRunning | testFailed
  | scanStall | memoryError
  deriving DecidableEq, Repr

/-- STATUS (R180, R194): the service code as called, the state, the error. -/
structure ServiceStatus where
  code : Byte
  state : ServiceState
  error : ServiceError
  deriving DecidableEq, Repr

/-- The three parameters of a service. -/
structure Params where
  p1 : Half
  p2 : Half
  p3 : Half
  deriving DecidableEq, Repr

/-- What the last TAKE FAULT brought (R182). -/
inductive FaultWindow where
  | nothing
  | record (r : FaultRecord)
  | overflow (count : Nat)
  deriving DecidableEq, Repr

/-- The held snapshot (R183): item 0 is `captured`, items 1-20 stand in `items` as they read. -/
structure Snapshot where
  captured : Bool
  items : Table Half 20
  deriving DecidableEq, Repr

inductive ResetCause where
  | powerOn | restart
  deriving DecidableEq, Repr

/-- The service link's own state (R185). `handed` is what went with the service last handed over
(R180), `params` what P1 to P3 hold now. -/
structure LinkState where
  response : Response
  resetMark : Bool
  params : Params
  call : Byte
  status : ServiceStatus
  handed : Params
  tileSelect : TileNo
  window : FaultWindow
  snapshot : Snapshot
  resetSeen : Bool
  resetCause : ResetCause
  deriving DecidableEq, Repr

/-! ## Settings and governor (11) -/

structure CurvePoint where
  threshold : Nat
  gain : Nat
  deriving DecidableEq, Repr

/-- A schedule band, its start as the two items it is written by (R102). -/
structure Band where
  enabled : Bool
  startMinute : Nat
  startSecond : Nat
  days : BitVec 7
  ceiling : Nat
  fallback : Nat
  minDwell : Nat
  deriving DecidableEq, Repr

inductive LayoutCheck where
  | none | passed | tileCount | alignment | wrap | overlap
  deriving DecidableEq, Repr

/-- A window named by a layout check (R196). -/
inductive LayoutWindow where
  | face | buffer | cue | report
  deriving DecidableEq, Repr

/-- The layout check windows item (R189): none, one window or a pair. -/
inductive CheckWindows where
  | none
  | one (w : LayoutWindow)
  | two (v w : LayoutWindow)
  deriving DecidableEq, Repr

/-- The settings (R186, R187). OPERATING settings are held by their item index of table 0x02; the
trims stand in the tile records. -/
structure Settings where
  layout : Layout
  operating : Table Nat 36
  curve : Table CurvePoint 16
  bands : Table Band 8
  pairsel : Strap
  check : LayoutCheck
  checkWindows : CheckWindows
  deriving DecidableEq, Repr

inductive Governor where
  | setup | running
  deriving DecidableEq, Repr

/-! ## The whole device -/

/-- The levels of the input lines that are held levels (00 "Lines"): FBRST and RSTN asserted, PARTNER
high. -/
structure Lines where
  fbrst : Bool
  rstn : Bool
  partner : Bool
  deriving DecidableEq, Repr

/-- An event that has come about and is not yet taken (log 2): each is one row of the table. -/
inductive DueEvent where
  | guardClaim
  | takePresented
  | silent (tile : TileNo)
  | testWaitExpiry
  | holdOffEnd (slot : SlotNo)
  | cueExpiry (slot : SlotNo)
  | noticeTimeEnd (slot : SlotNo)
  | dwellMet
  | pairWaitExpiry
  | scanStall
  | gateWindowEnd (ch : Channel)
  | secondStep
  | noticeGateTimeout
  deriving DecidableEq, Repr

structure State where
  pending : List Instr
  due : List DueEvent
  lines : Lines
  bus : BusState
  table : BufferTable
  cues : CueUnit
  face : ShowUnit
  light : LightUnit
  tiles : TileTable
  scan : ScanUnit
  faults : FaultUnit
  test : TestRecord
  wires : LinkWires
  link : LinkState
  settings : Settings
  governor : Governor
  deriving DecidableEq, Repr

/-! ## Values after power-on -/

/-- R24. -/
def BufferRecord.powerOn : BufferRecord :=
  { state := .free, slot := none, refused := 0, lastRefusal := none, lastCrc := none, progress := 0 }

/-- R49, R67: EMPTY with every optional field absent (log 21 for the two echoed fields). -/
def SlotRecord.powerOn : SlotRecord :=
  { state := .empty, kind := none, buffer := none, hostSequence := 0, cueTag := 0, outcome := none,
    reason := none, showStamp := none, endStamp := none, shownTime := 0, noticeTime := none,
    listed := false }

/-- R90 with the default enable 1 and gate length 5 (R186): no window has begun. -/
def ChannelRecord.powerOn : ChannelRecord :=
  { state := .starting, window := 5, left := 0, pulses := 0, raw := none, last := none, level := none,
    jumpRun := 0, darkRun := 0, clipRun := 0 }

/-- R127. -/
def TileScan.powerOn : TileScan :=
  { running := 0xFFFF, delivered := 0, broken := false, history := [], silence := 0, held := none,
    last := none }

/-- R113: the bound is composed from the default pair and trim. -/
def TileRecord.powerOn : TileRecord :=
  { trim := 1024, derate := false, target := 0, bound := 256, applied := 0, state := .lit,
    counter := 0, scan := TileScan.powerOn }

/-- R23: no record, no burst, no request. -/
def BusState.powerOn : BusState :=
  { presented := none, upstream := none, port := none, writeBackReq := none, wipeReq := none,
    verifyReq := none, waited := 0, errorMark := false, delivered := none, closed := none }

/-- R24, R35, R36, R41. -/
def BufferTable.powerOn : BufferTable :=
  { records := Table.fill 8 BufferRecord.powerOn, gate := .closed, sweeping := none, verifying := none }

/-- R48, R49, R55, R63. -/
def CueUnit.powerOn : CueUnit :=
  { shadow := Table.fill 128 0, slots := Table.fill 32 SlotRecord.powerOn, queue := [],
    writeBack := [], noted := [] }

/-- R68. -/
def ShowUnit.powerOn : ShowUnit :=
  { sequence := 0, showing := .black, dwellClass := none, suspended := .empty, dwell := .idle,
    noticeEnd := false, swapReady := false, latch := false, pairWait := .idle, stallCount := 0,
    stalled := false }

/-- R90, R100, R106: with the defaults C and Fg are 256. -/
def LightUnit.powerOn : LightUnit :=
  { channelA := ChannelRecord.powerOn, channelB := ChannelRecord.powerOn,
    clock := { seconds := 0, day := 0, isSet := false }, ceiling := 256, gain := 256, tick := 0 }

/-- R113. -/
def TileTable.powerOn : TileTable :=
  { records := Table.fill 128 TileRecord.powerOn, ceiling := 256, gain := 256 }

/-- R127. -/
def ScanUnit.powerOn : ScanUnit :=
  { openRefresh := none, shadow := Table.fill 384 0, noted := [] }

/-- R145. -/
def FaultUnit.powerOn : FaultUnit :=
  { faultedCount := 0, reasons := { supervisor := false, faultLimit := false }, queue := [],
    overflow := 0 }

/-- R162. -/
def TestRecord.powerOn : TestRecord :=
  { tile := none, requested := none, used := 0, phase := .none, sequence := none, level := none,
    wait := 0, named := [], lastResult := none, lastMatched := none, lastDark := none,
    outcome := .none }

/-- R172, R174: no frame in progress, SVDO released. -/
def LinkWires.powerOn : LinkWires := { frame := none, svdo := none, shifted := [] }

/-- R185, R175: the held response carries RESET and the flags as the device then is. -/
def LinkState.powerOn : LinkState :=
  { response :=
      { outcome := .reset,
        flags := { faultsWaiting := false, faceBlanked := false, clockUnset := true, resetSeen := true },
        item := 0, data := 0 },
    resetMark := false, params := { p1 := 0, p2 := 0, p3 := 0 }, call := 0,
    status := { code := 0, state := .idle, error := .none },
    handed := { p1 := 0, p2 := 0, p3 := 0 }, tileSelect := 0, window := .nothing,
    snapshot := { captured := false, items := Table.fill 20 0 }, resetSeen := true,
    resetCause := .powerOn }

/-- R187. -/
def Layout.powerOn : Layout :=
  { tileWidth := 32, tileHeight := 32, columns := 8, rows := 4, faceBase := 0x10000000#32,
    bufferBase := 0x20000000#32, cueBase := 0x30000000#32, reportBase := 0x30010000#32 }

/-- R186: the defaults of table 0x02 in item order. -/
def Settings.operatingDefaults : Table Nat 36 :=
  ⟨[8, 32] ++ [1, 5, 2, 512, 20, 20] ++ [1, 5, 2, 512, 20, 20] ++ [16, 64] ++ [4, 2, 8, 4, 2, 8]
    ++ [1, 8, 16, 60, 20, 10] ++ [80, 150, 300, 600] ++ [256, 1024, 512, 0], rfl⟩

/-- R186. -/
def Band.powerOn : Band :=
  { enabled := false, startMinute := 0, startSecond := 0, days := 127, ceiling := 1024,
    fallback := 512, minDwell := 0 }

/-- R186, R187: every setting at its default, PAIRSEL as the strap stands. -/
def Settings.powerOn (strap : Strap) : Settings :=
  { layout := Layout.powerOn, operating := Settings.operatingDefaults,
    curve := Table.tabulate 16 fun p => { threshold := 256 * p.val + 255, gain := 64 * p.val + 64 },
    bands := Table.fill 8 Band.powerOn, pairsel := strap, check := .none, checkWindows := .none }

/-- R192: the device as RSTN is released with the strap so, FBRST released and PARTNER low. -/
def State.powerOn (strap : Strap) : State :=
  { pending := [], due := [], lines := { fbrst := false, rstn := false, partner := false },
    bus := BusState.powerOn, table := BufferTable.powerOn, cues := CueUnit.powerOn,
    face := ShowUnit.powerOn, light := LightUnit.powerOn, tiles := TileTable.powerOn,
    scan := ScanUnit.powerOn, faults := FaultUnit.powerOn, test := TestRecord.powerOn,
    wires := LinkWires.powerOn, link := LinkState.powerOn, settings := Settings.powerOn strap, governor := .setup }

/-- The machine right after reset (R192). The strap is at ALONE and the input lines are quiet
(DESIGN CHOICE, log 8 and 9). -/
def State.reset : State := State.powerOn .alone

/-! ## One named update for each block -/

def State.onDue (s : State) (f : List DueEvent → List DueEvent) : State := { s with due := f s.due }
def State.onLines (s : State) (f : Lines → Lines) : State := { s with lines := f s.lines }
def State.onBus (s : State) (f : BusState → BusState) : State := { s with bus := f s.bus }
def State.onTable (s : State) (f : BufferTable → BufferTable) : State := { s with table := f s.table }
def State.onCues (s : State) (f : CueUnit → CueUnit) : State := { s with cues := f s.cues }
def State.onFace (s : State) (f : ShowUnit → ShowUnit) : State := { s with face := f s.face }
def State.onLight (s : State) (f : LightUnit → LightUnit) : State := { s with light := f s.light }
def State.onTiles (s : State) (f : TileTable → TileTable) : State := { s with tiles := f s.tiles }
def State.onScan (s : State) (f : ScanUnit → ScanUnit) : State := { s with scan := f s.scan }
def State.onFaults (s : State) (f : FaultUnit → FaultUnit) : State := { s with faults := f s.faults }
def State.onTest (s : State) (f : TestRecord → TestRecord) : State := { s with test := f s.test }
def State.onWires (s : State) (f : LinkWires → LinkWires) : State := { s with wires := f s.wires }
def State.onLink (s : State) (f : LinkState → LinkState) : State := { s with link := f s.link }
def State.onSettings (s : State) (f : Settings → Settings) : State := { s with settings := f s.settings }
def State.withGovernor (s : State) (g : Governor) : State := { s with governor := g }
def State.withPending (s : State) (q : List Instr) : State := { s with pending := q }

end Sys2Proof.Machine
end

