-- ==== Sys2Proof/Machine/Operands.lean ====
section
/-! DEFINITION. Operand forms: checksums, the bit fields of the words and items the device reads and
writes (12 "Record Layouts"), the windows a transaction's words lie in (01), the face geometry (06)
and the item numbers of the service link (10). -/

namespace Sys2Proof

/-! ## Forms of the operand types of Syntax.lean -/

def ByteEnables.all : ByteEnables := { b3 := true, b2 := true, b1 := true, b0 := true }

def ByteEnables.isAll (e : ByteEnables) : Bool := e.b3 && e.b2 && e.b1 && e.b0

/-- R196. -/
def Strap.code : Strap → Half
  | .alone => 0 | .paired => 1

def CurveField.number : CurveField → Nat
  | .threshold => 0 | .gain => 1

def BandField.number : BandField → Nat
  | .enabled => 0 | .startMinute => 1 | .startSecond => 2 | .days => 3 | .ceiling => 4
  | .fallback => 5 | .minDwell => 6

def BandField.ofNumber : Nat → Option BandField
  | 0 => some .enabled | 1 => some .startMinute | 2 => some .startSecond | 3 => some .days
  | 4 => some .ceiling | 5 => some .fallback | 6 => some .minDwell | _ => none

/-- Table in the high byte, index in the low byte. -/
def itemNumber (tableNo index : Nat) : Half := BitVec.ofNat 8 tableNo ++ BitVec.ofNat 8 index

/-- The item number of an item. -/
def Item.number : Item → Half
  | .status i => itemNumber 0x00 i.val
  | .layout i => itemNumber 0x01 i.val
  | .operating i => itemNumber 0x02 i.val
  | .curve p f => itemNumber 0x03 (2 * p.val + f.number)
  | .band b f => itemNumber 0x04 (8 * b.val + f.number)
  | .trim t => itemNumber 0x05 t.val
  | .param i => itemNumber 0x08 i.val
  | .call => itemNumber 0x08 3
  | .serviceStatus => itemNumber 0x08 4
  | .faultWindow i => itemNumber 0x09 i.val
  | .snapshot i => itemNumber 0x0A i.val
  | .tileSelect => itemNumber 0x10 0
  | .tileField i => itemNumber 0x10 (i.val + 1)
  | .bufferField k f => itemNumber 0x11 (8 * k.val + f.val)
  | .gateState => itemNumber 0x11 64
  | .gateSeconds => itemNumber 0x11 65
  | .testField i => itemNumber 0x12 i.val
  | .testNamed i => itemNumber 0x12 (i.val + 16)

end Sys2Proof

namespace Sys2Proof.Machine

/-! ## Checksums (R1) -/

/-- One bit into the CRC-16 register, polynomial x^16 + x^12 + x^5 + 1. -/
def crc16Bit (crc : Half) (b : Bool) : Half :=
  if crc.msb != b then (crc <<< 1) ^^^ 0x1021#16 else crc <<< 1

/-- One word, most significant byte and bit first. -/
def crc16Word (crc : Half) (w : Word) : Half :=
  (List.range 32).foldl (fun c i => crc16Bit c (w.getMsbD i)) crc

/-- The initial value of the CRC-16. -/
def crc16Init : Half := 0xFFFF#16

def crc16Words (crc : Half) (ws : List Word) : Half := ws.foldl crc16Word crc

/-- One bit into the CRC-8 register, polynomial x^8 + x^2 + x + 1. -/
def crc8Bit (crc : Byte) (b : Bool) : Byte :=
  if crc.msb != b then (crc <<< 1) ^^^ 0x07#8 else crc <<< 1

/-- The CRC-8 of the first five bytes of a frame, initial value 0xFF. -/
def crc8 (bytes : BitVec 40) : Byte :=
  (List.range 40).foldl (fun c i => crc8Bit c (bytes.getMsbD i)) 0xFF#8

/-! ## Byte enables -/

/-- R48, R131: each byte whose enable is on replaces the same byte. -/
def mergeBytes (old new : Word) (e : ByteEnables) : Word :=
  (if e.b3 then new.extractLsb' 24 8 else old.extractLsb' 24 8)
    ++ (if e.b2 then new.extractLsb' 16 8 else old.extractLsb' 16 8)
    ++ (if e.b1 then new.extractLsb' 8 8 else old.extractLsb' 8 8)
    ++ (if e.b0 then new.extractLsb' 0 8 else old.extractLsb' 0 8)

/-! ## Words the host writes (R193) -/

/-- Cue word 0 bits 3:0. -/
def cueKindOf (w0 : Word) : Option CueKind :=
  match (w0.extractLsb' 0 4).toNat with
  | 1 => some .frame
  | 2 => some .notice
  | 3 => some .blank
  | 4 => some .withdraw
  | _ => none

/-- Cue word 0 bits 10:8. -/
def cueBufferOf (w0 : Word) : BufferNo := (w0.extractLsb' 8 3).toFin

/-- Cue word 0 bits 17:16. -/
def cueDwellClassOf (w0 : Word) : Fin 4 := (w0.extractLsb' 16 2).toFin

/-- Cue word 0 bit 24. -/
def cuePairOf (w0 : Word) : Bool := w0.getLsbD 24

/-- Cue words 1 and 2 bits 15:0. -/
def cueTimeOf (w : Word) : Nat := (w.extractLsb' 0 16).toNat

/-- Cue word 3: bit 31 marks the check present, bits 15:0 hold the expected CRC-16. -/
def cueCheckOf (w3 : Word) : Option Half :=
  if w3.getLsbD 31 then some (w3.extractLsb' 0 16) else none

/-- Cue word 7 bits 31:24. -/
def commitMarkerOf (w7 : Word) : Byte := w7.extractLsb' 24 8

def commitMarker : Byte := 0x5C#8

def hostSequenceOf (w7 : Word) : Byte := w7.extractLsb' 16 8

def cueTagOf (w7 : Word) : Half := w7.extractLsb' 0 16

/-- A report from words 0-2 of a slot and its flags word 3. -/
def reportOf (w0 w1 w2 w3 : Word) : Report :=
  { tile := w0.extractLsb' 8 8, sequence := w0.extractLsb' 0 8, crc := w1.extractLsb' 0 16,
    dark := w2.extractLsb' 16 12, temperature := w2.extractLsb' 0 8,
    overtemp := w3.getLsbD 0, supplyLow := w3.getLsbD 1, linkLost := w3.getLsbD 2 }

/-- The decoded temperature as a signed 16-bit value: the byte less 64. -/
def temperatureOf (t : Byte) : Half := t.setWidth 16 - 64#16

/-! ## The pixel word (R110, R165, R193) -/

/-- floor(channel × A / 1024). -/
def scaleChannel (c : BitVec 10) (a : Nat) : BitVec 10 := BitVec.ofNat 10 (c.toNat * a / 1024)

/-- The three channels scaled, the upper field passed. -/
def scaleWord (w : Word) (a : Nat) : Word :=
  w.extractLsb' 30 2 ++ scaleChannel (w.extractLsb' 20 10) a ++ scaleChannel (w.extractLsb' 10 10) a
    ++ scaleChannel (w.extractLsb' 0 10) a

/-- Red, green and blue at the pattern level, upper field 0. -/
def patternWord (level : Nat) : Word :=
  0#2 ++ BitVec.ofNat 10 level ++ BitVec.ofNat 10 level ++ BitVec.ofNat 10 level

/-! ## Geometry (R108, R109) -/

def Layout.faceWidth (l : Layout) : Nat := l.columns * l.tileWidth
def Layout.faceHeight (l : Layout) : Nat := l.rows * l.tileHeight
def Layout.tileCount (l : Layout) : Nat := l.columns * l.rows
def Layout.wordsPerTile (l : Layout) : Nat := l.tileWidth * l.tileHeight
def Layout.faceWords (l : Layout) : Nat := l.faceWidth * l.faceHeight
def Layout.faceSize (l : Layout) : Nat := l.faceWords * 4

/-- The tile of the word at a face offset. -/
def Layout.tileOf (l : Layout) (offset : Nat) : Nat :=
  let p := offset / 4
  p / l.faceWidth / l.tileHeight * l.columns + p % l.faceWidth / l.tileWidth

/-- The word's place in its tile (R128). -/
def Layout.localIndex (l : Layout) (offset : Nat) : Nat :=
  let p := offset / 4
  p / l.faceWidth % l.tileHeight * l.tileWidth + p % l.faceWidth % l.tileWidth

/-! ## Windows (R4, R46, R131, R189) -/

def LayoutWindow.base (l : Layout) : LayoutWindow → Nat
  | .face => l.faceBase.toNat
  | .buffer => l.bufferBase.toNat
  | .cue => l.cueBase.toNat
  | .report => l.reportBase.toNat

/-- The window sizes in bytes. -/
def LayoutWindow.size (l : Layout) : LayoutWindow → Nat
  | .face => l.faceSize
  | .buffer => 8 * l.faceSize
  | .cue => 1024
  | .report => 2048

/-- The byte address `a` lies in the window. A word is judged by the address of its first byte, also in
SETUP under a base that is not word aligned (DESIGN CHOICE, log 34), and no window wraps (log 22). -/
def LayoutWindow.holds (l : Layout) (w : LayoutWindow) (a : Nat) : Bool :=
  decide (w.base l ≤ a) && decide (a < w.base l + w.size l)

def LayoutWindow.toWindow : LayoutWindow → Window
  | .face => .face
  | .buffer => .buffer
  | .cue => .cue
  | .report => .report

/-- The four windows in the order of R189. -/
def layoutWindows : List LayoutWindow := [.face, .buffer, .cue, .report]

/-- Word j lies at the address plus 4 × j, modulo 2^32 (R2). -/
def wordAddress (address : Word) (j : Nat) : Nat := (address + BitVec.ofNat 32 (4 * j)).toNat

def burstAddresses (address : Word) (length : Nat) : List Nat :=
  (List.range length).map (wordAddress address)

/-- R4: the one window that holds every word, NONE where no word lies in any, else a straddle. Where
windows overlap, which only SETUP allows, the first of face, buffer, cue and report that holds every word
(DESIGN CHOICE, log 33). -/
def classify (l : Layout) (address : Word) (length : Nat) : Window :=
  let as := burstAddresses address length
  match layoutWindows.find? (fun w => as.all (w.holds l)) with
  | some w => w.toWindow
  | none =>
    if as.all (fun a => layoutWindows.all (fun w => !w.holds l a)) then .outside else .straddle

def Layout.bufferAddress (l : Layout) (k : BufferNo) : Nat := l.bufferBase.toNat + k.val * l.faceSize

/-- The buffers at least one word of the burst lies in, in address order (R4, R8). -/
def touchedBuffers (l : Layout) (address : Word) (length : Nat) : List BufferNo :=
  let as := burstAddresses address length
  (List.finRange 8).filter fun k =>
    as.any fun a => decide (l.bufferAddress k ≤ a) && decide (a < l.bufferAddress k + l.faceSize)

/-- The cue slot of an address in the ring. -/
def cueSlotAt (l : Layout) (a : Nat) : SlotNo := Fin.ofNat 32 ((a - l.cueBase.toNat) / 32)

/-- The word number of an address in the ring, 0-7. -/
def cueWordAt (l : Layout) (a : Nat) : Nat := (a - l.cueBase.toNat) % 32 / 4

def reportSlotAt (l : Layout) (a : Nat) : TileNo := Fin.ofNat 128 ((a - l.reportBase.toNat) / 16)

def reportWordAt (l : Layout) (a : Nat) : Nat := (a - l.reportBase.toNat) % 16 / 4

/-- Words 0-3 of a slot in the ring shadow, as cell numbers (R48). -/
def cueShadowCell (slot : SlotNo) (word : Nat) : Fin 128 := Fin.ofNat 128 (4 * slot.val + word)

/-- Words 0-2 of a slot in the report shadow, as cell numbers (R131). -/
def reportShadowCell (slot : TileNo) (word : Nat) : Fin 384 := Fin.ofNat 384 (3 * slot.val + word)

/-! ## Words and items the device writes (R194, R196) -/

/-- The 17-bit clock field: seconds of day, or the clock-unset marker. -/
def clockField : Option Nat → BitVec 17
  | some t => BitVec.ofNat 17 t
  | none => 0x1FFFE#17

/-- The clock field where a stamp is absent. -/
def absentClockField : BitVec 17 := 0x1FFFF#17

def CueOutcome.code : CueOutcome → BitVec 4
  | .onFace => 1 | .suspended => 2 | .retired => 3 | .rejected => 4 | .expired => 5
  | .cancelled => 6 | .withdrawn => 7 | .noticeEnded => 8 | .done => 9

def Reason.code : Reason → BitVec 4
  | .badKind => 1 | .badBuffer => 2 | .bufferState => 3 | .noticeActive => 4 | .noNotice => 5
  | .queueFull => 6 | .contentMismatch => 7 | .memoryError => 8

/-- Word 4 of a slot. -/
def resultWord4 (r : SlotRecord) : Word :=
  ((r.outcome.map CueOutcome.code).getD 0) ++ ((r.reason.map Reason.code).getD 0) ++ r.hostSequence
    ++ r.cueTag

def endClockField (r : SlotRecord) : BitVec 17 :=
  match r.endStamp with
  | some e => clockField e.clock
  | none => absentClockField

/-- Word 5 of a slot: the show stamp, and bit 16 of the end stamp's clock field at bit 23. -/
def resultWord5 (r : SlotRecord) : Word :=
  let stamp : Byte × BitVec 17 :=
    match r.showStamp with
    | some t => (t.sequence, clockField t.clock)
    | none => (0, absentClockField)
  stamp.1 ++ (endClockField r).extractLsb' 16 1 ++ 0#6 ++ stamp.2

/-- Word 6 of a slot: the shown duration and bits 15:0 of the end stamp's clock field. -/
def resultWord6 (r : SlotRecord) : Word :=
  BitVec.ofNat 16 ((r.endStamp.map EndStamp.duration).getD 0) ++ (endClockField r).extractLsb' 0 16

def resultWords (r : SlotRecord) : List DataWord :=
  [resultWord4 r, resultWord5 r, resultWord6 r].map fun w => { word := w, enables := ByteEnables.all }

/-- An optional field that is absent reads 0xFFFF. -/
def absentItem : Half := 0xFFFF#16

/-- The fault window's clock items where the record carries the clock-unset marker. -/
def unsetClockItem : Half := 0xFFFE#16

def optItem : Option Half → Half
  | some v => v
  | none => absentItem

def natItem (n : Nat) : Half := BitVec.ofNat 16 n

def optNatItem (n : Option Nat) : Half := optItem (n.map natItem)

def boolItem (b : Bool) : Half := if b then 1 else 0

def Service.code : Service → Byte
  | .closeSetup => 1 | .restart => 2 | .setClock => 3 | .openNoticeGate => 4 | .closeNoticeGate => 5
  | .wipeBuffer => 6 | .tileTest => 7 | .clearTile => 8 | .blankFace => 9 | .unblankFace => 10
  | .captureSnapshot => 11

/-- R196: codes 1-11 are the services; every other code is unknown. -/
def knownServiceCode (c : Byte) : Bool := decide (1 ≤ c.toNat) && decide (c.toNat ≤ 11)

def ServiceState.code : ServiceState → BitVec 4
  | .idle => 0 | .requested => 1 | .inProgress => 2 | .done => 3 | .failed => 4

def ServiceError.code : ServiceError → BitVec 4
  | .none => 0 | .unknownService => 1 | .badParameter => 2 | .bufferState => 3 | .layoutInvalid => 4
  | .notRunning => 5 | .testFailed => 6 | .scanStall => 7 | .memoryError => 8

def FaultKind.code : FaultKind → Byte
  | .tileSuspect => 1 | .tileFaulted => 2 | .tileRecovered => 3 | .tileOvertemp => 4
  | .reportMisplaced => 5 | .faceBlanked => 6 | .faceUnblanked => 7 | .sensorDead => 8
  | .sensorSaturated => 9 | .sensorRecovered => 10 | .scanStall => 11 | .scanResumed => 12
  | .pairSkew => 13 | .memoryError => 14 | .resultLost => 15 | .wipeFailed => 16

def BufferState.code : BufferState → Half
  | .free => 0 | .filling => 1 | .verifying => 2 | .staged => 3 | .showing => 4 | .suspended => 5
  | .retiring => 6 | .wiping => 7 | .outOfUse => 8

def RefusalCause.code : RefusalCause → Half
  | .state => 1 | .gate => 2 | .initiator => 3

def TileState.code : TileState → Half
  | .lit => 0 | .suspect => 1 | .faulted => 2

def Comparison.code : Comparison → Half
  | .matched => 0 | .mismatch => 1 | .notCompared => 2 | .stale => 3 | .test => 4

def ChannelState.code : ChannelState → Half
  | .off => 0 | .starting => 1 | .good => 2 | .dead => 3 | .saturated => 4

def Governor.code : Governor → Half
  | .setup => 0 | .running => 1

def ResetCause.code : ResetCause → Half
  | .powerOn => 0 | .restart => 1

def TestPhase.code : TestPhase → Half
  | .none => 0 | .due => 1 | .sending => 2 | .awaiting => 3

def TestOutcome.code : TestOutcome → Half
  | .none => 0 | .inProgress => 1 | .passed => 2 | .failedAttempts => 3 | .failedStall => 4

def AttemptResult.code : AttemptResult → Half
  | .pass => 0 | .mismatch => 1 | .incomplete => 2 | .stale => 3 | .dark => 4 | .noEcho => 5

def LayoutCheck.code : LayoutCheck → Half
  | .none => 0 | .passed => 1 | .tileCount => 2 | .alignment => 3 | .wrap => 4 | .overlap => 5

def LayoutWindow.code : LayoutWindow → BitVec 4
  | .face => 1 | .buffer => 2 | .cue => 3 | .report => 4

/-- R196: bits 7:4 and 3:0 each a window; a single window stands in bits 3:0. Of a pair the window R189
names first stands in bits 7:4 (DESIGN CHOICE, log 39). -/
def CheckWindows.code : CheckWindows → Half
  | .none => 0
  | .one w => 0#12 ++ w.code
  | .two v w => 0#8 ++ v.code ++ w.code

def LinkOutcome.code : LinkOutcome → BitVec 4
  | .ok => 0 | .crc => 1 | .framing => 2 | .unknown => 3 | .noItem => 4 | .readOnly => 5
  | .locked => 6 | .range => 7 | .busy => 8 | .reset => 9

/-- R194: bits 15:8 the service code, 7:4 the state, 3:0 the error. -/
def ServiceStatus.item (t : ServiceStatus) : Half := t.code ++ t.state.code ++ t.error.code

/-- R194: bit 0 SUPERVISOR, bit 1 FAULT_LIMIT, bits 15:8 the faulted count. -/
def blankItem (r : BlankReasons) (count : Nat) : Half :=
  BitVec.ofNat 8 count ++ 0#6 ++ BitVec.ofBool r.faultLimit ++ BitVec.ofBool r.supervisor

/-- R194: bit 15 complete, bits 7:0 the sequence. -/
def HistoryEntry.item (e : HistoryEntry) : Half := BitVec.ofBool e.complete ++ 0#7 ++ e.sequence

/-- R194: the bit positions of report word 3. -/
def LastReport.flagsItem (r : LastReport) : Half :=
  0#13 ++ BitVec.ofBool r.linkLost ++ BitVec.ofBool r.supplyLow ++ BitVec.ofBool r.overtemp

/-! ## Service-link frames (R195) -/

def commandNop : Byte := 0#8
def commandRead : Byte := 1#8
def commandWrite : Byte := 2#8
def commandTakeFault : Byte := 3#8

/-- A request of 48 bits with its CRC-8. -/
def requestFrame (command : Byte) (item data : Half) : BitVec 48 :=
  (command ++ item ++ data) ++ crc8 (command ++ item ++ data)

/-- The six bytes of a response as they are shifted out. -/
def Response.frame (r : Response) : BitVec 48 :=
  let bytes : BitVec 40 :=
    r.outcome.code ++ BitVec.ofBool r.flags.faultsWaiting ++ BitVec.ofBool r.flags.faceBlanked
      ++ BitVec.ofBool r.flags.clockUnset ++ BitVec.ofBool r.flags.resetSeen ++ r.item ++ r.data
  bytes ++ crc8 bytes

/-! ## Item numbers (R178, R179) -/

/-- A number below `n`. -/
def finOf? (n i : Nat) : Option (Fin n) := if h : i < n then some ⟨i, h⟩ else none

/-- Table 0x03: index 2 × p is point p's threshold, 2 × p + 1 its gain. -/
def curveItemOf (i : Nat) : Option Item :=
  (finOf? 16 (i / 2)).map fun p => .curve p (if i % 2 = 0 then .threshold else .gain)

/-- Table 0x04: 8 × b + f; index 8 × b + 7 does not exist. -/
def bandItemOf (i : Nat) : Option Item :=
  (finOf? 8 (i / 8)).bind fun b => (BandField.ofNumber (i % 8)).map fun f => .band b f

/-- Table 0x08. -/
def serviceItemOf (i : Nat) : Option Item :=
  if i = 3 then some .call
  else if i = 4 then some .serviceStatus
  else (finOf? 3 i).map .param

/-- Table 0x10. -/
def tileItemOf (i : Nat) : Option Item :=
  if i = 0 then some .tileSelect else (finOf? 25 (i - 1)).map .tileField

/-- Table 0x11: 8 × k + f, and 64 and 65; index 8 × k + 7 does not exist. -/
def bufferItemOf (i : Nat) : Option Item :=
  if i = 64 then some .gateState
  else if i = 65 then some .gateSeconds
  else (finOf? 8 (i / 8)).bind fun k => (finOf? 7 (i % 8)).map fun f => .bufferField k f

/-- Table 0x12: 0-11 and 16-30. -/
def testItemOf (i : Nat) : Option Item :=
  if i < 16 then (finOf? 12 i).map .testField else (finOf? 15 (i - 16)).map .testNamed

/-- The item an item number names; none: NO_ITEM. -/
def itemOf (n : Half) : Option Item :=
  let i := (n.extractLsb' 0 8).toNat
  match (n.extractLsb' 8 8).toNat with
  | 0x00 => (finOf? 24 i).map .status
  | 0x01 => (finOf? 15 i).map .layout
  | 0x02 => (finOf? 36 i).map .operating
  | 0x03 => curveItemOf i
  | 0x04 => bandItemOf i
  | 0x05 => (finOf? 128 i).map .trim
  | 0x08 => serviceItemOf i
  | 0x09 => (finOf? 7 i).map .faultWindow
  | 0x0A => (finOf? 21 i).map .snapshot
  | 0x10 => tileItemOf i
  | 0x11 => bufferItemOf i
  | 0x12 => testItemOf i
  | _ => none

end Sys2Proof.Machine
end

