-- ==== Sys2Proof/Machine/Catalogue.lean ====
section
/-! DEFINITION. The setting catalogue (11): the settings by name, their ranges, and how a written value
is stored. -/

namespace Sys2Proof.Machine

/-! ## The OPERATING settings of table 0x02 by name (R186) -/

def Settings.rampUp (s : Settings) : Nat := s.operating.get 0
def Settings.rampDown (s : Settings) : Nat := s.operating.get 1
def Settings.suspectLimit (s : Settings) : Nat := s.operating.get 14
def Settings.faultLimit (s : Settings) : Nat := s.operating.get 15
def Settings.weightMismatch (s : Settings) : Nat := s.operating.get 16
def Settings.weightStale (s : Settings) : Nat := s.operating.get 17
def Settings.weightSilent (s : Settings) : Nat := s.operating.get 18
def Settings.weightDark (s : Settings) : Nat := s.operating.get 19
def Settings.weightSupply (s : Settings) : Nat := s.operating.get 20
def Settings.weightLink (s : Settings) : Nat := s.operating.get 21
def Settings.tileBlank (s : Settings) : Bool := s.operating.get 22 != 0
def Settings.faceFaultLimit (s : Settings) : Nat := s.operating.get 23
def Settings.darkLimit (s : Settings) : Nat := s.operating.get 24
def Settings.reportTimeout (s : Settings) : Nat := s.operating.get 25
def Settings.stallLimit (s : Settings) : Nat := s.operating.get 26
def Settings.pairWait (s : Settings) : Nat := s.operating.get 27
def Settings.dwellClass (s : Settings) (c : Fin 4) : Nat := s.operating.get ⟨28 + c.val, by omega⟩
def Settings.unsetCeiling (s : Settings) : Nat := s.operating.get 32
def Settings.defaultCeiling (s : Settings) : Nat := s.operating.get 33
def Settings.defaultFallback (s : Settings) : Nat := s.operating.get 34
def Settings.defaultMinDwell (s : Settings) : Nat := s.operating.get 35

/-- The six settings of a sensor channel (R90). -/
structure ChannelSettings where
  enable : Bool
  gate : Nat
  shift : Nat
  jump : Nat
  dead : Nat
  saturation : Nat
  deriving DecidableEq, Repr

/-- Index of a channel's enable in table 0x02. -/
def channelIndex : Channel → Fin 36
  | .a => 2
  | .b => 8

def Settings.channel (s : Settings) : Channel → ChannelSettings
  | .a =>
    { enable := s.operating.get 2 != 0, gate := s.operating.get 3, shift := s.operating.get 4,
      jump := s.operating.get 5, dead := s.operating.get 6, saturation := s.operating.get 7 }
  | .b =>
    { enable := s.operating.get 8 != 0, gate := s.operating.get 9, shift := s.operating.get 10,
      jump := s.operating.get 11, dead := s.operating.get 12, saturation := s.operating.get 13 }

/-- The items of table 0x02 that the rows with behaviour of their own write (R186). -/
def channelEnableIndex : Channel → Fin 36
  | .a => 2
  | .b => 8

def channelSettingIndex : Channel → ChannelSetting → Fin 36
  | .a, .gate => 3 | .a, .shift => 4 | .a, .jump => 5 | .a, .dead => 6 | .a, .saturation => 7
  | .b, .gate => 9 | .b, .shift => 10 | .b, .jump => 11 | .b, .dead => 12 | .b, .saturation => 13

def limitIndex : Limit → Fin 36
  | .suspect => 14
  | .fault => 15

def defaultBandIndex : DefaultBandField → Fin 36
  | .ceiling => 33
  | .fallback => 34
  | .minDwell => 35

/-! ## Ranges (R186, R187) -/

/-- Low and high end of each item of table 0x02. -/
def operatingRanges : Table (Nat × Nat) 36 :=
  ⟨[(1, 64), (1, 64)]
    ++ [(0, 1), (1, 10), (0, 4), (0, 4095), (1, 255), (1, 255)]
    ++ [(0, 1), (1, 10), (0, 4), (0, 4095), (1, 255), (1, 255)]
    ++ [(1, 255), (1, 255)] ++ [(1, 15), (1, 15), (1, 15), (1, 15), (1, 15), (1, 15)]
    ++ [(0, 1), (0, 128), (0, 4095), (1, 255), (1, 100), (1, 50)]
    ++ [(10, 36000), (10, 36000), (10, 36000), (10, 36000)]
    ++ [(0, 1024), (0, 1024), (0, 1024), (0, 36000)], rfl⟩

def BandField.high : BandField → Nat
  | .enabled => 1
  | .startMinute => 1439
  | .startSecond => 59
  | .days => 127
  | .ceiling => 1024
  | .fallback => 1024
  | .minDwell => 36000

/-- R187: 16, 32 or 64 for a tile's width and height, 1-16 for columns and rows, any half of a base. -/
def layoutInRange (i : Fin 15) (v : Nat) : Bool :=
  match i.val with
  | 0 | 1 => v == 16 || v == 32 || v == 64
  | 2 | 3 => decide (1 ≤ v) && decide (v ≤ 16)
  | _ => true

/-- R176 check 4: the value lies in the item's range. Read-only items have none. -/
def itemInRange : Item → Nat → Bool
  | .layout i, v => layoutInRange i v
  | .operating i, v => decide ((operatingRanges.get i).1 ≤ v) && decide (v ≤ (operatingRanges.get i).2)
  | .curve _ .threshold, v => decide (v ≤ 4095)
  | .curve _ .gain, v => decide (v ≤ 1024)
  | .band _ f, v => decide (v ≤ BandField.high f)
  | .trim _, v => decide (v ≤ 1024)
  | .call, v => decide (v ≤ 255)
  | .tileSelect, v => decide (v ≤ 127)
  | _, _ => true

/-- R176 check 2, R178, R187: the items that are read-only. -/
def itemReadOnly : Item → Bool
  | .layout i => decide (12 ≤ i.val)
  | .operating _ | .curve _ _ | .band _ _ | .trim _ | .param _ | .call | .tileSelect => false
  | .status _ | .serviceStatus | .faultWindow _ | .snapshot _ | .tileField _ | .bufferField _ _
  | .gateState | .gateSeconds | .testField _ | .testNamed _ => true

/-- R176 check 3: a LAYOUT setting of table 0x01. -/
def itemIsLayout : Item → Bool
  | .layout _ => true
  | _ => false

/-! ## Storing a setting -/

/-- One half of a base replaced (R187). -/
def withHighHalf (base : Word) (h : Half) : Word := h ++ base.extractLsb' 0 16
def withLowHalf (base : Word) (h : Half) : Word := base.extractLsb' 16 16 ++ h

/-- Table 0x01 index 0-11. -/
def Layout.store (l : Layout) (i : Fin 15) (v : Half) : Layout :=
  match i.val with
  | 0 => { l with tileWidth := v.toNat }
  | 1 => { l with tileHeight := v.toNat }
  | 2 => { l with columns := v.toNat }
  | 3 => { l with rows := v.toNat }
  | 4 => { l with faceBase := withHighHalf l.faceBase v }
  | 5 => { l with faceBase := withLowHalf l.faceBase v }
  | 6 => { l with bufferBase := withHighHalf l.bufferBase v }
  | 7 => { l with bufferBase := withLowHalf l.bufferBase v }
  | 8 => { l with cueBase := withHighHalf l.cueBase v }
  | 9 => { l with cueBase := withLowHalf l.cueBase v }
  | 10 => { l with reportBase := withHighHalf l.reportBase v }
  | 11 => { l with reportBase := withLowHalf l.reportBase v }
  | _ => l

/-- Table 0x01 as read. -/
def Settings.layoutItem (s : Settings) (i : Fin 15) : Half :=
  match i.val with
  | 0 => natItem s.layout.tileWidth
  | 1 => natItem s.layout.tileHeight
  | 2 => natItem s.layout.columns
  | 3 => natItem s.layout.rows
  | 4 => s.layout.faceBase.extractLsb' 16 16
  | 5 => s.layout.faceBase.extractLsb' 0 16
  | 6 => s.layout.bufferBase.extractLsb' 16 16
  | 7 => s.layout.bufferBase.extractLsb' 0 16
  | 8 => s.layout.cueBase.extractLsb' 16 16
  | 9 => s.layout.cueBase.extractLsb' 0 16
  | 10 => s.layout.reportBase.extractLsb' 16 16
  | 11 => s.layout.reportBase.extractLsb' 0 16
  | 12 => s.pairsel.code
  | 13 => s.check.code
  | _ => s.checkWindows.code

def Band.store (b : Band) (f : BandField) (v : Half) : Band :=
  match f with
  | .enabled => { b with enabled := v != 0 }
  | .startMinute => { b with startMinute := v.toNat }
  | .startSecond => { b with startSecond := v.toNat }
  | .days => { b with days := v.extractLsb' 0 7 }
  | .ceiling => { b with ceiling := v.toNat }
  | .fallback => { b with fallback := v.toNat }
  | .minDwell => { b with minDwell := v.toNat }

def Band.item (b : Band) : BandField → Half
  | .enabled => boolItem b.enabled
  | .startMinute => natItem b.startMinute
  | .startSecond => natItem b.startSecond
  | .days => b.days.setWidth 16
  | .ceiling => natItem b.ceiling
  | .fallback => natItem b.fallback
  | .minDwell => natItem b.minDwell

def CurvePoint.store (p : CurvePoint) (f : CurveField) (v : Half) : CurvePoint :=
  match f with
  | .threshold => { p with threshold := v.toNat }
  | .gain => { p with gain := v.toNat }

def CurvePoint.item (p : CurvePoint) : CurveField → Half
  | .threshold => natItem p.threshold
  | .gain => natItem p.gain

def Settings.storeLayout (s : Settings) (i : Fin 15) (v : Half) : Settings :=
  { s with layout := s.layout.store i v }

def Settings.storeOperating (s : Settings) (i : Fin 36) (v : Nat) : Settings :=
  { s with operating := s.operating.set i v }

def Settings.storeCurve (s : Settings) (p : PointNo) (f : CurveField) (v : Half) : Settings :=
  { s with curve := s.curve.modify p fun q => q.store f v }

def Settings.storeBand (s : Settings) (b : BandNo) (f : BandField) (v : Half) : Settings :=
  { s with bands := s.bands.modify b fun r => r.store f v }

end Sys2Proof.Machine
end

