-- ==== Sys2Proof/Machine/Flags.lean ====
section
/-! DEFINITION. Conditions computed from the state: the summary flags and ATTN, what the clock and the
schedule give now, and the conditions the blocks read from one another. -/

namespace Sys2Proof.Machine

/-! ## Governor and clock -/

def State.running (s : State) : Bool := s.governor == .running

/-- The clock's seconds, or the clock-unset marker (R61, R100). -/
def State.clockNow (s : State) : Option Nat :=
  if s.light.clock.isSet then some s.light.clock.seconds else none

/-- The clock of a fault record (R156). -/
def State.clockReading (s : State) : Option ClockReading :=
  if s.light.clock.isSet then some { seconds := s.light.clock.seconds, day := s.light.clock.day }
  else none

/-! ## Faults and blanking -/

/-- The blank reason set is not empty (R155). -/
def BlankReasons.any (r : BlankReasons) : Bool := r.supervisor || r.faultLimit

def BlankReasons.has (r : BlankReasons) : BlankReason → Bool
  | .supervisor => r.supervisor
  | .faultLimit => r.faultLimit

def BlankReasons.put (r : BlankReasons) (x : BlankReason) (b : Bool) : BlankReasons :=
  match x with
  | .supervisor => { r with supervisor := b }
  | .faultLimit => { r with faultLimit := b }

def State.blanked (s : State) : Bool := s.faults.reasons.any

/-- ATTN is asserted exactly while the fault queue is non-empty or the overflow count is above 0
(R159). -/
def State.attn (s : State) : Bool := !s.faults.queue.isEmpty || decide (0 < s.faults.overflow)

/-- The summary flags as they stand (R174). -/
def State.summaryFlags (s : State) : SummaryFlags :=
  { faultsWaiting := s.attn, faceBlanked := s.blanked, clockUnset := !s.light.clock.isSet,
    resetSeen := s.link.resetSeen }

/-! ## Buffers, cues and the face -/

def State.bufferState (s : State) (k : BufferNo) : BufferState := (s.table.records.get k).state

def State.slot (s : State) (n : SlotNo) : SlotRecord := s.cues.slots.get n

def State.tile (s : State) (i : TileNo) : TileRecord := s.tiles.records.get i

/-- B7, the notice buffer. -/
def noticeBuffer : BufferNo := 7

/-- A notice is showing while B7 is SHOWING (R51, R68). -/
def State.noticeShowing (s : State) : Bool := s.bufferState noticeBuffer == .showing

def State.head (s : State) : Option QueueEntry := s.cues.queue.head?

def State.headSlot (s : State) : Option SlotNo := s.head.map QueueEntry.slot

def State.gateOpen (s : State) : Bool :=
  match s.table.gate with
  | .opened _ => true
  | .closed => false

/-- R56: hold-off 0, and a FRAME or NOTICE with its buffer STAGED, or a BLANK. -/
def State.eligible (s : State) (e : QueueEntry) : Bool :=
  e.holdOff == 0 &&
    match e.kind, e.buffer with
    | .blank, _ => true
    | .frame, some b => s.bufferState b == .staged
    | .notice, some b => s.bufferState b == .staged
    | _, _ => false

/-- A FRAME or BLANK cue. -/
def QueueEntry.isFrameOrBlank (e : QueueEntry) : Bool := e.kind == .frame || e.kind == .blank

/-- R80: the four conditions under which SWAPRDY is high. -/
def State.handshakeWanted (s : State) : Bool :=
  s.settings.pairsel == .paired && s.running && s.face.dwell == .met &&
    match s.head with
    | some e => e.isFrameOrBlank && e.pair && s.eligible e
    | none => false

/-- R83, R84: the pair condition of a head. -/
def State.pairCondition (s : State) (e : QueueEntry) : Bool :=
  s.settings.pairsel == .alone || !e.pair || s.face.latch || s.face.pairWait == .expired

/-! ## The bus -/

def BusState.anyRequest (b : BusState) : Bool :=
  b.writeBackReq.isSome || b.wipeReq.isSome || b.verifyReq.isSome

/-- R17: the starvation guard claims the next grant. -/
def BusState.guardClaims (b : BusState) : Bool := decide (8 ≤ b.waited) && b.anyRequest

/-- The engine has a burst in flight. -/
def BusState.inFlight (b : BusState) (e : Engine) : Bool :=
  match b.port with
  | some p => p.source == .own e
  | none => false

/-- R16, R18: the port takes a presented transaction. The memory port is free, no upstream transaction
is in progress, the guard does not claim and neither reset line is asserted (log 16). -/
def State.portReady (s : State) : Bool :=
  s.bus.port.isNone && s.bus.upstream.isNone && !s.bus.guardClaims && !s.lines.fbrst && !s.lines.rstn

/-- R62: every outcome but ON_FACE and SUSPENDED is final. -/
def CueOutcome.isFinal : CueOutcome → Bool
  | .onFace | .suspended => false
  | .retired | .rejected | .expired | .cancelled | .withdrawn | .noticeEnded | .done => true

/-! ## The schedule (R102 to R106) -/

/-- The band in force as it is reported (R104, R196). -/
inductive BandInForce where
  | band (b : BandNo)
  | default
  | unset
  deriving DecidableEq, Repr

def Band.start (b : Band) : Nat := b.startMinute * 60 + b.startSecond

/-- R102, R103. -/
def Band.qualifies (b : Band) (c : Clock) : Bool :=
  b.enabled && b.days.getLsbD c.day && decide (b.start ≤ c.seconds)

/-- The later start wins; at equal starts the band already chosen, the lower number, stays. -/
def laterBand (bands : Table Band 8) (c : Clock) (best : Option BandNo) (n : BandNo) : Option BandNo :=
  if (bands.get n).qualifies c then
    match best with
    | none => some n
    | some m => if (bands.get m).start < (bands.get n).start then some n else some m
  else best

/-- R102, R104: the band in force now. -/
def State.bandInForce (s : State) : BandInForce :=
  if s.light.clock.isSet then
    match (List.finRange 8).foldl (laterBand s.settings.bands s.light.clock) none with
    | some b => .band b
    | none => .default
  else .unset

def State.bandCeiling (s : State) : Nat :=
  match s.bandInForce with
  | .band b => (s.settings.bands.get b).ceiling
  | .default => s.settings.defaultCeiling
  | .unset => s.settings.unsetCeiling

def State.bandFallback (s : State) : Nat :=
  match s.bandInForce with
  | .band b => (s.settings.bands.get b).fallback
  | .default => s.settings.defaultFallback
  | .unset => s.settings.defaultFallback

def State.bandMinDwell (s : State) : Nat :=
  match s.bandInForce with
  | .band b => (s.settings.bands.get b).minDwell
  | .default => s.settings.defaultMinDwell
  | .unset => s.settings.defaultMinDwell

def BandInForce.item : BandInForce → Half
  | .band b => natItem b.val
  | .default => 8
  | .unset => 9

/-! ## The combined level and the curve -/

/-- A channel's part in the combined level: its F while GOOD (R98). -/
def ChannelRecord.goodLevel (r : ChannelRecord) : Option Nat :=
  if r.state == .good then r.level else none

/-- R98. -/
def State.combinedLevel (s : State) : Option Nat :=
  match s.light.channelA.goodLevel, s.light.channelB.goodLevel with
  | some x, some y => some (max x y)
  | some x, none => some x
  | none, some y => some y
  | none, none => none

/-- R105: the gain of the first point whose threshold reaches the level, else of point 15. -/
def curveGain (curve : Table CurvePoint 16) (level : Nat) : Nat :=
  match curve.cells.find? (fun p => decide (level ≤ p.threshold)) with
  | some p => p.gain
  | none => (curve.get 15).gain

/-- R106. -/
def State.gainUnder (s : State) (c : Nat) : Nat :=
  match s.combinedLevel with
  | some l => min (curveGain s.settings.curve l) c
  | none => min s.bandFallback c

/-! ## Tiles in use -/

def State.tileCount (s : State) : Nat := s.settings.layout.tileCount

/-- Tiles 0 to N − 1 in number order. -/
def State.tilesInUse (s : State) : List TileNo :=
  (List.finRange 128).filter fun i => decide (i.val < s.tileCount)

end Sys2Proof.Machine
end

