-- ==== Sys2Proof/Machine/Ops.lean ====
section
/-! DEFINITION. Operations several blocks share: one record of a table, the list of due events, a
slot's outcome and its place in the write-back list, the service status. -/

namespace Sys2Proof.Machine

/-! ## One record -/

def State.onBuffer (s : State) (k : BufferNo) (f : BufferRecord → BufferRecord) : State :=
  s.onTable fun t => { t with records := t.records.modify k f }

def State.onSlot (s : State) (n : SlotNo) (f : SlotRecord → SlotRecord) : State :=
  s.onCues fun c => { c with slots := c.slots.modify n f }

def State.onTile (s : State) (i : TileNo) (f : TileRecord → TileRecord) : State :=
  s.onTiles fun t => { t with records := t.records.modify i f }

def State.onTileScan (s : State) (i : TileNo) (f : TileScan → TileScan) : State :=
  s.onTile i fun r => { r with scan := f r.scan }

/-! ## Due events (log 2) -/

def insertDue (es : List DueEvent) (e : DueEvent) : List DueEvent := if e ∈ es then es else es ++ [e]

def State.addDue (s : State) (e : DueEvent) : State := s.onDue fun es => insertDue es e

def State.addDues (s : State) (new : List DueEvent) : State := s.onDue fun es => new.foldl insertDue es

/-- Events that belong to the refresh start just taken stand before those already due (log 31). -/
def State.addDuesFirst (s : State) (new : List DueEvent) : State :=
  s.onDue fun es => es.foldl insertDue new

def State.dropDue (s : State) (e : DueEvent) : State := s.onDue fun es => es.filter (· != e)

/-! ## Outcomes and the write-back list (R62, R63) -/

/-- R63: the slot joins the tail unless it stands in the list. -/
def State.listSlot (s : State) (n : SlotNo) : State :=
  if (s.slot n).listed then s
  else (s.onSlot n fun r => { r with listed := true }).onCues fun c =>
    { c with writeBack := c.writeBack ++ [n] }

/-- A slot's record changed with its outcome, and the slot listed. -/
def State.setOutcome (s : State) (n : SlotNo) (f : SlotRecord → SlotRecord) : State :=
  (s.onSlot n f).listSlot n

/-- The end stamp at this moment (R61): a cue that never showed has shown time 0. -/
def State.endStampNow (s : State) (duration : Nat) : EndStamp :=
  { clock := s.clockNow, duration := duration }

/-- A slot goes to CLOSING with a final outcome, its end stamp taken now. -/
def State.closeSlot (s : State) (n : SlotNo) (o : CueOutcome) (reason : Option Reason) : State :=
  s.setOutcome n fun r =>
    { r with state := .closing, outcome := some o, reason := reason, noticeTime := none,
             endStamp := some (s.endStampNow r.shownTime) }

/-! ## The link's wires -/

/-- No frame in progress, SVDO released (R174). -/
def LinkWires.released (w : LinkWires) : LinkWires := { w with frame := none, svdo := none }

/-! ## Services (R181) -/

/-- The owning block sets the state and the error; the code stands. -/
def State.setService (s : State) (st : ServiceState) (e : ServiceError) : State :=
  s.onLink fun l => { l with status := { l.status with state := st, error := e } }

/-- The service named is IN_PROGRESS. -/
def State.inProgress (s : State) (v : Service) : Bool :=
  s.link.status.code == v.code && s.link.status.state == .inProgress

/-! ## Counting -/

/-- A count that saturates. -/
def saturate (limit n : Nat) : Nat := min limit n

end Sys2Proof.Machine
end

