-- ==== Sys2Proof/Machine/Tiles.lean ====
section
/-! DEFINITION. The Tile Table (06): composing target and bound, the cuts, the ramp step and the hand-off
of the pair. -/

namespace Sys2Proof.Machine

/-! ## Composing T and B (R116, R117) -/

/-- What the compositions read beside the tile's own record. -/
structure GainContext where
  running : Bool
  tileCount : Nat
  blanked : Bool
  policy : Bool
  ceiling : Nat
  gain : Nat
  deriving DecidableEq, Repr

def State.gainContext (s : State) : GainContext :=
  { running := s.running, tileCount := s.tileCount, blanked := s.blanked,
    policy := s.settings.tileBlank, ceiling := s.tiles.ceiling, gain := s.tiles.gain }

/-- The five cases of R116 in order. -/
inductive TargetCase where
  | setup | outside | blanked | faulted | base
  deriving DecidableEq, Repr

def GainContext.targetCase (g : GainContext) (i : TileNo) (st : TileState) : TargetCase :=
  if !g.running then .setup
  else if g.tileCount ≤ i.val then .outside
  else if g.blanked then .blanked
  else if st == .faulted && g.policy then .faulted
  else .base

def TargetCase.isDark : TargetCase → Bool
  | .blanked => true
  | .faulted => true
  | .setup => false
  | .outside => false
  | .base => false

/-- floor(Fg × trim / 1024), halved where derated. -/
def GainContext.base (g : GainContext) (r : TileRecord) : Nat :=
  if r.derate then g.gain * r.trim / 1024 / 2 else g.gain * r.trim / 1024

def GainContext.target (g : GainContext) (i : TileNo) (r : TileRecord) : Nat :=
  match g.targetCase i r.state with
  | .base => g.base r
  | .setup | .outside | .blanked | .faulted => 0

def GainContext.bound (g : GainContext) (r : TileRecord) : Nat := g.ceiling * r.trim / 1024

/-! ## The cuts and the recomputations (R118, R119) -/

/-- The blank or fault cut, else the bound cut. -/
def GainContext.cut (g : GainContext) (i : TileNo) (r : TileRecord) : TileRecord :=
  if (g.targetCase i r.state).isDark then { r with applied := 0 }
  else { r with applied := min r.applied r.bound }

/-- T recomputed. -/
def GainContext.retarget (g : GainContext) (i : TileNo) (r : TileRecord) : TileRecord :=
  g.cut i { r with target := g.target i r }

/-- T and B recomputed. -/
def GainContext.rebound (g : GainContext) (i : TileNo) (r : TileRecord) : TileRecord :=
  g.cut i { r with target := g.target i r, bound := g.bound r }

def State.retargetTile (s : State) (i : TileNo) : State := s.onTile i (s.gainContext.retarget i)

def State.retargetAll (s : State) : State :=
  let g := s.gainContext
  s.onTiles fun t => { t with records := t.records.mapIdx g.retarget }

def State.reboundTile (s : State) (i : TileNo) : State := s.onTile i (s.gainContext.rebound i)

/-- R107, R118: a new pair is handed over, and every T and B recomputed from it. -/
def State.handPair (s : State) (c fg : Nat) : State :=
  let held := s.onTiles fun t => { t with ceiling := c, gain := fg }
  let g := held.gainContext
  held.onTiles fun t => { t with records := t.records.mapIdx g.rebound }

/-! ## Trim and derate (R114, R115) -/

def State.setTrim (s : State) (i : TileNo) (v : Nat) : State :=
  (s.onTile i fun r => { r with trim := v }).reboundTile i

def State.setDerate (s : State) (i : TileNo) (b : Bool) : State :=
  if (s.tile i).derate == b then s
  else (s.onTile i fun r => { r with derate := b }).retargetTile i

/-! ## The ramp (R120) -/

def rampStep (up down : Nat) (r : TileRecord) : TileRecord :=
  if r.applied < r.target then { r with applied := min r.target (r.applied + up) }
  else { r with applied := max r.target (r.applied - down) }

def State.rampAll (s : State) : State :=
  let up := s.settings.rampUp
  let down := s.settings.rampDown
  s.onTiles fun t => { t with records := t.records.map (rampStep up down) }

/-- R125 with R143 and R160: what RESTART makes of a tile's record; trim and bound stand. -/
def TileRecord.restarted (r : TileRecord) : TileRecord :=
  { r with derate := false, target := 0, applied := 0, state := .lit, counter := 0,
           scan := TileScan.powerOn }

end Sys2Proof.Machine
end

