-- ==== Sys2Proof/Machine/Faults.lean ====
section
/-! DEFINITION. Fault accounting (08): events and good reports, tile states, the face fault limit, the
blank reason set and the fault queue. -/

namespace Sys2Proof.Machine

/-! ## Fault records and the queue (R156 to R158) -/

def State.faultRecord (s : State) (k : FaultKind) (tile : Option TileNo) (detail : Half) : FaultRecord :=
  { kind := k, tile := tile, detail := detail, sequence := s.face.sequence, clock := s.clockReading }

/-- R157. -/
def FaultUnit.join (f : FaultUnit) (r : FaultRecord) : FaultUnit :=
  if f.queue.length < 32 then { f with queue := f.queue ++ [r] }
  else { f with overflow := saturate 255 (f.overflow + 1) }

/-- A record is completed and offered. -/
def State.offer (s : State) (k : FaultKind) (tile : Option TileNo) (detail : Half) : State :=
  s.onFaults fun f => f.join (s.faultRecord k tile detail)

/-- R158: what TAKE FAULT hands over, and the queue after it. -/
def FaultUnit.take (f : FaultUnit) : FaultWindow × FaultUnit :=
  match f.queue with
  | r :: rest => (.record r, { f with queue := rest })
  | [] => (.overflow f.overflow, { f with overflow := 0 })

/-! ## The blank reason set (R153, R155) -/

def BlankReason.detail : BlankReason → Half
  | .supervisor => 1
  | .faultLimit => 2

def State.putReason (s : State) (x : BlankReason) (b : Bool) : State :=
  s.onFaults fun f => { f with reasons := f.reasons.put x b }

/-- A reason that joins an empty set raises FACE_BLANKED and darkens the face. -/
def State.addReason (s : State) (x : BlankReason) : State :=
  if s.faults.reasons.has x then s
  else if s.blanked then s.putReason x true
  else ((s.putReason x true).offer .faceBlanked none x.detail).retargetAll

/-- The last reason to leave raises FACE_UNBLANKED and releases the face. -/
def State.removeReason (s : State) (x : BlankReason) : State :=
  if !s.faults.reasons.has x then s
  else if (s.faults.reasons.put x false).any then s.putReason x false
  else ((s.putReason x false).offer .faceUnblanked none x.detail).retargetAll

/-- R153's condition. -/
def State.faceLimitReached (s : State) : Bool :=
  s.settings.faceFaultLimit != 0 && decide (s.settings.faceFaultLimit ≤ s.faults.faultedCount)

def State.faceLimitCheck (s : State) : State :=
  if s.faceLimitReached then s.addReason .faultLimit else s.removeReason .faultLimit

/-! ## Tile states (R148 to R152) -/

/-- A LIT or SUSPECT tile goes to FAULTED. -/
def State.enterFaulted (s : State) (i : TileNo) : State :=
  let entered := s.onTile i fun r => { r with state := .faulted }
  let recorded := entered.offer .tileFaulted (some i) (natItem (s.tile i).counter)
  ((recorded.retargetTile i).onFaults fun f => { f with faultedCount := f.faultedCount + 1 }).faceLimitCheck

/-- A FAULTED tile goes to LIT with counter 0 (detail 1 by CLEAR TILE, 2 by a passing test). -/
def State.leaveFaulted (s : State) (i : TileNo) (detail : Half) : State :=
  let left := s.onTile i fun r => { r with state := .lit, counter := 0 }
  let recorded := left.offer .tileRecovered (some i) detail
  ((recorded.retargetTile i).onFaults fun f => { f with faultedCount := f.faultedCount - 1 }).faceLimitCheck

/-- R148, R149: a FAULTED tile is not evaluated. -/
def State.evaluateTile (s : State) (i : TileNo) : State :=
  let r := s.tile i
  if r.state == .faulted then s
  else if s.settings.faultLimit ≤ r.counter then s.enterFaulted i
  else if s.settings.suspectLimit ≤ r.counter then
    if r.state == .lit then
      (s.onTile i fun q => { q with state := .suspect }).offer .tileSuspect (some i) (natItem r.counter)
    else s
  else s.onTile i fun q => { q with state := .lit }

/-- R150. -/
def State.evaluateTiles (s : State) : State := s.tilesInUse.foldl State.evaluateTile s

/-! ## Events and good reports (R146, R147) -/

inductive TileEvent where
  | echoMismatch | staleReport | silent | darkPixels | supplyLow | linkLost
  deriving DecidableEq, Repr

def Settings.weight (s : Settings) : TileEvent → Nat
  | .echoMismatch => s.weightMismatch
  | .staleReport => s.weightStale
  | .silent => s.weightSilent
  | .darkPixels => s.weightDark
  | .supplyLow => s.weightSupply
  | .linkLost => s.weightLink

def State.tileEvent (s : State) (i : TileNo) (e : TileEvent) : State :=
  if (s.tile i).state == .faulted then s
  else
    (s.onTile i fun r => { r with counter := saturate 255 (r.counter + s.settings.weight e) }).evaluateTile i

def State.goodReport (s : State) (i : TileNo) : State :=
  if (s.tile i).state == .faulted then s
  else (s.onTile i fun r => { r with counter := r.counter - 1 }).evaluateTile i

/-! ## CLEAR TILE and the Tile test's results (R151, R152) -/

def State.clearTile (s : State) (i : TileNo) : State :=
  if (s.tile i).state == .faulted then s.leaveFaulted i 1
  else s.onTile i fun r => { r with state := .lit, counter := 0 }

def State.tilePassed (s : State) (i : TileNo) : State :=
  if (s.tile i).state == .faulted then s.leaveFaulted i 2 else s

def State.tileFailed (s : State) (i : TileNo) : State :=
  let full := s.onTile i fun r => { r with counter := 255 }
  if (s.tile i).state == .faulted then full else full.enterFaulted i

end Sys2Proof.Machine
end

