-- ==== Sys2Proof/Machine/Buffers.lean ====
section
/-! DEFINITION. The Buffer Table (02): what writes, cues and the notice gate do to a buffer record, and
what the wipe and verify engines choose. -/

namespace Sys2Proof.Machine

/-! ## Own requests withdrawn (R15, R17) -/

/-- R17: the count returns to 0 when the last pending request is withdrawn. -/
def BusState.withdrawn (b : BusState) : BusState := if b.anyRequest then b else { b with waited := 0 }

def BusState.withdrawVerify (b : BusState) : BusState :=
  if b.verifyReq.isSome then ({ b with verifyReq := none } : BusState).withdrawn else b

/-- A burst of the engine's in flight runs on and its result is discarded. -/
def BusState.discardOwn (b : BusState) (e : Engine) : BusState :=
  { b with port := b.port.map fun p => if p.source == .own e then { p with discarded := true } else p }

/-! ## Writes into the buffer area (R25, R26) -/

def BufferRecord.filled (r : BufferRecord) : BufferRecord :=
  if r.state == .free then { r with state := .filling } else r

def BufferRecord.refusedWrite (cause : RefusalCause) (r : BufferRecord) : BufferRecord :=
  { r with refused := saturate 65535 (r.refused + 1), lastRefusal := some cause }

/-- Each of the buffers changed alike. -/
def State.onBuffers (s : State) (ks : List BufferNo) (f : BufferRecord → BufferRecord) : State :=
  ks.foldl (fun t k => t.onBuffer k f) s

/-! ## Leaving a use (R28 to R31) -/

def BufferRecord.toState (st : BufferState) (r : BufferRecord) : BufferRecord := { r with state := st }

/-- The buffer is owed a sweep; its cue slot is cleared. -/
def BufferRecord.toWiping (r : BufferRecord) : BufferRecord :=
  { r with state := .wiping, slot := none, progress := 0 }

def BufferRecord.toFilling (r : BufferRecord) : BufferRecord := { r with state := .filling, slot := none }

def BufferRecord.toFree (r : BufferRecord) : BufferRecord :=
  { r with state := .free, slot := none, progress := 0 }

/-- R41, R45: the engine gives up its verify; the words read and the running CRC are lost. -/
def State.stopVerify (s : State) : State :=
  (s.onTable fun t => { t with verifying := none }).onBus fun b => (b.withdrawVerify).discardOwn .verify

def State.isVerifying (s : State) (k : BufferNo) : Bool :=
  match s.table.verifying with
  | some w => w.buffer == k
  | none => false

def State.abortVerify (s : State) (k : BufferNo) : State := if s.isVerifying k then s.stopVerify else s

/-- R29: a cue that leaves the queue without reaching the face takes its buffer with it. -/
def State.releaseBuffer (s : State) (k : BufferNo) : State :=
  (s.abortVerify k).onBuffer k fun r =>
    if r.state == .verifying || r.state == .staged then
      if k == noticeBuffer then r.toWiping else r.toState .retiring
    else r

/-- R43, R44: the buffer of a rejected cue. -/
def State.returnBuffer (s : State) (k : BufferNo) : State :=
  s.onBuffer k fun r => if k == noticeBuffer && !s.gateOpen then r.toWiping else r.toFilling

/-- R30: a RETIRING buffer whose cue slot is this slot goes to FREE. -/
def State.freeRetired (s : State) (n : SlotNo) : State :=
  s.onTable fun t =>
    { t with records := t.records.map fun r =>
        if r.state == .retiring && r.slot == some n then r.toFree else r }

/-- R31. -/
def BufferRecord.upstreamReset (k : BufferNo) (r : BufferRecord) : BufferRecord :=
  if r.state == .filling then (if k == noticeBuffer then r.toWiping else r.toFree) else r

/-! ## The notice gate (R33 to R35) -/

def State.setGate (s : State) (g : Gate) : State := s.onTable fun t => { t with gate := g }

/-- R34: the closing; a FILLING B7 goes to WIPING. -/
def State.closeGate (s : State) : State :=
  (s.setGate .closed).onBuffer noticeBuffer fun r =>
    if s.gateOpen && r.state == .filling then r.toWiping else r

/-! ## What the engines choose (R36, R41) -/

/-- The lowest-numbered WIPING buffer. -/
def State.nextWipe (s : State) : Option BufferNo :=
  (List.finRange 8).find? fun k => s.bufferState k == .wiping

def State.wipeChoice (s : State) : State :=
  match s.table.sweeping, s.nextWipe with
  | none, some k =>
    (s.onTable fun t => { t with sweeping := some k }).onBuffer k fun r => { r with progress := 0 }
  | _, _ => s

/-- A queue entry whose buffer is VERIFYING, with the CRC expected of it. -/
def State.verifyOf (s : State) (e : QueueEntry) : Option VerifyWork :=
  match e.buffer, e.expected with
  | some k, some c =>
    if s.bufferState k == .verifying then
      some { buffer := k, expected := c, wordsRead := 0, running := crc16Init }
    else none
  | _, _ => none

/-- The VERIFYING buffer whose cue stands nearest the head. -/
def State.verifyChoice (s : State) : State :=
  match s.table.verifying, s.cues.queue.findSome? s.verifyOf with
  | none, some w => s.onTable fun t => { t with verifying := some w }
  | _, _ => s

/-! ## What the engines ask for (R37, R42, R64) -/

/-- A word of zeros with all enables. -/
def zeroWord : DataWord := { word := 0, enables := ByteEnables.all }

def State.wipeBurst (s : State) (k : BufferNo) : OwnRequest :=
  { engine := .wipe, direction := .write,
    address := BitVec.ofNat 32 (s.settings.layout.bufferAddress k + 4 * (s.table.records.get k).progress),
    length := 16, data := List.replicate 16 zeroWord }

def State.verifyBurst (s : State) (w : VerifyWork) : OwnRequest :=
  { engine := .verify, direction := .read,
    address := BitVec.ofNat 32 (s.settings.layout.bufferAddress w.buffer + 4 * w.wordsRead),
    length := 16, data := [] }

/-- The request names the slot's words 4 to 6; its data are taken at the grant. -/
def State.writeBackBurst (s : State) (n : SlotNo) : OwnRequest :=
  { engine := .writeBack, direction := .write,
    address := BitVec.ofNat 32 (s.settings.layout.cueBase.toNat + 32 * n.val + 16),
    length := 3, data := [] }

end Sys2Proof.Machine
end

