-- ==== Sys2Proof/Machine/Cues.lean ====
section
/-! DEFINITION. The Cue unit (03): the ring shadow, commits and their judgement, the Cue Queue and the
ways out of it. -/

namespace Sys2Proof.Machine

/-! ## The ring shadow (R48) -/

def State.cueShadow (s : State) (n : SlotNo) (word : Nat) : Word := s.cues.shadow.get (cueShadowCell n word)

/-- A data word handed over: words 0 to 3 enter the shadow, word 7 is noted. -/
def State.takeCueWord (s : State) (n : SlotNo) (word : Nat) (d : DataWord) : State :=
  if word < 4 then
    s.onCues fun c =>
      { c with shadow := c.shadow.modify (cueShadowCell n word) fun old => mergeBytes old d.word d.enables }
  else if word = 7 then
    s.onCues fun c => { c with noted := c.noted ++ [{ slot := n, word := d.word, enables := d.enables }] }
  else s

/-! ## Leaving the queue -/

def State.entryOf (s : State) (n : SlotNo) : Option QueueEntry := s.cues.queue.find? fun e => e.slot == n

def State.dequeue (s : State) (n : SlotNo) : State :=
  s.onCues fun c => { c with queue := c.queue.filter fun e => e.slot != n }

def State.onEntry (s : State) (n : SlotNo) (f : QueueEntry → QueueEntry) : State :=
  s.onCues fun c => { c with queue := c.queue.map fun e => if e.slot == n then f e else e }

def State.releaseEntryBuffer (s : State) (e : QueueEntry) : State :=
  match e.buffer with
  | some k => s.releaseBuffer k
  | none => s

/-- R54, R58, R66: a queued cue ends with this outcome and takes its buffer with it. -/
def State.endQueued (s : State) (e : QueueEntry) (o : CueOutcome) : State :=
  ((s.dequeue e.slot).closeSlot e.slot o none).releaseEntryBuffer e

/-- R60: the verify engine rejects a queued cue; its buffer has already moved. -/
def State.rejectQueued (s : State) (n : SlotNo) (reason : Reason) : State :=
  (s.dequeue n).closeSlot n .rejected (some reason)

/-! ## Judging a commit (R51) -/

/-- A NOTICE cue stands in the queue. -/
def State.queuedNotice (s : State) : Option QueueEntry := s.cues.queue.find? fun e => e.kind == .notice

def State.noticeAbout (s : State) : Bool := s.queuedNotice.isSome || s.noticeShowing

/-- Checks 4 and 6 of a cue that names a buffer. -/
def State.bufferChecks (s : State) (k : BufferNo) : Option Reason :=
  if s.bufferState k != .filling then some .bufferState
  else if 8 ≤ s.cues.queue.length then some .queueFull
  else none

/-- The first check that fails. -/
def State.commitCheck (s : State) (kind : Option CueKind) (k : BufferNo) : Option Reason :=
  match kind with
  | none => some .badKind
  | some .frame => if k == noticeBuffer then some .badBuffer else s.bufferChecks k
  | some .notice =>
    if k != noticeBuffer then some .badBuffer
    else if s.noticeAbout then some .noticeActive
    else s.bufferChecks k
  | some .blank => if 8 ≤ s.cues.queue.length then some .queueFull else none
  | some .withdraw => if s.noticeAbout then none else some .noNotice

/-! ## What a commit does (R52 to R54) -/

/-- The buffer field of a record is present for FRAME and NOTICE (R49, log 21). -/
def keptBuffer (kind : Option CueKind) (k : BufferNo) : Option BufferNo :=
  match kind with
  | some .frame | some .notice => some k
  | some .blank | some .withdraw | none => none

/-- The record a commit makes afresh; whether the slot is listed stands. -/
def SlotRecord.committed (r : SlotRecord) (st : SlotState) (kind : Option CueKind) (k : BufferNo)
    (w7 : Word) : SlotRecord :=
  { state := st, kind := kind, buffer := keptBuffer kind k, hostSequence := hostSequenceOf w7,
    cueTag := cueTagOf w7, outcome := none, reason := none, showStamp := none, endStamp := none,
    shownTime := 0, noticeTime := none, listed := r.listed }

/-- R52. -/
def State.rejectCommit (s : State) (n : SlotNo) (kind : Option CueKind) (k : BufferNo) (w7 : Word)
    (reason : Reason) : State :=
  (s.onSlot n fun r => r.committed .closing kind k w7).closeSlot n .rejected (some reason)

/-- The queue entry from the shadow (R53, R55). -/
def State.newEntry (s : State) (n : SlotNo) (kind : CueKind) (k : BufferNo) : QueueEntry :=
  let w0 := s.cueShadow n 0
  let buffer := keptBuffer (some kind) k
  { slot := n, kind := kind, buffer := buffer, dwellClass := cueDwellClassOf w0, pair := cuePairOf w0,
    holdOff := cueTimeOf (s.cueShadow n 1), lifetime := cueTimeOf (s.cueShadow n 2),
    expected := if buffer.isSome then cueCheckOf (s.cueShadow n 3) else none }

def QueueEntry.place (q : List QueueEntry) (e : QueueEntry) : List QueueEntry :=
  if e.kind == .notice then e :: q else q ++ [e]

/-- R27: the buffer of an accepted cue. -/
def State.handBuffer (s : State) (e : QueueEntry) : State :=
  match e.buffer with
  | some k =>
    s.onBuffer k fun r =>
      { r with state := if e.expected.isSome then .verifying else .staged, slot := some e.slot }
  | none => s

/-- R41: a NOTICE with a content check takes the verify engine from a frame. -/
def State.noticeTakesVerify (s : State) (e : QueueEntry) : State :=
  if e.kind == .notice && e.expected.isSome && s.table.verifying.isSome then s.stopVerify else s

/-- R53. -/
def State.acceptCue (s : State) (n : SlotNo) (kind : CueKind) (k : BufferNo) (w7 : Word) : State :=
  let e := s.newEntry n kind k
  let pending := s.onSlot n fun r => r.committed .pending (some kind) k w7
  ((pending.onCues fun c => { c with queue := QueueEntry.place c.queue e }).handBuffer e).noticeTakesVerify e

/-- R78: a notice end handed to the Show unit. -/
def State.handNoticeEnd (s : State) : State :=
  if s.noticeShowing then s.onFace fun f => { f with noticeEnd := true } else s

/-- R54: the queued notice is removed, its slot listed before the WITHDRAW's own; or the showing
notice's end becomes pending. -/
def State.acceptWithdraw (s : State) (n : SlotNo) (k : BufferNo) (w7 : Word) : State :=
  let noticed :=
    match s.queuedNotice with
    | some e => s.endQueued e .withdrawn
    | none => s.handNoticeEnd
  (noticed.onSlot n fun r => r.committed .closing (some .withdraw) k w7).closeSlot n .done none

/-- A commit judged (R51). -/
def State.judgeCommit (s : State) (n : SlotNo) (w7 : Word) : State :=
  let w0 := s.cueShadow n 0
  let k := cueBufferOf w0
  match s.commitCheck (cueKindOf w0) k, cueKindOf w0 with
  | some reason, kind => s.rejectCommit n kind k w7 reason
  | none, some .withdraw => s.acceptWithdraw n k w7
  | none, some kind => s.acceptCue n kind k w7
  | none, none => s

/-- R50: all four enables and the marker. -/
def NotedWord.commits {m : Nat} (w : NotedWord m) : Bool :=
  w.enables.isAll && commitMarkerOf w.word == commitMarker

def State.judgeNoted (s : State) (w : NotedWord 32) : State :=
  if w.commits then s.judgeCommit w.slot w.word else s

def State.dropNotedCues (s : State) : State := s.onCues fun c => { c with noted := [] }

/-- R50: each noted commit in address order. -/
def State.judgeCommits (s : State) : State := s.cues.noted.foldl State.judgeNoted s.dropNotedCues

/-! ## Resets (R66) -/

/-- Every queued cue cancelled, head first. -/
def State.cancelQueue (s : State) : State := s.cues.queue.foldl (fun t e => t.endQueued e .cancelled) s

end Sys2Proof.Machine
end

