-- ==== Sys2Proof/Machine/Arbiter.lean ====
section
/-! DEFINITION. The memory-port arbiter (01 R15 to R18), the requests the three engines raise, the pair
lines (04 R80 to R84), and what follows every event. -/

namespace Sys2Proof.Machine

/-! ## Requests raised (R15) -/

/-- An engine keeps its request; without one it raises the next unless a burst of its own is in flight
(log 17). -/
def raised (current : Option OwnRequest) (busy : Bool) (next : Option OwnRequest) : Option OwnRequest :=
  match current with
  | some r => some r
  | none => if busy then none else next

/-- The engines make their choices and raise their requests. -/
def State.prepare (s : State) : State :=
  let t := s.wipeChoice.verifyChoice
  t.onBus fun b =>
    { b with
      writeBackReq := raised b.writeBackReq (b.inFlight .writeBack) (t.cues.writeBack.head?.map t.writeBackBurst)
      wipeReq := raised b.wipeReq (b.inFlight .wipe) (t.table.sweeping.map t.wipeBurst)
      verifyReq := raised b.verifyReq (b.inFlight .verify) (t.table.verifying.map t.verifyBurst) }

/-! ## Grants (R16, R17) -/

/-- The burst of a granted request of the wipe or the verify engine. -/
def OwnRequest.burst (r : OwnRequest) : Burst :=
  { source := .own r.engine, direction := r.direction, address := r.address, length := r.length,
    data := r.data, discarded := false, serves := none, carriesFinal := false }

/-- R64: the data and the outcome's class are taken from the slot record at the grant. -/
def State.writeBackGrantBurst (s : State) (r : OwnRequest) (n : SlotNo) : Burst :=
  { r.burst with data := resultWords (s.slot n), serves := some n,
                 carriesFinal := ((s.slot n).outcome.map CueOutcome.isFinal).getD false }

/-- R63, R64: the head of the list is granted and leaves it. -/
def State.grantWriteBack (s : State) (r : OwnRequest) : State :=
  match s.cues.writeBack with
  | n :: rest =>
    let granted := s.onBus fun b =>
      { b with port := some (s.writeBackGrantBurst r n), writeBackReq := none, waited := 0 }
    (granted.onSlot n fun q => { q with listed := false }).onCues fun c => { c with writeBack := rest }
  | [] => s.onBus fun b => ({ b with writeBackReq := none } : BusState).withdrawn

/-- The highest-ranked pending own request is granted: write-back, then wipe, then verify. -/
def State.grantOwn (s : State) : State :=
  match s.bus.writeBackReq, s.bus.wipeReq, s.bus.verifyReq with
  | some r, _, _ => s.grantWriteBack r
  | none, some r, _ => s.onBus fun b => { b with port := some r.burst, wipeReq := none, waited := 0 }
  | none, none, some r => s.onBus fun b => { b with port := some r.burst, verifyReq := none, waited := 0 }
  | none, none, none => s

/-- R18: the port would take the transaction presented, were the memory port free. -/
def State.canTake (s : State) : Bool :=
  s.bus.presented.isSome && s.bus.upstream.isNone && !s.lines.fbrst

/-- R16: what the arbiter does when the memory port is free. The guard's grant and the take are rows of
their own and become due (log 2). -/
def State.arbitrate (s : State) : State :=
  if s.lines.rstn || s.bus.port.isSome then s
  else if s.bus.guardClaims then s.addDue .guardClaim
  else if s.canTake then s.addDue .takePresented
  else s.grantOwn

/-! ## The pair lines (R80 to R83) -/

/-- R83. -/
def ShowUnit.dropPair (f : ShowUnit) : ShowUnit :=
  { f with swapReady := false, latch := false, pairWait := .idle }

/-- R80, R81: PARTNER already high sets the latch at once. -/
def ShowUnit.startPair (f : ShowUnit) (partner : Bool) (wait : Nat) : ShowUnit :=
  { f with swapReady := true, latch := partner, pairWait := if partner then .idle else .counting wait }

/-- A handshake ends with its conditions or its head, and starts when they hold together. `before` is
the head's slot before the event. The last step of an earlier handshake's timer is no step of the timer
loaded now (R80, R82, R83). -/
def State.settlePair (s : State) (before : Option SlotNo) : State :=
  let dropped :=
    if s.face.swapReady && (!s.handshakeWanted || s.headSlot != before) then s.onFace ShowUnit.dropPair
    else s
  if !dropped.face.swapReady && dropped.handshakeWanted then
    (dropped.dropDue .pairWaitExpiry).onFace fun f => f.startPair dropped.lines.partner dropped.settings.pairWait
  else dropped

/-- What follows an event that may move the queue, a buffer, the dwell timer or a request: the pair
lines, the engines, then the arbiter. -/
def State.after (before : State) (s : State) : State :=
  ((s.settlePair before.headSlot).prepare).arbitrate

/-- An event with what follows it. -/
def State.event (s : State) (f : State → State) : State := s.after (f s)

/-! ## The ends of own bursts -/

/-- The memory port falls free. -/
def State.freePort (s : State) : State := s.onBus fun b => { b with port := none }

/-- The burst of this engine in flight. -/
def State.ownBurst (s : State) (e : Engine) : Option Burst :=
  match s.bus.port with
  | some p => if p.source == .own e then some p else none
  | none => none

/-- The slot closes as its final result has been written (R65, log 21). -/
def State.emptySlot (s : State) (n : SlotNo) : State :=
  (s.onSlot n fun r =>
    if r.state == .closing then { SlotRecord.powerOn with listed := r.listed } else r).freeRetired n

/-- R65. -/
def State.endWriteBack (s : State) (p : Burst) (st : MemStatus) : State :=
  match p.serves with
  | some n =>
    let told := match st with
      | .ok => s
      | .error => s.offer .resultLost none (natItem n.val)
    if p.carriesFinal then told.emptySlot n else told
  | none => s

/-- R37, R38: a WIPE BUFFER service for the buffer ends with its sweep. Only its buffer's service can be
IN_PROGRESS for it. -/
def State.endWipeService (s : State) (k : BufferNo) (st : ServiceState) (e : ServiceError) : State :=
  if s.inProgress .wipeBuffer && s.link.handed.p1 == natItem k.val then s.setService st e else s

/-- The engine becomes idle. -/
def State.endSweep (s : State) : State := s.onTable fun t => { t with sweeping := none }

/-- Words of a buffer. -/
def State.bufferWords (s : State) : Nat := s.settings.layout.faceWords

/-- R37, R38. -/
def State.endWipe (s : State) (st : MemStatus) : State :=
  match s.table.sweeping with
  | none => s
  | some k =>
    match st with
    | .error =>
      (((s.onBuffer k fun r => { r with state := .outOfUse, progress := 0 }).offer .wipeFailed none
        (natItem k.val)).endWipeService k .failed .memoryError).endSweep
    | .ok =>
      let progress := (s.table.records.get k).progress + 16
      if s.bufferWords ≤ progress then
        ((s.onBuffer k BufferRecord.toFree).endWipeService k .done .none).endSweep
      else s.onBuffer k fun r => { r with progress := progress }

/-- The verify ends with a rejection (R43, R44, R60). -/
def State.rejectVerify (s : State) (k : BufferNo) (crc : Option Half) (reason : Reason) : State :=
  let slot := (s.table.records.get k).slot
  let returned :=
    ((s.onTable fun t => { t with verifying := none }).onBuffer k fun r => { r with lastCrc := crc }).returnBuffer k
  match slot with
  | some n => returned.rejectQueued n reason
  | none => returned

/-- R43. -/
def State.finishVerify (s : State) (w : VerifyWork) : State :=
  if w.running == w.expected then
    (s.onTable fun t => { t with verifying := none }).onBuffer w.buffer fun r =>
      { r with state := .staged, lastCrc := some w.running }
  else s.rejectVerify w.buffer (some w.running) .contentMismatch

/-- R42 to R44. -/
def State.endVerify (s : State) (st : MemStatus) (ws : List Word) : State :=
  match s.table.verifying with
  | none => s
  | some w =>
    match st with
    | .error => s.rejectVerify w.buffer none .memoryError
    | .ok =>
      let read := { w with wordsRead := w.wordsRead + 16, running := crc16Words w.running ws }
      if s.bufferWords ≤ read.wordsRead then s.finishVerify read
      else s.onTable fun t => { t with verifying := some read }

/-- The end of an own burst: a discarded one only frees the port (R15). -/
def State.ownBurstEnd (s : State) (e : Engine) (f : State → Burst → State) : State :=
  match s.ownBurst e with
  | none => s
  | some p => s.event fun t => if p.discarded then t.freePort else f t.freePort p

end Sys2Proof.Machine
end

