-- ==== Sys2Proof/Machine/Show.lean ====
section
/-! DEFINITION. The Show unit (04): the decision at a refresh start, dwell, scan stall. -/

namespace Sys2Proof.Machine

/-! ## Dwell (R72, R73) -/

/-- The larger of the class's time and the minimum of the band in force. -/
def State.dwellLoad (s : State) (cls : Fin 4) : Nat := max (s.settings.dwellClass cls) s.bandMinDwell

def loadedDwell (n : Nat) : Dwell := if n = 0 then .met else .counting n

/-! ## Marks on the cues that move (R61) -/

/-- ON_FACE at the first show, with the show stamp; a NOTICE with a lifetime loads its notice time. -/
def State.showFirst (s : State) (e : QueueEntry) : State :=
  let time := if e.kind == .notice && e.lifetime != 0 then some e.lifetime else none
  s.setOutcome e.slot fun r =>
    { r with state := .active, outcome := some .onFace, noticeTime := time,
             showStamp := some { sequence := s.face.sequence, clock := s.clockNow } }

/-- An interim outcome of a cue that stays ACTIVE. -/
def State.setInterim (s : State) (n : SlotNo) (o : CueOutcome) : State :=
  s.setOutcome n fun r => { r with outcome := some o }

/-! ## Swap (R75) -/

/-- The outgoing Showing is retired. -/
def State.retireShowing (s : State) : State :=
  match s.face.showing with
  | .buffer b n => (s.onBuffer b (BufferRecord.toState .retiring)).closeSlot n .retired none
  | .blank n => s.closeSlot n .retired none
  | .black => s

def QueueEntry.selection (e : QueueEntry) : Showing :=
  match e.buffer with
  | some b => .buffer b e.slot
  | none => .blank e.slot

def State.bufferToShowing (s : State) (b : Option BufferNo) : State :=
  match b with
  | some k => s.onBuffer k (BufferRecord.toState .showing)
  | none => s

/-- The head takes the face. -/
def State.swapIn (s : State) (e : QueueEntry) : State :=
  let load := s.dwellLoad e.dwellClass
  let moved := ((s.dequeue e.slot).bufferToShowing e.buffer).showFirst e
  moved.onFace fun f =>
    { f.dropPair with showing := e.selection, dwellClass := some e.dwellClass, dwell := loadedDwell load }

/-! ## Notice preempt (R71, R76) -/

/-- What the notice takes the face from. -/
def ShowUnit.toSuspend (f : ShowUnit) : Suspended :=
  match f.showing, f.dwellClass with
  | .buffer b n, some c => .buffer b n c
  | .blank n, some c => .blank n c
  | _, _ => .empty

def State.suspendShowing (s : State) : State :=
  match s.face.toSuspend with
  | .buffer b n _ => (s.onBuffer b (BufferRecord.toState .suspended)).setInterim n .suspended
  | .blank n _ => s.setInterim n .suspended
  | .empty => s

def State.preempt (s : State) (e : QueueEntry) : State :=
  let taken := ((s.suspendShowing.dequeue e.slot).bufferToShowing e.buffer).showFirst e
  taken.onFace fun f =>
    { f with suspended := s.face.toSuspend, showing := e.selection, dwellClass := some e.dwellClass,
             dwell := .idle }

/-! ## Notice end (R77) -/

/-- The notice's slot closes and B7 goes to WIPING. -/
def State.closeNotice (s : State) : State :=
  let cleared := s.onFace fun f => { f with noticeEnd := false }
  match s.face.showing with
  | .buffer b n => (cleared.onBuffer b BufferRecord.toWiping).closeSlot n .noticeEnded none
  | _ => cleared

/-- What was suspended takes the face again with a fresh dwell. -/
def State.resume (s : State) (sel : Showing) (n : SlotNo) (c : Fin 4) : State :=
  let load := s.dwellLoad c
  (s.setInterim n .onFace).onFace fun f =>
    { f with showing := sel, dwellClass := some c, suspended := .empty, dwell := loadedDwell load }

def State.goBlack (s : State) : State :=
  s.onFace fun f => { f with showing := .black, dwellClass := none, dwell := .met }

/-- The head if it may swap in: an eligible FRAME or BLANK whose pair condition is met. -/
def State.swappable (s : State) : Option QueueEntry :=
  match s.head with
  | some e => if e.isFrameOrBlank && s.eligible e && s.pairCondition e then some e else none
  | none => none

def State.endNotice (s : State) : State :=
  let ended := s.closeNotice
  match s.face.suspended with
  | .buffer b n c => (ended.onBuffer b (BufferRecord.toState .showing)).resume (.buffer b n) n c
  | .blank n c => ended.resume (.blank n) n c
  | .empty =>
    match s.swappable with
    | some e => ended.swapIn e
    | none => ended.goBlack

/-! ## The decision (R74) -/

/-- The head NOTICE that takes the face. -/
def State.preempting (s : State) : Option QueueEntry :=
  match s.head with
  | some e => if e.kind == .notice && s.eligible e then some e else none
  | none => none

def State.showDecision (s : State) : State :=
  if s.noticeShowing then (if s.face.noticeEnd then s.endNotice else s)
  else
    match s.preempting with
    | some e => s.preempt e
    | none =>
      if s.face.dwell == .met then
        match s.swappable with
        | some e => s.retireShowing.swapIn e
        | none => s
      else s

/-! ## The Show unit's part of a refresh start (R69, R86) -/

def State.advanceSequence (s : State) : State := s.onFace fun f => { f with sequence := f.sequence + 1 }

/-- The stall count returns to 0; a stalled scan has resumed. -/
def State.resumeScan (s : State) : State :=
  let told :=
    if s.face.stalled then s.offer .scanResumed none (natItem s.face.stallCount) else s
  told.onFace fun f => { f with stallCount := 0, stalled := false }

def State.showRefreshStart (s : State) : State :=
  let t := s.advanceSequence.resumeScan
  t.showDecision.settlePair t.headSlot

end Sys2Proof.Machine
end

