-- ==== Sys2Proof/Machine/TileTest.lean ====
section
/-! DEFINITION. The Tile test (09): attempts, their judgement and the end of a test. -/

namespace Sys2Proof.Machine

/-! ## What runs -/

def TestRecord.runs (t : TestRecord) : Bool := t.outcome == .inProgress

/-- R139: a judged report of this tile that echoes this sequence is a test report. -/
def TestRecord.names (t : TestRecord) (i : TileNo) (seq : Byte) : Bool :=
  t.runs && t.tile == some i && t.named.contains seq

/-- R111: the tile's words are replaced in its test refresh. -/
def TestRecord.substitutes (t : TestRecord) (i : TileNo) : Bool :=
  t.runs && t.tile == some i && t.phase == .sending

/-- R165: floor(1023 × Fg / 1024). -/
def patternLevel (gain : Nat) : Nat := 1023 * gain / 1024

/-! ## The call (R163) -/

def TestRecord.called (i : TileNo) (attempts : Nat) : TestRecord :=
  { tile := some i, requested := some attempts, used := 0, phase := .due, sequence := none,
    level := none, wait := 0, named := [], lastResult := none, lastMatched := none, lastDark := none,
    outcome := .inProgress }

/-! ## The end of a test (R168, R169) -/

/-- R168's list of final values leaves out the wait count: it keeps its last value (DESIGN CHOICE,
log 38). -/
def TestRecord.ended (t : TestRecord) (o : TestOutcome) : TestRecord :=
  { t with outcome := o, phase := .none, named := [], sequence := none }

/-- The result goes to Fault accounting, then the service ends, then the record takes its final values. -/
def State.endTest (s : State) (i : TileNo) (passed : Bool) : State :=
  if passed then
    ((s.tilePassed i).setService .done .none).onTest fun t => t.ended .passed
  else ((s.tileFailed i).setService .failed .testFailed).onTest fun t => t.ended .failedAttempts

/-- R169. -/
def State.stallTest (s : State) : State :=
  if s.test.runs then
    (s.setService .failed .scanStall).onTest fun t => t.ended .failedStall
  else s

/-! ## The end of an attempt (R167) -/

def TestRecord.retry (t : TestRecord) : TestRecord := { t with phase := .due, sequence := none, wait := 0 }

def TestRecord.attemptsLeft (t : TestRecord) : Bool := decide (t.used < t.requested.getD 0)

def State.endAttempt (s : State) (r : AttemptResult) : State :=
  let marked := s.onTest fun t => { t with lastResult := some r }
  match s.test.tile with
  | none => marked
  | some i =>
    if r == .pass then marked.endTest i true
    else if s.test.attemptsLeft then marked.onTest TestRecord.retry
    else marked.endTest i false

/-! ## A test report (R166) -/

def attemptResult (c : Comparison) (dark darkLimit : Nat) : AttemptResult :=
  match c with
  | .matched => if dark ≤ darkLimit then .pass else .dark
  | .mismatch => .mismatch
  | .notCompared => .incomplete
  | .stale => .stale
  | .test => .stale

/-- It echoes the current attempt. -/
def TestRecord.current (t : TestRecord) (seq : Byte) : Bool :=
  t.runs && t.sequence == some seq && (t.phase == .sending || t.phase == .awaiting)

def State.testReport (s : State) (seq : Byte) (c : Comparison) (dark : BitVec 12) : State :=
  if s.test.current seq then
    (s.onTest fun t => { t with lastMatched := some (c == .matched), lastDark := some dark }).endAttempt
      (attemptResult c dark.toNat s.settings.darkLimit)
  else s

/-! ## The step at a refresh start (R164) -/

/-- A DUE attempt begins. -/
def State.beginAttempt (s : State) : State :=
  if s.test.runs && s.test.phase == .due then
    s.onTest fun t =>
      { t with used := t.used + 1, sequence := some s.face.sequence,
               named := t.named ++ [s.face.sequence], level := some (patternLevel s.tiles.gain),
               phase := .sending }
  else s

/-- The history entry of the test refresh just closed is incomplete. -/
def State.testIncomplete (s : State) : Bool :=
  match s.test.tile, s.test.sequence with
  | some i, some q =>
    match (s.tile i).scan.history.find? fun e => e.sequence == q with
    | some e => !e.complete
    | none => false
  | _, _ => false

/-- The named sequence that comes round again is dropped. -/
def TestRecord.dropNamed (t : TestRecord) (seq : Byte) : TestRecord :=
  { t with named := t.named.filter (· != seq) }

def State.testStep (s : State) : State :=
  if s.test.runs then
    let t := s.onTest fun t => t.dropNamed s.face.sequence
    match s.test.phase with
    | .sending =>
      let awaiting := t.onTest fun t => { t with phase := .awaiting, wait := 1 }
      if s.testIncomplete then (awaiting.endAttempt .incomplete).beginAttempt else awaiting
    | .awaiting => t.onTest fun t => { t with wait := saturate 255 (t.wait + 1) }
    | .due => t.beginAttempt
    | .none => t
  else s

/-- The wait count stands at or above the report timeout. -/
def State.waitExpired (s : State) : Bool :=
  s.test.runs && s.test.phase == .awaiting && decide (s.settings.reportTimeout ≤ s.test.wait)

/-- NO_ECHO; the next attempt begins at that same refresh start (R167). -/
def State.endWait (s : State) : State :=
  if s.waitExpired then (s.endAttempt .noEcho).beginAttempt else s

end Sys2Proof.Machine
end

