-- ==== Sys2Proof/Machine/Scan.lean ====
section
/-! DEFINITION. Scan integrity (07) and the scan datapath (06 R111): the words of a refresh, its close,
the report shadow, reports and their judgement, silence. -/

namespace Sys2Proof.Machine

/-! ## The datapath and the count of a word (R111, R128) -/

def State.tileAt (s : State) (offset : Nat) : TileNo := Fin.ofNat 128 (s.settings.layout.tileOf offset)

/-- The word as it leaves the datapath. -/
def State.datapath (s : State) (offset : Nat) (w : Word) : Word :=
  let i := s.tileAt offset
  if s.test.substitutes i then patternWord (s.test.level.getD 0) else scaleWord w (s.tile i).applied

/-- The word enters its tile's CRC, order check and count. -/
def TileScan.count (t : TileScan) (place : Nat) (w : Word) : TileScan :=
  { t with running := crc16Word t.running w, broken := t.broken || place != t.delivered,
           delivered := saturate 65535 (t.delivered + 1) }

def State.countWord (s : State) (offset : Nat) (w : Word) : State :=
  s.onTileScan (s.tileAt offset) fun t => t.count (s.settings.layout.localIndex offset) w

/-! ## The close of a refresh (R129, R130) -/

def TileScan.entry (t : TileScan) (seq : Byte) (words : Nat) : HistoryEntry :=
  { sequence := seq, crc := t.running, complete := t.delivered == words && !t.broken }

/-- At most four entries, oldest first. -/
def appendHistory (h : List HistoryEntry) (e : HistoryEntry) : List HistoryEntry :=
  (if 4 ≤ h.length then h.tail else h) ++ [e]

def TileScan.close (t : TileScan) (seq : Byte) (words : Nat) : TileScan :=
  { t with history := appendHistory t.history (t.entry seq words) }

def TileScan.restart (t : TileScan) : TileScan :=
  { t with running := crc16Init, delivered := 0, broken := false }

/-- Close and restart of one tile's record; tiles outside the face close nothing. -/
def TileRecord.refresh (opened : Option Byte) (n words : Nat) (i : TileNo) (r : TileRecord) : TileRecord :=
  match opened with
  | some q =>
    { r with scan := if i.val < n then (r.scan.close q words).restart else r.scan.restart }
  | none => { r with scan := r.scan.restart }

def State.closeRefresh (s : State) : State :=
  let opened := s.scan.openRefresh
  let n := s.tileCount
  let words := s.settings.layout.wordsPerTile
  (s.onTiles fun t => { t with records := t.records.mapIdx (TileRecord.refresh opened n words) }).onScan
    fun c => { c with openRefresh := some s.face.sequence }

/-! ## The report shadow (R131) -/

def State.reportShadow (s : State) (i : TileNo) (word : Nat) : Word :=
  s.scan.shadow.get (reportShadowCell i word)

def State.takeReportWord (s : State) (i : TileNo) (word : Nat) (d : DataWord) : State :=
  if word < 3 then
    s.onScan fun c =>
      { c with shadow := c.shadow.modify (reportShadowCell i word) fun old => mergeBytes old d.word d.enables }
  else
    s.onScan fun c => { c with noted := c.noted ++ [{ slot := i, word := d.word, enables := d.enables }] }

/-! ## Judging a report (R135 to R139) -/

def TileScan.compare (t : TileScan) (r : Report) : Comparison :=
  match t.history.find? fun e => e.sequence == r.sequence with
  | some e => if !e.complete then .notCompared else if e.crc == r.crc then .matched else .mismatch
  | none => .stale

/-- The event of a comparison result. -/
def Comparison.event : Comparison → List TileEvent
  | .mismatch => [.echoMismatch]
  | .stale => [.staleReport]
  | .matched => []
  | .notCompared => []
  | .test => []

/-- The events of a report in the order they are handed (R136). -/
def Report.events (r : Report) (c : Comparison) (darkLimit : Nat) : List TileEvent :=
  c.event ++ (if darkLimit < r.dark.toNat then [.darkPixels] else [])
    ++ (if r.supplyLow then [.supplyLow] else []) ++ (if r.linkLost then [.linkLost] else [])

def Report.summary (r : Report) (c : Comparison) : LastReport :=
  { sequence := r.sequence, result := c, dark := r.dark, temperature := r.temperature,
    overtemp := r.overtemp, supplyLow := r.supplyLow, linkLost := r.linkLost }

/-- R138, R140: the last report, and the silence count back to 0. -/
def State.fileReport (s : State) (i : TileNo) (r : Report) (c : Comparison) : State :=
  s.onTileScan i fun t => { t with last := some (r.summary c), silence := 0 }

/-- R137. -/
def State.handOvertemp (s : State) (i : TileNo) (r : Report) : State :=
  let told :=
    if r.overtemp && !(s.tile i).derate then
      s.offer .tileOvertemp (some i) (temperatureOf r.temperature)
    else s
  told.setDerate i r.overtemp

/-- R136: the events, or the good report. -/
def State.handEvents (s : State) (i : TileNo) (r : Report) (c : Comparison) : State :=
  let es := r.events c s.settings.darkLimit
  if c == .matched && es.isEmpty then s.goodReport i else es.foldl (fun t e => t.tileEvent i e) s

/-- A report in place judged. -/
def State.judgeReport (s : State) (i : TileNo) (r : Report) : State :=
  let c := (s.tile i).scan.compare r
  if s.test.names i r.sequence then (s.fileReport i r .test).testReport r.sequence c r.dark
  else ((s.fileReport i r c).handEvents i r c).handOvertemp i r

/-! ## Making a report (R132 to R134) -/

def State.misplaced (s : State) (i : TileNo) (r : Report) : Bool :=
  r.tile.toNat != i.val || decide (s.tileCount ≤ i.val)

def State.makeReport (s : State) (i : TileNo) (w3 : Word) : State :=
  let r := reportOf (s.reportShadow i 0) (s.reportShadow i 1) (s.reportShadow i 2) w3
  if s.misplaced i r then s.offer .reportMisplaced (some i) (r.tile.setWidth 16)
  else if s.scan.openRefresh == some r.sequence then s.onTileScan i fun t => { t with held := some r }
  else s.judgeReport i r

def State.reportNoted (s : State) (w : NotedWord 128) : State :=
  if w.enables.isAll then s.makeReport w.slot w.word else s

def State.dropNotedReports (s : State) : State := s.onScan fun c => { c with noted := [] }

/-- R132: each noted flags word in address order. -/
def State.makeReports (s : State) : State := s.scan.noted.foldl State.reportNoted s.dropNotedReports

/-! ## Held reports and silence at a refresh start (R129, R134, R140) -/

def State.judgeHeld (s : State) (i : TileNo) : State :=
  match (s.tile i).scan.held with
  | some r => (s.onTileScan i fun t => { t with held := none }).judgeReport i r
  | none => s

def State.judgeHeldReports (s : State) : State := s.tilesInUse.foldl State.judgeHeld s

def TileScan.silenceStep (t : TileScan) : TileScan := { t with silence := saturate 255 (t.silence + 1) }

def State.silenceSteps (s : State) : State :=
  let n := s.tileCount
  s.onTiles fun t =>
    { t with records := t.records.mapIdx fun i r =>
        if i.val < n then { r with scan := r.scan.silenceStep } else r }

/-- The silence count stands at or above the report timeout. -/
def State.silenceReached (s : State) (i : TileNo) : Bool :=
  decide (i.val < s.tileCount) && decide (s.settings.reportTimeout ≤ (s.tile i).scan.silence)

/-- SILENT is handed and the count returns to 0. -/
def State.fallSilent (s : State) (i : TileNo) : State :=
  if s.silenceReached i then (s.onTileScan i fun t => { t with silence := 0 }).tileEvent i .silent else s

/-! ## A refresh start (R12, R69, R120, R129, R164; the order: log 14) -/

/-- What the refresh start leaves to rows of their own. -/
def State.refreshDues (s : State) : List DueEvent :=
  (s.tilesInUse.filter s.silenceReached).map DueEvent.silent
    ++ (if s.waitExpired then [.testWaitExpiry] else [])

/-- The silence counts rise before the Tile test's step; SILENT itself is handed after it, as a row of its
own (DESIGN CHOICE, log 40). -/
def State.refreshStart (s : State) : State :=
  let shown := (s.showRefreshStart.onBus fun b => { b with errorMark := false }).rampAll
  let judged := shown.closeRefresh.judgeHeldReports
  let stepped := judged.silenceSteps.testStep
  stepped.addDuesFirst stepped.refreshDues

end Sys2Proof.Machine
end

