-- ==== Sys2Proof/Machine/Bus.lean ====
section
/-! DEFINITION. The Frame Bus Path (01): the take of a transaction, its words, its ends, and the resets of
the port. -/

namespace Sys2Proof.Machine

/-! ## The verdict (R6 to R13) -/

/-- R9: a word of a slot the host may write now. -/
def State.hostMayWrite (s : State) (a : Nat) : Bool :=
  let w := cueWordAt s.settings.layout a
  (decide (w < 4) || w == 7) && (s.slot (cueSlotAt s.settings.layout a)).state == .empty

def State.cueWriteAllowed (s : State) (address : Word) (length : Nat) : Bool :=
  (burstAddresses address length).all s.hostMayWrite

/-- R8, R26: the cause for which a CONTENT write touching these buffers is refused. -/
def State.bufferWriteRefusal (s : State) (ks : List BufferNo) : Option RefusalCause :=
  if ks.any fun k => s.bufferState k != .free && s.bufferState k != .filling then some .state
  else if ks.contains noticeBuffer && !s.gateOpen then some .gate
  else none

/-- The cause of a refused write into the buffer area, of any initiator. -/
def State.bufferRefusal (s : State) (who : Initiator) (ks : List BufferNo) : Option RefusalCause :=
  if who == .content then s.bufferWriteRefusal ks else some .initiator

/-- R7. -/
def State.writeVerdict (s : State) (p : Presented) (w : Window) : Verdict :=
  match w with
  | .outside => .pass
  | .face => .refuse
  | .straddle => .refuse
  | .buffer =>
    if (s.bufferRefusal p.initiator (touchedBuffers s.settings.layout p.address p.length)).isSome then .refuse
    else .pass
  | .cue =>
    if p.initiator == .content && s.cueWriteAllowed p.address p.length then .watch else .refuse
  | .report => if p.initiator == .report then .watch else .refuse

/-- R7, R12, R13. -/
def State.readVerdict (s : State) (w : Window) : Verdict :=
  match w with
  | .straddle => .refuse
  | .face =>
    match s.face.showing with
    | .buffer _ _ => .remap
    | .blank _ => .answer
    | .black => .answer
  | .outside | .buffer | .cue | .report => .pass

/-- R6. -/
def State.setupVerdict (s : State) (p : Presented) : Verdict :=
  if p.direction == .read
      && (burstAddresses p.address p.length).any (LayoutWindow.face.holds s.settings.layout) then .answer
  else .pass

def State.verdictOf (s : State) (p : Presented) (w : Window) : Verdict :=
  if !s.running then s.setupVerdict p
  else
    match p.direction with
    | .write => s.writeVerdict p w
    | .read => s.readVerdict w

def windowOf (l : Layout) (p : Presented) : Window := classify l p.address p.length

/-- R69: a SCAN read of the face window at face offset 0, in RUNNING. -/
def State.startsRefresh (s : State) (p : Presented) : Bool :=
  s.running && p.initiator == .scan && p.direction == .read
    && windowOf s.settings.layout p == .face && p.address == s.settings.layout.faceBase

/-! ## The take (R2, R5, R8, R16) -/

/-- R12: the target buffer of a REMAP. -/
def State.targetOf (s : State) (v : Verdict) : Option BufferNo :=
  match v, s.face.showing with
  | .remap, .buffer b _ => some b
  | _, _ => none

def State.openRecord (s : State) (p : Presented) (starts : Bool) : TxRecord :=
  let w := windowOf s.settings.layout p
  let v := s.verdictOf p w
  { initiator := p.initiator, direction := p.direction, address := p.address, length := p.length,
    data := [], window := w, verdict := v, target := s.targetOf v, refreshStart := starts,
    wordsDone := 0, status := none, layout := s.settings.layout, governed := s.running,
    endedShort := false }

def Verdict.forwarded : Verdict → Bool
  | .pass | .watch | .remap => true
  | .answer | .refuse => false

/-- The offset of the first word in the face window (R4). -/
def TxRecord.faceOffset (l : Layout) (t : TxRecord) : Nat := t.address.toNat - l.faceBase.toNat

/-- The memory-side image of a forwarded transaction (R3, R12). -/
def TxRecord.burst (l : Layout) (t : TxRecord) : Burst :=
  { source := .forwarded, direction := t.direction,
    address := match t.target with
      | some b => BitVec.ofNat 32 (l.bufferAddress b + t.faceOffset l)
      | none => t.address,
    length := t.length, data := [], discarded := false, serves := none, carriesFinal := false }

/-- R8, R25, R26: the Buffer Table is told of a write into the buffer area. -/
def State.tellBuffers (s : State) (t : TxRecord) : State :=
  if s.running && t.window == .buffer && t.direction == .write then
    let ks := touchedBuffers s.settings.layout t.address t.length
    match s.bufferRefusal t.initiator ks with
    | some cause => s.onBuffers ks (BufferRecord.refusedWrite cause)
    | none => s.onBuffers ks BufferRecord.filled
  else s

/-- R17. -/
def BusState.forwardedGrant (b : BusState) : Nat :=
  if b.anyRequest then saturate 8 (b.waited + 1) else b.waited

/-- The transaction in progress is completed with its status and its record closed (R2). -/
def State.complete (s : State) (st : Completion) : State :=
  s.onBus fun b =>
    { b with upstream := none, closed := b.upstream.map fun t => { t with status := some st } }

/-- The record is opened, and the memory port granted, the read refused, or the arbiter left to grant
an own request. -/
def State.enact (s : State) (t : TxRecord) : State :=
  let opened := s.onBus fun b => { b with upstream := some t, presented := none }
  let told := opened.tellBuffers t
  if t.verdict.forwarded then
    told.onBus fun b =>
      { b with port := some (t.burst s.settings.layout), waited := b.forwardedGrant }
  else if t.verdict == .refuse && t.direction == .read then (told.complete .refused).arbitrate
  else told.arbitrate

/-- The take: the refresh start first, then the engines' requests (log 15), then the record. -/
def State.takeTransaction (s : State) (p : Presented) : State :=
  let starts := s.startsRefresh p
  let ready := (if starts then s.refreshStart else s).prepare
  ready.enact (ready.openRecord p starts)

/-- The transaction held at the port is taken, where the port is ready (R16, R18). -/
def State.takePresented (s : State) : State :=
  match s.bus.presented with
  | some p => if s.portReady then s.takeTransaction p else s
  | none => s

/-- A transaction newly presented is taken or held; one already held stands (log 5). -/
def State.present (s : State) (p : Presented) : State :=
  if s.bus.presented.isSome then s
  else (s.onBus fun b => { b with presented := some p }).takePresented

/-! ## Data words of a write (R9 to R11, R48, R131) -/

/-- A word of the transaction is still to be transferred. -/
def TxRecord.wordOwed (t : TxRecord) : Bool := decide (t.wordsDone < t.length) && !t.endedShort

def TxRecord.nextAddress (t : TxRecord) : Nat := wordAddress t.address t.wordsDone

/-- A word of a WATCH write is handed on, with its slot and word number in the window it was taken in: a
base written after a RESTART moves no word of a write that runs on (R5, R22, log 35). -/
def State.handWord (s : State) (t : TxRecord) (d : DataWord) : State :=
  let l := t.layout
  let a := t.nextAddress
  match t.verdict, t.window with
  | .watch, .cue => s.takeCueWord (cueSlotAt l a) (cueWordAt l a) d
  | .watch, .report => s.takeReportWord (reportSlotAt l a) (reportWordAt l a) d
  | _, _ => s

/-- The word joins the record and the memory-side burst; a refused write's word is discarded. -/
def BusState.takeWord (b : BusState) (t : TxRecord) (d : DataWord) : BusState :=
  if t.verdict.forwarded then
    { b with upstream := some { t with wordsDone := t.wordsDone + 1, data := t.data ++ [d] },
             port := b.port.map fun p => { p with data := p.data ++ [d] } }
  else { b with upstream := some { t with wordsDone := t.wordsDone + 1 } }

/-- A refused write completes after its last word. -/
def State.finishRefused (s : State) (t : TxRecord) : State :=
  if t.verdict == .refuse && decide (t.length ≤ t.wordsDone + 1) then (s.complete .refused).arbitrate else s

def State.writeWord (s : State) (d : DataWord) : State :=
  match s.bus.upstream with
  | some t =>
    if t.direction == .write && t.wordOwed then
      (((s.handWord t d).onBus fun b => b.takeWord t d)).finishRefused t
    else s
  | none => s

/-! ## Words of a read (R13, R14, R20, R22) -/

/-- The word as it is obtained: memory's, or a zero of the device's. -/
def TxRecord.obtain (t : TxRecord) (w : Word) : Word :=
  match t.verdict with
  | .answer => 0
  | .remap => if t.governed then w else 0
  | .pass | .watch | .refuse => w

/-- R14: a SCAN read of the face window in RUNNING, no RESTART having followed its take. -/
def TxRecord.scansFace (t : TxRecord) : Bool :=
  t.initiator == .scan && t.direction == .read && t.window == .face && t.governed

/-- The face offset of the word now due. -/
def TxRecord.wordOffset (l : Layout) (t : TxRecord) : Nat := t.faceOffset l + 4 * t.wordsDone

/-- The word driven to the initiator. -/
def State.drive (s : State) (t : TxRecord) (w : Word) : State :=
  s.onBus fun b => { b with delivered := some w, upstream := some { t with wordsDone := t.wordsDone + 1 } }

/-- A read the device answers completes OK after its last word. -/
def State.finishAnswer (s : State) (t : TxRecord) : State :=
  if t.verdict == .answer && decide (t.length ≤ t.wordsDone + 1) then (s.complete .ok).arbitrate else s

def State.deliverWord (s : State) (t : TxRecord) (w : Word) : State :=
  if t.scansFace then
    let offset := t.wordOffset s.settings.layout
    let out := s.datapath offset (t.obtain w)
    (s.countWord offset out).drive t out
  else s.drive t (t.obtain w)

def State.readWord (s : State) (w : Word) : State :=
  match s.bus.upstream with
  | some t =>
    if t.direction == .read && t.wordOwed then (s.deliverWord t w).finishAnswer t else s
  | none => s

/-! ## Short ends (R19) -/

/-- The memory-side burst is ended after the words already transferred. -/
def State.endForwardedShort (s : State) (t : TxRecord) : State :=
  s.onBus fun b =>
    { b with upstream := some { t with endedShort := true },
             port := b.port.map fun p => { p with length := t.wordsDone } }

def State.shortEnd (s : State) : State :=
  match s.bus.upstream with
  | some t =>
    if t.wordOwed then
      match t.verdict with
      | .pass | .watch | .remap => s.endForwardedShort t
      | .answer => (s.complete .ok).arbitrate
      | .refuse => (s.complete .refused).arbitrate
    else s
  | none => s

/-! ## The end of a forwarded burst (R9, R10, R20) -/

def TxRecord.watched (t : TxRecord) (w : Window) : Bool := t.verdict == .watch && t.window == w

/-- The status of a WATCH write is handed on: OK judges what was noted, an error drops it. -/
def State.handStatus (s : State) (t : TxRecord) (st : MemStatus) : State :=
  let judged := st == .ok && t.governed && s.running
  if t.watched .cue then (if judged then s.judgeCommits else s.dropNotedCues)
  else if t.watched .report then (if judged then s.makeReports else s.dropNotedReports)
  else s

/-- R20: the first failed SCAN face read of a refresh raises MEMORY_ERROR. -/
def State.memoryErrorRecord (s : State) (t : TxRecord) (st : MemStatus) : State :=
  if st == .error && t.scansFace && t.verdict == .remap && !s.bus.errorMark then
    (s.offer .memoryError none (optNatItem (t.target.map Fin.val))).onBus fun b => { b with errorMark := true }
  else s

def MemStatus.completion : MemStatus → Completion
  | .ok => .ok
  | .error => .memoryError

/-- Words are owed that the memory controller's end would leave out: all of a write's, or a read's with
status OK (log 6). -/
def TxRecord.endsEarly (t : TxRecord) (st : MemStatus) : Bool :=
  t.wordOwed && (t.direction == .write || st == .ok)

/-- R3, R19, R20: the transaction completes with the burst's status. A read its initiator has ended short takes
it too: an error, met where no further word was owed, completes it MEMORY_ERROR (DESIGN CHOICE, log 42). -/
def State.endForwarded (s : State) (t : TxRecord) (st : MemStatus) : State :=
  s.event fun u =>
    ((u.freePort.complete (MemStatus.completion st)).handStatus t st).memoryErrorRecord t st

/-- The forwarded burst holds the memory port; whether its result is discarded. -/
def State.forwardedBurst (s : State) : Option Burst :=
  match s.bus.port with
  | some p => if p.source == .forwarded then some p else none
  | none => none

/-! ## Upstream reset (R21) and what the other blocks do at it (R31, R66, R88) -/

/-- A forwarded burst runs on with its result discarded; a write ends after the words taken. -/
def BusState.abandon (b : BusState) : BusState :=
  { b with
    presented := none, upstream := none
    port := b.port.map fun p =>
      match p.source, b.upstream with
      | .forwarded, some t =>
        { p with discarded := true, length := if t.direction == .write then t.wordsDone else p.length }
      | _, _ => p }

/-- The assertion of FBRST at the upstream port. -/
def State.abandonUpstream (s : State) : State :=
  (s.onLines fun l => { l with fbrst := true }).onBus BusState.abandon

/-- R21 leaves the waited-grant count where the reset withdraws a verify request and raises the results of
the cancelled cues; with no request left pending it is 0 (R17, log 36). -/
def State.upstreamReset (s : State) : State :=
  let reset := s.abandonUpstream.event fun t =>
    let cancelled := (t.dropNotedCues.dropNotedReports).cancelQueue
    let returned := cancelled.onTable fun u =>
      { u with records := u.records.mapIdx BufferRecord.upstreamReset }
    returned.onBus fun b => { b with waited := t.bus.waited }
  reset.onBus BusState.withdrawn

/-- The release: the port is ready again. -/
def State.upstreamRelease (s : State) : State :=
  (s.onLines fun l => { l with fbrst := false }).arbitrate

/-! ## RESTART's part (R22) -/

def BusState.restarted (b : BusState) : BusState :=
  { b with
    upstream := b.upstream.map fun t => { t with governed := false }
    port := b.port.map fun p =>
      match p.source with
      | .own _ => { p with discarded := true }
      | .forwarded => p
    writeBackReq := none, wipeReq := none, verifyReq := none, waited := 0, errorMark := false }

end Sys2Proof.Machine
end

