-- ==== Sys2Proof/Machine/Light.lean ====
section
/-! DEFINITION. The Light unit (05): sensor channels, the clock of day, C and Fg. -/

namespace Sys2Proof.Machine

/-! ## Channels -/

def LightUnit.channel (l : LightUnit) : Channel → ChannelRecord
  | .a => l.channelA
  | .b => l.channelB

def LightUnit.setChannel (l : LightUnit) (ch : Channel) (r : ChannelRecord) : LightUnit :=
  match ch with
  | .a => { l with channelA := r }
  | .b => { l with channelB := r }

def State.channel (s : State) (ch : Channel) : ChannelRecord := s.light.channel ch

def State.setChannel (s : State) (ch : Channel) (r : ChannelRecord) : State :=
  s.onLight fun l => l.setChannel ch r

/-- The channel as a record's detail value: 0 for A and 1 for B. -/
def channelDetail : Channel → Half
  | .a => 0
  | .b => 1

/-! ## C and Fg (R106, R107) -/

/-- Recomputed at once; a changed pair is handed to the Tile Table. -/
def State.recomputeLight (s : State) : State :=
  let c := s.bandCeiling
  let fg := s.gainUnder c
  if c == s.light.ceiling && fg == s.light.gain then s
  else (s.onLight fun l => { l with ceiling := c, gain := fg }).handPair c fg

/-! ## A window (R91) -/

/-- The class of a window by its pulse rate. -/
def windowClass (q : Nat) : WindowClass := if q = 0 then .dark else if q ≤ 4095 then .inRange else .clipped

/-- A new window begins with the gate length now set. -/
def ChannelRecord.begin (r : ChannelRecord) (gate : Nat) : ChannelRecord :=
  { r with window := gate, left := gate, pulses := 0 }

/-- The count is captured and classed, the runs updated, and the next window begun. -/
def ChannelRecord.capture (r : ChannelRecord) (gate : Nat) : ChannelRecord :=
  let q := r.pulses / r.window
  let cls := windowClass q
  { r with raw := some (min 4095 q), last := some cls,
           darkRun := if cls == WindowClass.dark then saturate 255 (r.darkRun + 1) else 0,
           clipRun := if cls == WindowClass.clipped then saturate 255 (r.clipRun + 1) else 0 }.begin gate

/-! ## What a channel makes of its window (R93 to R97) -/

/-- R94: the quotient truncates toward zero. -/
def filterLevel (f raw shift : Nat) : Nat :=
  ((f : Int) + ((raw : Int) - (f : Int)).tdiv (2 ^ shift : Nat)).toNat

/-- |raw − F|. -/
def levelDistance (f raw : Nat) : Nat := max f raw - min f raw

/-- R94, R95: a GOOD channel's level and jump run. -/
def ChannelRecord.follow (r : ChannelRecord) (c : ChannelSettings) (f raw : Nat) : ChannelRecord :=
  if c.jump < levelDistance f raw then
    if 2 ≤ r.jumpRun then { r with level := some raw, jumpRun := 0 }
    else { r with level := some (filterLevel f raw c.shift), jumpRun := r.jumpRun + 1 }
  else { r with level := some (filterLevel f raw c.shift), jumpRun := 0 }

/-- R96. -/
def ChannelRecord.reachesDead (r : ChannelRecord) (c : ChannelSettings) : Bool :=
  decide (c.dead ≤ r.darkRun) && r.state != .dead && r.state != .off

def ChannelRecord.reachesSaturated (r : ChannelRecord) (c : ChannelSettings) : Bool :=
  decide (c.saturation ≤ r.clipRun) && r.state != .saturated && r.state != .off

/-- A channel that leaves GOOD or enters it: F and the jump run set. -/
def ChannelRecord.moveTo (r : ChannelRecord) (st : ChannelState) (level : Option Nat) : ChannelRecord :=
  { r with state := st, level := level, jumpRun := 0 }

/-- What the window makes of the channel, with the record it raises. -/
def ChannelRecord.act (r : ChannelRecord) (c : ChannelSettings) : ChannelRecord × Option FaultKind :=
  if r.reachesDead c then (r.moveTo .dead none, some .sensorDead)
  else if r.reachesSaturated c then (r.moveTo .saturated none, some .sensorSaturated)
  else
    match r.state, r.level, r.last with
    | .starting, _, some .inRange => (r.moveTo .good r.raw, none)
    | .dead, _, some .inRange => (r.moveTo .good r.raw, some .sensorRecovered)
    | .saturated, _, some .inRange => (r.moveTo .good r.raw, some .sensorRecovered)
    | .good, some f, _ => (r.follow c f (r.raw.getD 0), none)
    | _, _, _ => (r, none)

/-- The channel after its window's end, with the record it raises. -/
def State.windowResult (s : State) (ch : Channel) : ChannelRecord × Option FaultKind :=
  let c := s.settings.channel ch
  ((s.channel ch).capture c.gate).act c

/-- A window's last step. -/
def State.endWindow (s : State) (ch : Channel) : State :=
  let result := s.windowResult ch
  let moved := s.setChannel ch result.1
  let told := match result.2 with
    | some k => moved.offer k none (channelDetail ch)
    | none => moved
  told.recomputeLight

/-- The window stands at its last step. -/
def State.windowEnds (s : State) (ch : Channel) : Bool :=
  (s.channel ch).state != .off && (s.channel ch).left == 1

/-- R95: this window's end sets F to raw and the jump run to 0. -/
def State.windowJumps (s : State) (ch : Channel) : Bool :=
  let r := s.channel ch
  let after := (s.windowResult ch).1
  r.state == .good && after.state == .good && decide (2 ≤ r.jumpRun) &&
    match r.level, after.raw with
    | some f, some raw => decide ((s.settings.channel ch).jump < levelDistance f raw)
    | _, _ => false

/-! ## Pulses and steps -/

/-- R91: a pulse counts in a window that has begun. -/
def ChannelRecord.pulse (r : ChannelRecord) : ChannelRecord :=
  if r.state == .off || r.left == 0 then r else { r with pulses := saturate 65535 (r.pulses + 1) }

/-- One decisecond step short of the window's last: a first window begins, a window runs on (log 13). -/
def ChannelRecord.step (r : ChannelRecord) (gate : Nat) : ChannelRecord :=
  if r.state == .off then r
  else if r.left = 0 then r.begin gate
  else if r.left = 1 then r
  else { r with left := r.left - 1 }

/-! ## Enable (R92) -/

/-- R92. The window length field keeps the length of the discarded window until the next window begins
(DESIGN CHOICE, log 41). -/
def ChannelRecord.switchOff (r : ChannelRecord) : ChannelRecord :=
  { r with state := .off, left := 0, pulses := 0, raw := none, last := none, level := none,
           jumpRun := 0, darkRun := 0, clipRun := 0 }

def ChannelRecord.switch (r : ChannelRecord) (on : Bool) : ChannelRecord :=
  if on then (if r.state == .off then { r with state := .starting } else r) else r.switchOff

/-! ## The clock of day (R100, R101) -/

def Clock.tick (c : Clock) : Clock :=
  if c.seconds = 86399 then { c with seconds := 0, day := if c.day = 6 then 0 else c.day + 1 }
  else { c with seconds := c.seconds + 1 }

def State.tickClock (s : State) : State :=
  (s.onLight fun l => { l with clock := l.clock.tick }).recomputeLight

def State.setClock (s : State) (minute second day : Nat) : State :=
  (s.onLight fun l =>
    { l with clock := { seconds := minute * 60 + second, day := day, isSet := true } }).recomputeLight

end Sys2Proof.Machine
end

