-- ==== Sys2Proof/Machine/Due.lean ====
section
/-! DEFINITION. What a decisecond step does, the events it leaves due, and how each is taken (log 2). -/

namespace Sys2Proof.Machine

/-! ## One step of every count (R57 to R59, R61, R72, R82, R85, R91) -/

/-- A count above 1 falls; a count at 1 waits for its own row to end it. -/
def countDown (n : Nat) : Nat := if n ≤ 1 then n else n - 1

/-- R57, R58: a NOTICE's lifetime does not count in the queue. -/
def QueueEntry.step (e : QueueEntry) : QueueEntry :=
  { e with holdOff := countDown e.holdOff,
           lifetime := if e.kind == .notice then e.lifetime else countDown e.lifetime }

def Showing.slot : Showing → Option SlotNo
  | .buffer _ n => some n
  | .blank n => some n
  | .black => none

/-- R59, R61: notice time of an ACTIVE slot, shown time of the slot that shows. -/
def SlotRecord.step (showing : Option SlotNo) (n : SlotNo) (r : SlotRecord) : SlotRecord :=
  { r with noticeTime := if r.state == .active then r.noticeTime.map countDown else r.noticeTime,
           shownTime := if r.state == .active && showing == some n then saturate 65535 (r.shownTime + 1)
                        else r.shownTime }

def Dwell.step : Dwell → Dwell
  | .counting n => .counting (countDown n)
  | .idle => .idle
  | .met => .met

def PairWait.step : PairWait → PairWait
  | .counting n => .counting (countDown n)
  | .idle => .idle
  | .expired => .expired

def ShowUnit.step (running : Bool) (f : ShowUnit) : ShowUnit :=
  { f with dwell := f.dwell.step, pairWait := f.pairWait.step,
           stallCount := if running then saturate 65535 (f.stallCount + 1) else f.stallCount }

def LightUnit.step (g : Settings) (l : LightUnit) : LightUnit :=
  { l with channelA := l.channelA.step (g.channel .a).gate,
           channelB := l.channelB.step (g.channel .b).gate,
           tick := if l.tick = 9 then 0 else l.tick + 1 }

/-! ## What the step finds at its last count (the order: log 3) -/

def QueueEntry.lastStep (e : QueueEntry) : Bool :=
  e.kind != .notice && e.lifetime == 1

/-- Events of one kind come in queue order, or by slot number (DESIGN CHOICE, log 3). -/
def State.slotDues (s : State) : List DueEvent :=
  (s.cues.queue.filter fun e => e.holdOff == 1).map (fun e => .holdOffEnd e.slot)
    ++ (s.cues.queue.filter QueueEntry.lastStep).map (fun e => .cueExpiry e.slot)
    ++ ((List.finRange 32).filter fun n =>
        (s.slot n).state == .active && (s.slot n).noticeTime == some 1).map .noticeTimeEnd

def State.stallDue (s : State) : Bool :=
  s.running && !s.face.stalled && decide (s.settings.stallLimit ≤ s.face.stallCount)

def dueIf (b : Bool) (e : DueEvent) : List DueEvent := if b then [e] else []

/-- Everything due at a step: `before` is the state the step found, `s` the state it left. -/
def State.stepDues (before s : State) : List DueEvent :=
  before.slotDues
    ++ dueIf (before.face.dwell == .counting 1) .dwellMet
    ++ dueIf (before.face.pairWait == .counting 1) .pairWaitExpiry
    ++ dueIf s.stallDue .scanStall
    ++ dueIf (before.windowEnds .a) (.gateWindowEnd .a)
    ++ dueIf (before.windowEnds .b) (.gateWindowEnd .b)
    ++ dueIf (before.light.tick == 9) .secondStep

/-- R99: one decisecond step. -/
def State.decisecond (s : State) : State :=
  let cued := s.onCues fun c =>
    { c with queue := c.queue.map QueueEntry.step,
             slots := c.slots.mapIdx (SlotRecord.step s.face.showing.slot) }
  let faced := cued.onFace (ShowUnit.step s.running)
  let lit := faced.onLight (LightUnit.step s.settings)
  lit.addDues (s.stepDues lit)

/-! ## The rows of what is due -/

/-- R57: the hold-off's last step. -/
def State.endHoldOff (s : State) (n : SlotNo) : State :=
  s.event fun t => t.onEntry n fun e => if e.holdOff == 1 then { e with holdOff := 0 } else e

/-- R58. -/
def State.expireCue (s : State) (n : SlotNo) : State :=
  match s.entryOf n with
  | some e => if e.lastStep then s.event fun t => t.endQueued e .expired else s
  | none => s

/-- R59. -/
def State.endNoticeTime (s : State) (n : SlotNo) : State :=
  if (s.slot n).state == .active && (s.slot n).noticeTime == some 1 then
    (s.onSlot n fun r => { r with noticeTime := some 0 }).handNoticeEnd
  else s

/-- R72. -/
def State.meetDwell (s : State) : State :=
  if s.face.dwell == .counting 1 then s.event fun t => t.onFace fun f => { f with dwell := .met } else s

/-- R82: the head cue's slot is the detail value. -/
def State.expirePairWait (s : State) : State :=
  if s.face.pairWait == .counting 1 then
    (s.onFace fun f => { f with pairWait := .expired }).offer .pairSkew none
      (optNatItem (s.headSlot.map Fin.val))
  else s

/-- R85. -/
def State.stallScan (s : State) : State :=
  if s.stallDue then
    ((s.onFace fun f => { f with stalled := true }).offer .scanStall none
      (natItem s.face.stallCount)).stallTest
  else s

def State.takeWindowEnd (s : State) (ch : Channel) : State :=
  if s.windowEnds ch then s.endWindow ch else s

/-- R35, R100: the gate's countdown falls, and at 1 its last step is due as its own row. -/
def State.secondStep (s : State) : State :=
  let clocked := s.tickClock
  match s.table.gate with
  | .opened n =>
    if n ≤ 1 then clocked.addDue .noticeGateTimeout else clocked.setGate (.opened (n - 1))
  | .closed => clocked

/-- R34, R35. -/
def State.timeoutGate (s : State) : State :=
  match s.table.gate with
  | .opened n => if n ≤ 1 then s.event State.closeGate else s
  | .closed => s

/-- R17: the guard's grant. -/
def State.guardGrant (s : State) : State :=
  if s.bus.port.isNone && s.bus.guardClaims then s.grantOwn else s

/-- What has come due is taken. -/
def State.takeDue (s : State) : DueEvent → State
  | .guardClaim => s.guardGrant
  | .takePresented => s.takePresented
  | .silent i => s.fallSilent i
  | .testWaitExpiry => s.endWait
  | .holdOffEnd n => s.endHoldOff n
  | .cueExpiry n => s.expireCue n
  | .noticeTimeEnd n => s.endNoticeTime n
  | .dwellMet => s.meetDwell
  | .pairWaitExpiry => s.expirePairWait
  | .scanStall => s.stallScan
  | .gateWindowEnd ch => s.takeWindowEnd ch
  | .secondStep => s.secondStep
  | .noticeGateTimeout => s.timeoutGate

/-- A row of its own for an event that is due; where it is not, nothing comes about (log 4). -/
def State.takeIfDue (s : State) (e : DueEvent) : State :=
  if !s.lines.rstn && s.due.contains e then (s.dropDue e).takeDue e else s

/-- Every event that is due, in order, as far as the count allows. -/
def State.settleWithin : Nat → State → State
  | 0, s => s
  | n + 1, s =>
    match s.due with
    | [] => s
    | e :: _ => ((s.dropDue e).takeDue e).settleWithin n

/-- More than every event that can stand due at once with what they bring about. -/
def settleBound : Nat := 1024

/-- Every other command finds what was due already taken (log 2). -/
def State.settle (s : State) : State := s.settleWithin settleBound

/-- A command's effect, in its place after what was due. While RSTN is asserted it has none (log 18). -/
def State.act (s : State) (f : State → State) : State := if s.lines.rstn then s else f s.settle

end Sys2Proof.Machine
end

