-- ==== Sys2Proof/Machine/Link.lean ====
section
/-! DEFINITION. The service link (10): what the items read, what a write does, responses and frames. -/

namespace Sys2Proof.Machine

/-! ## Clock items -/

def minuteItem (seconds : Nat) : Half := natItem (seconds / 60)
def secondItem (seconds : Nat) : Half := natItem (seconds % 60)

/-- Items of the snapshot and the status table that show the clock (R178): minute, second, day, state. -/
def Clock.items (c : Clock) : List Half :=
  [minuteItem c.seconds, secondItem c.seconds, natItem c.day, boolItem c.isSet]

/-! ## Table 0x00 (R178) -/

def ChannelRecord.items (r : ChannelRecord) : List Half := [r.state.code, optNatItem r.raw, optNatItem r.level]

def State.blankReasonItem (s : State) : Half := blankItem s.faults.reasons s.faults.faultedCount

def State.statusItems (s : State) : List Half :=
  [Config.deviceCode, Config.version, s.governor.code, s.link.resetCause.code, s.settings.pairsel.code]
    ++ s.light.channelA.items ++ s.light.channelB.items
    ++ [optNatItem s.combinedLevel, natItem s.light.ceiling, natItem s.light.gain, s.bandInForce.item]
    ++ s.light.clock.items
    ++ [s.face.sequence.setWidth 16, natItem s.cues.queue.length, natItem s.faults.queue.length,
        natItem s.faults.overflow, s.blankReasonItem]

/-! ## Table 0x09 (R182) -/

def FaultWindow.entry : FaultWindow → Half
  | .nothing => 0
  | .record r => 1#8 ++ r.kind.code
  | .overflow _ => 0x0200

def FaultRecord.clockItem (r : FaultRecord) (f : ClockReading → Half) : Half :=
  match r.clock with
  | some c => f c
  | none => unsetClockItem

def FaultRecord.items (r : FaultRecord) : List Half :=
  [optNatItem (r.tile.map Fin.val), r.detail, r.sequence.setWidth 16,
   r.clockItem fun c => minuteItem c.seconds, r.clockItem fun c => secondItem c.seconds,
   r.clockItem fun c => natItem c.day]

def FaultWindow.items (w : FaultWindow) : List Half :=
  w.entry :: match w with
    | .nothing => List.replicate 6 absentItem
    | .record r => r.items
    | .overflow n => [absentItem, natItem n, absentItem, absentItem, absentItem, absentItem]

/-! ## Table 0x0A (R183) -/

def Showing.bufferItem : Showing → Half
  | .buffer b _ => natItem b.val
  | .blank _ => 8
  | .black => 8

def Suspended.item : Suspended → Half
  | .buffer b _ _ => natItem b.val
  | .blank _ _ => 8
  | .empty => 9

def Gate.stateItem : Gate → Half
  | .closed => 0
  | .opened _ => 1

def Gate.secondsItem : Gate → Half
  | .closed => 0
  | .opened n => natItem n

/-- Items 1 to 20 as they stand; item 19 is the reason set alone. -/
def State.snapshotItem (s : State) (i : Fin 20) : Half :=
  match i.val with
  | 0 => s.governor.code
  | 1 => optNatItem s.combinedLevel
  | 2 => s.light.channelA.state.code
  | 3 => s.light.channelB.state.code
  | 4 => natItem s.light.ceiling
  | 5 => natItem s.light.gain
  | 6 => s.bandInForce.item
  | 7 => s.table.gate.stateItem
  | 8 => s.table.gate.secondsItem
  | 9 => s.face.showing.bufferItem
  | 10 => optNatItem (s.face.showing.slot.map Fin.val)
  | 11 => s.face.sequence.setWidth 16
  | 12 => minuteItem s.light.clock.seconds
  | 13 => secondItem s.light.clock.seconds
  | 14 => natItem s.light.clock.day
  | 15 => boolItem s.light.clock.isSet
  | 16 => natItem s.cues.queue.length
  | 17 => BitVec.ofNat 8 s.faults.queue.length ++ BitVec.ofNat 8 s.faults.overflow
  | 18 => blankItem s.faults.reasons 0
  | _ => s.face.suspended.item

def State.captured (s : State) : Snapshot :=
  { captured := true, items := Table.tabulate 20 s.snapshotItem }

def Snapshot.item (p : Snapshot) (i : Fin 21) : Half :=
  if h : i.val = 0 then boolItem p.captured else p.items.get ⟨i.val - 1, by omega⟩

/-! ## Tables 0x10, 0x11, 0x12 (R179) -/

/-- The driver temperature of an absent last report (R194). -/
def absentTemperature : Half := 0x8000#16

def historyItem (h : List HistoryEntry) (i : Nat) : Half :=
  match h[i / 2]? with
  | some e => if i % 2 = 0 then e.item else e.crc
  | none => absentItem

/-- Index 1 to 25 of the tile state table, `i` counting from 0. -/
def TileRecord.field (r : TileRecord) (i : Fin 25) : Half :=
  match i.val with
  | 0 => r.state.code
  | 1 => natItem r.counter
  | 2 => boolItem r.derate
  | 3 => natItem r.target
  | 4 => natItem r.bound
  | 5 => natItem r.applied
  | 6 => r.scan.running
  | 7 => natItem r.scan.delivered
  | 8 => boolItem r.scan.broken
  | 9 => natItem r.scan.silence
  | 10 => natItem r.scan.history.length
  | 19 => optItem (r.scan.last.map fun p => p.result.code)
  | 20 => optItem (r.scan.last.map fun p => p.sequence.setWidth 16)
  | 21 => optItem (r.scan.last.map fun p => p.dark.setWidth 16)
  | 22 => (r.scan.last.map fun p => temperatureOf p.temperature).getD absentTemperature
  | 23 => optItem (r.scan.last.map LastReport.flagsItem)
  | 24 => boolItem r.scan.held.isSome
  | n => historyItem r.scan.history (n - 11)

def BufferRecord.field (r : BufferRecord) (f : Fin 7) : Half :=
  match f.val with
  | 0 => r.state.code
  | 1 => optNatItem (r.slot.map Fin.val)
  | 2 => natItem r.refused
  | 3 => optItem (r.lastRefusal.map RefusalCause.code)
  | 4 => optItem r.lastCrc
  | 5 => boolItem r.lastCrc.isSome
  | _ => natItem (r.progress / 16)

def TestRecord.field (t : TestRecord) (i : Fin 12) : Half :=
  match i.val with
  | 0 => optNatItem (t.tile.map Fin.val)
  | 1 => optNatItem t.requested
  | 2 => natItem t.used
  | 3 => t.phase.code
  | 4 => optItem (t.sequence.map fun q => q.setWidth 16)
  | 5 => optNatItem t.level
  | 6 => natItem t.wait
  | 7 => natItem t.named.length
  | 8 => optItem (t.lastResult.map AttemptResult.code)
  | 9 => optItem (t.lastMatched.map boolItem)
  | 10 => optItem (t.lastDark.map fun d => d.setWidth 16)
  | _ => t.outcome.code

/-! ## The value of an item -/

def Params.item (p : Params) (i : Fin 3) : Half :=
  match i.val with
  | 0 => p.p1
  | 1 => p.p2
  | _ => p.p3

def State.itemValue (s : State) : Item → Half
  | .status i => s.statusItems.getD i.val 0
  | .layout i => s.settings.layoutItem i
  | .operating i => natItem (s.settings.operating.get i)
  | .curve p f => (s.settings.curve.get p).item f
  | .band b f => (s.settings.bands.get b).item f
  | .trim t => natItem (s.tile t).trim
  | .param i => s.link.params.item i
  | .call => s.link.call.setWidth 16
  | .serviceStatus => s.link.status.item
  | .faultWindow i => s.link.window.items.getD i.val 0
  | .snapshot i => s.link.snapshot.item i
  | .tileSelect => natItem s.link.tileSelect.val
  | .tileField i => (s.tile s.link.tileSelect).field i
  | .bufferField k f => (s.table.records.get k).field f
  | .gateState => s.table.gate.stateItem
  | .gateSeconds => s.table.gate.secondsItem
  | .testField i => s.test.field i
  | .testNamed i => optItem (s.test.named[i.val]?.map fun q => q.setWidth 16)

/-! ## What a write does at its item (R176, R186, R187) -/

def State.storeOperating (s : State) (i : Fin 36) (v : Half) : State :=
  s.onSettings fun g => g.storeOperating i v.toNat

/-- R92: a write that leaves the enable as it was changes nothing. -/
def State.storeEnable (s : State) (ch : Channel) (v : Half) : State :=
  let t := s.storeOperating (channelEnableIndex ch) v
  (t.setChannel ch ((t.channel ch).switch (v != 0))).recomputeLight

/-- R106. -/
def State.storeLightSetting (s : State) (i : Fin 36) (v : Half) : State :=
  (s.storeOperating i v).recomputeLight

/-- R150. -/
def State.storeLimit (s : State) (i : Fin 36) (v : Half) : State := (s.storeOperating i v).evaluateTiles

/-- R122. -/
def State.storeBlankPolicy (s : State) (v : Half) : State := (s.storeOperating 22 v).retargetAll

/-- R153. -/
def State.storeFaceLimit (s : State) (v : Half) : State := (s.storeOperating 23 v).faceLimitCheck

/-- Table 0x02 with the effect its setting has at the write. -/
def State.writeOperating (s : State) (i : Fin 36) (v : Half) : State :=
  match i.val with
  | 2 => s.storeEnable .a v
  | 8 => s.storeEnable .b v
  | 3 | 4 | 5 | 6 | 7 | 9 | 10 | 11 | 12 | 13 => s.storeLightSetting i v
  | 14 | 15 => s.storeLimit i v
  | 22 => s.storeBlankPolicy v
  | 23 => s.storeFaceLimit v
  | 32 | 33 | 34 | 35 => s.storeLightSetting i v
  | _ => s.storeOperating i v

/-- R118: a geometry write recomputes every target. -/
def State.writeLayout (s : State) (i : Fin 15) (v : Half) : State :=
  let t := s.onSettings fun g => g.storeLayout i v
  if i.val < 4 then t.retargetAll else t

/-- R105. -/
def State.writeCurve (s : State) (p : PointNo) (f : CurveField) (v : Half) : State :=
  (s.onSettings fun g => g.storeCurve p f v).recomputeLight

/-- R102. -/
def State.writeBand (s : State) (b : BandNo) (f : BandField) (v : Half) : State :=
  (s.onSettings fun g => g.storeBand b f v).recomputeLight

def Params.store (p : Params) (i : Fin 3) (v : Half) : Params :=
  match i.val with
  | 0 => { p with p1 := v }
  | 1 => { p with p2 := v }
  | _ => { p with p3 := v }

/-- R180: the code is judged and a known one handed over with the parameters as they stand. -/
def LinkState.called (l : LinkState) (v : Half) : LinkState :=
  let code := v.extractLsb' 0 8
  if knownServiceCode code then
    { l with call := code, status := { code := code, state := .requested, error := .none },
             handed := l.params }
  else { l with call := code, status := { code := code, state := .failed, error := .unknownService } }

def State.storeItem (s : State) (v : Half) : Item → State
  | .layout i => s.writeLayout i v
  | .operating i => s.writeOperating i v
  | .curve p f => s.writeCurve p f v
  | .band b f => s.writeBand b f v
  | .trim t => s.setTrim t v.toNat
  | .param i => s.onLink fun l => { l with params := l.params.store i v }
  | .call => s.onLink fun l => l.called v
  | .tileSelect => s.onLink fun l => { l with tileSelect := Fin.ofNat 128 v.toNat }
  | .status _ | .serviceStatus | .faultWindow _ | .snapshot _ | .tileField _ | .bufferField _ _
  | .gateState | .gateSeconds | .testField _ | .testNamed _ => s

/-! ## Responses (R174, R175) -/

/-- The response built at the end of a frame; a set reset mark takes the outcome and is cleared. -/
def State.respond (s : State) (o : LinkOutcome) (item data : Half) : State :=
  let flags := s.summaryFlags
  s.onLink fun l =>
    { l with response := { outcome := if l.resetMark then .reset else o, flags := flags, item := item,
                           data := data },
             resetMark := false }

/-! ## Commands (R176, R177, R184) -/

/-- The first check of a WRITE that fails, for an item that exists. -/
def State.writeRefusal (s : State) (it : Item) (v : Half) : Option LinkOutcome :=
  if itemReadOnly it then some .readOnly
  else if itemIsLayout it && s.running then some .locked
  else if !itemInRange it v.toNat then some .range
  else if it == .call && (s.link.status.state == .requested || s.link.status.state == .inProgress) then
    some .busy
  else none

/-- A WRITE of an item that exists, under the item number it came with. -/
def State.writeItem (s : State) (it : Item) (number v : Half) : State :=
  match s.writeRefusal it v with
  | some o => s.respond o number (s.itemValue it)
  | none => (s.storeItem v it).respond .ok number (s.itemValue it)

def State.frameWrite (s : State) (number v : Half) : State :=
  match itemOf number with
  | some it => s.writeItem it number v
  | none => s.respond .noItem number 0

/-- The reset cause item. -/
def resetCauseItem : Item := .status 3

/-- R184: a READ of the reset cause clears RESET_SEEN. -/
def State.readEffect (s : State) (it : Item) : State :=
  if it == resetCauseItem then s.onLink fun l => { l with resetSeen := false } else s

def State.readItem (s : State) (it : Item) (number : Half) : State :=
  (s.readEffect it).respond .ok number (s.itemValue it)

def State.frameRead (s : State) (number : Half) : State :=
  match itemOf number with
  | some it => s.readItem it number
  | none => s.respond .noItem number 0

def State.frameNop (s : State) (number : Half) : State := s.respond .ok number 0

def State.frameTakeFault (s : State) (number : Half) : State :=
  let taken := s.faults.take
  let t := (s.onFaults fun _ => taken.2).onLink fun l => { l with window := taken.1 }
  t.respond .ok number taken.1.entry

/-- A write row of one item. -/
def State.itemWrite (s : State) (it : Item) (v : Half) : State := s.frameWrite it.number v

/-! ## A frame at its end (R172, R173) -/

def frameCommand (f : BitVec 48) : Byte := f.extractLsb' 40 8
def frameItem (f : BitVec 48) : Half := f.extractLsb' 24 16
def frameData (f : BitVec 48) : Half := f.extractLsb' 8 16
def frameBytes (f : BitVec 48) : BitVec 40 := f.extractLsb' 8 40
def frameCrc (f : BitVec 48) : Byte := f.extractLsb' 0 8

/-- The command of a frame that passes the first two checks. -/
def State.frameAction (s : State) (f : BitVec 48) : State :=
  if frameCommand f = commandNop then s.frameNop (frameItem f)
  else if frameCommand f = commandRead then s.frameRead (frameItem f)
  else if frameCommand f = commandWrite then s.frameWrite (frameItem f) (frameData f)
  else if frameCommand f = commandTakeFault then s.frameTakeFault (frameItem f)
  else s.respond .unknown (frameItem f) 0

/-- The checks of R173 in order. -/
def State.frameEnd (s : State) (bits : Nat) (f : BitVec 48) : State :=
  if bits != 48 then s.respond .framing 0 0
  else if crc8 (frameBytes f) != frameCrc f then s.respond .crc (frameItem f) 0
  else s.frameAction f

/-! ## The wires (R172, R174) -/

/-- The level of SVDO at bit `n` of a response, the most significant of byte 0 first; released after the
48th. -/
def Response.level (r : Response) (n : Nat) : Option Bool :=
  if n < 48 then some (r.frame.getMsbD n) else none

/-- The response bit by bit, as a whole frame shifts it out. -/
def Response.bits (r : Response) : List Bool := (List.range 48).map r.frame.getMsbD

/-- A bit sampled on SVDI: counted, and one of the first 48 enters the request. -/
def LinkFrame.sample (f : LinkFrame) (d : Bool) : LinkFrame :=
  { f with bits := f.bits + 1, request := if f.bits < 48 then f.request.shiftConcat d else f.request }

/-- SVSEL falls: a frame begins. -/
def LinkWires.select (w : LinkWires) (r : Response) : LinkWires :=
  match w.frame with
  | none => { frame := some { bits := 0, request := 0, place := 0 }, svdo := r.level 0, shifted := [] }
  | some _ => w

/-- SVCLK rises: the device samples SVDI and the supervisor SVDO. -/
def LinkWires.sample (w : LinkWires) (d : Bool) : LinkWires :=
  match w.frame with
  | some f => { w with frame := some (f.sample d), shifted := w.shifted ++ w.svdo.toList }
  | none => w

/-- SVCLK falls: the next bit of the response. -/
def LinkWires.advance (w : LinkWires) (r : Response) : LinkWires :=
  match w.frame with
  | some f => { w with frame := some { f with place := f.place + 1 }, svdo := r.level (f.place + 1) }
  | none => w

/-- SVSEL rises: the frame ends and is judged. -/
def State.endFrame (s : State) : State :=
  match s.wires.frame with
  | some f => (s.onWires LinkWires.released).frameEnd f.bits f.request
  | none => s

/-- One edge on the link's input lines. Edges of SVCLK while SVSEL is high are ignored. -/
def State.linkEdge (s : State) (e : LinkEdge) : State :=
  match e with
  | .selectFall => s.onWires fun w => w.select s.link.response
  | .clockRise d => s.onWires fun w => w.sample d
  | .clockFall => s.onWires fun w => w.advance s.link.response
  | .selectRise => s.endFrame

def State.linkEdges (s : State) (es : List LinkEdge) : State := es.foldl State.linkEdge s

/-- The frame of a row that names its command: it was clocked whole, and shifted the held response out
(log 19). -/
def State.clockFrame (s : State) : State :=
  s.onWires fun _ => { frame := none, svdo := none, shifted := s.link.response.bits }

end Sys2Proof.Machine
end

