-- ==== Sys2Proof/Machine/Governor.lean ====
section
/-! DEFINITION. The governor (11): the layout checks, the entry into RUNNING, RESTART and power-on. -/

namespace Sys2Proof.Machine

/-! ## The layout checks (R189) -/

def LayoutWindow.aligned (l : Layout) (w : LayoutWindow) : Bool := w.base l % 1024 == 0

/-- The last byte lies beyond 0xFFFF_FFFF. -/
def LayoutWindow.wraps (l : Layout) (w : LayoutWindow) : Bool := decide (2 ^ 32 < w.base l + w.size l)

def windowsOverlap (l : Layout) (p : LayoutWindow × LayoutWindow) : Bool :=
  decide (p.1.base l < p.2.base l + p.2.size l) && decide (p.2.base l < p.1.base l + p.1.size l)

/-- The pairs in the order of R189. -/
def windowPairs : List (LayoutWindow × LayoutWindow) :=
  [(.face, .buffer), (.face, .cue), (.face, .report), (.buffer, .cue), (.buffer, .report), (.cue, .report)]

/-- The first check that fails, with the windows it names; PASSED where none does. -/
def Layout.check (l : Layout) : LayoutCheck × CheckWindows :=
  if 128 < l.tileCount then (.tileCount, .none)
  else
    match layoutWindows.find? fun w => !w.aligned l with
    | some w => (.alignment, .one w)
    | none =>
      match layoutWindows.find? (LayoutWindow.wraps l) with
      | some w => (.wrap, .one w)
      | none =>
        match windowPairs.find? (windowsOverlap l) with
        | some p => (.overlap, .two p.1 p.2)
        | none => (.passed, .none)

/-! ## CLOSE SETUP (R87, R124, R144, R189, R190) -/

def State.recordCheck (s : State) (r : LayoutCheck × CheckWindows) : State :=
  s.onSettings fun g => { g with check := r.1, checkWindows := r.2 }

def State.enterRunning (s : State) : State :=
  let t := (s.withGovernor .running).onFace fun f => { f with dwell := .met, stallCount := 0, stalled := false }
  t.retargetAll

/-- The take in SETUP. -/
def State.validateLayout (s : State) : State :=
  let r := s.settings.layout.check
  let t := s.recordCheck r
  if r.1 == .passed then t.enterRunning.setService .done .none else t.setService .failed .layoutInvalid

def State.closeSetup (s : State) : State :=
  if s.running then s.setService .done .none else s.event State.validateLayout

/-! ## RESTART (R191): every block by its own rule -/

/-- R32. -/
def BufferTable.restarted : BufferTable := BufferTable.powerOn

/-- R67: the shadow is kept. A word already noted makes no commit and drops with its write's status. -/
def CueUnit.restarted (c : CueUnit) : CueUnit :=
  { c with slots := Table.fill 32 SlotRecord.powerOn, queue := [], writeBack := [] }

/-- R125, R143, R160: the trims, bounds and the held pair are kept. -/
def TileTable.restarted (t : TileTable) : TileTable := { t with records := t.records.map TileRecord.restarted }

/-- R143. -/
def ScanUnit.restarted (c : ScanUnit) : ScanUnit := { c with openRefresh := none }

/-- R160: the queue and the overflow count are kept. -/
def FaultUnit.restarted (f : FaultUnit) : FaultUnit :=
  { f with faultedCount := 0, reasons := { supervisor := false, faultLimit := false } }

/-- R181, R184, R185. -/
def LinkState.restarted (l : LinkState) : LinkState :=
  { l with resetMark := true, resetSeen := true, resetCause := .restart,
           status := { code := Service.restart.code, state := .done, error := .none } }

def State.restart (s : State) : State :=
  let path := (s.withGovernor .setup).onBus BusState.restarted
  let cleared := (path.onTable fun _ => BufferTable.restarted).onCues CueUnit.restarted
  let dark := (cleared.onFace fun _ => ShowUnit.powerOn).onTiles TileTable.restarted
  let told := (dark.onScan ScanUnit.restarted).onFaults FaultUnit.restarted
  (told.onLink LinkState.restarted).arbitrate

/-! ## Power-on (R23, R159, R192) -/

/-- R23: nothing is in progress on either port, and no request pends. A transaction presented and not yet
taken is in progress on no port and stays held (R18, log 18). -/
def BusState.idle (b : BusState) : BusState :=
  { b with upstream := none, port := none, writeBackReq := none, wipeReq := none,
           verifyReq := none, waited := 0, errorMark := false }

/-- RSTN asserted: the ports fall idle, a frame in progress on the link is discarded (R172), and ATTN is
released with the fault queue emptied. Until the release SWAPRDY keeps its level, which no rule gives
(DESIGN CHOICE, log 37). -/
def State.powerDown (s : State) : State :=
  let low := ((s.onLines fun l => { l with rstn := true }).onBus BusState.idle).onDue fun _ => []
  let lost := ((low.dropNotedCues).dropNotedReports).onWires LinkWires.released
  lost.onFaults fun f => { f with queue := [], overflow := 0 }

/-- RSTN released: every block at its power-on values, under the levels the other lines hold. A
transaction held at the port is still presented (log 18). -/
def State.powerUp (s : State) (strap : Strap) : State :=
  let fresh := (State.powerOn strap).withPending s.pending
  let lined := fresh.onLines fun _ => { s.lines with rstn := false }
  (lined.onBus fun b => { b with presented := s.bus.presented }).arbitrate

end Sys2Proof.Machine
end

