-- ==== Sys2Proof/WellFormed.lean ====
section
/-! DEFINITION. Which command terms stand for something a counterpart can send. -/

namespace Sys2Proof

/-- R2: a burst of 1 to 32 words at a word-aligned byte address. -/
def Presented.wellFormed (p : Presented) : Bool :=
  decide (1 ≤ p.length) && decide (p.length ≤ 32) && decide (p.address.extractLsb' 0 2 = 0#2)

/-- R2 for a transaction presented; R42 for the words of a verify burst that ends OK (sixteen).
Every other command is well formed at every operand. -/
def Instr.wellFormed : Instr → Bool
  | .transactionTake (some p) => p.wellFormed
  | .verifyBurstEnd .ok ws => decide (ws.length = 16)
  | _ => true

end Sys2Proof
end

