-- ==== Sys2Proof/Machine/PathCommands.lean ====
section
/-! DEFINITION. The commands of the frame bus path, its reset line and the device's own bursts: one meaning
for each row, over the operations of the block that owns the rule. -/

namespace Sys2Proof.Machine

/-- What a command answers. -/
abbrev Answer := Host.Outcome State Fault Refusal

/-! ## The upstream port -/

/-- R18, R23: while RSTN is asserted a transaction is held at the port. -/
def State.hold (s : State) (p : Presented) : State :=
  if s.bus.presented.isSome then s else s.onBus fun b => { b with presented := some p }

/-- TRANSACTION_TAKE (R2, R5 to R9, R12, R16 to R18): a transaction newly presented, taken or held; or the
take of the one held (log 5). -/
def execTransactionTake (p : Option Presented) (s : State) : Answer :=
  match p with
  | some q =>
    if q.wellFormed then .next (if s.lines.rstn then s.hold q else s.settle.present q)
    else .refused (.illFormed "TRANSACTION_TAKE")
  | none => .next (s.takeIfDue .takePresented)

/-- WRITE_DATA_WORD (R2, R9 to R11, R48, R131). -/
def execWriteDataWord (w : Word) (en : ByteEnables) (s : State) : Answer :=
  .next (s.act fun t => t.writeWord { word := w, enables := en })

/-- READ_WORD_DELIVERY (R6, R12 to R14, R22, R109 to R111, R128). -/
def execReadWordDelivery (w : Word) (s : State) : Answer := .next (s.act fun t => t.readWord w)

/-- INITIATOR_SHORT_END (R11, R19). -/
def execInitiatorShortEnd (s : State) : Answer := .next (s.act State.shortEnd)

/-! ## The memory port -/

/-- FORWARDED_BURST_END on a settled state: R20, with what the status brings about (R50, R132). -/
def State.endForwardedBurst (s : State) (st : MemStatus) : Answer :=
  match s.forwardedBurst, s.bus.upstream with
  | some p, some t =>
    if p.discarded then .next (s.event State.freePort)
    else if t.endsEarly st then .fault .memoryEndsEarly
    else .next (s.endForwarded t st)
  | some _, none => .next (s.event State.freePort)
  | none, _ => .next s

/-- FORWARDED_BURST_END (R3, R9, R10, R19 to R22). -/
def execForwardedBurstEnd (st : MemStatus) (s : State) : Answer :=
  if s.lines.rstn then .next s else s.settle.endForwardedBurst st

/-- STARVATION_GUARD_CLAIM (R16, R17). -/
def execStarvationGuardClaim (s : State) : Answer := .next (s.takeIfDue .guardClaim)

/-- WRITE_BACK_BURST_END (R30, R65). -/
def execWriteBackBurstEnd (st : MemStatus) (s : State) : Answer :=
  .next (s.act fun t => t.ownBurstEnd .writeBack fun u p => u.endWriteBack p st)

/-- WIPE_BURST_END (R36 to R38). -/
def execWipeBurstEnd (st : MemStatus) (s : State) : Answer :=
  .next (s.act fun t => t.ownBurstEnd .wipe fun u _ => u.endWipe st)

/-- VERIFY_BURST_END (R41 to R44, R60): an OK end brings the sixteen words of the burst. -/
def execVerifyBurstEnd (st : MemStatus) (ws : List Word) (s : State) : Answer :=
  if Instr.wellFormed (.verifyBurstEnd st ws) then
    .next (s.act fun t => t.ownBurstEnd .verify fun u _ => u.endVerify st ws)
  else .refused (.illFormed "VERIFY_BURST_END")

/-! ## The reset lines -/

/-- UPSTREAM_RESET (R21, R31, R66, R88, R126, R142, R160, R170): the assertion of FBRST. While RSTN is
asserted it drops a transaction presented and not taken, and nothing else is left to reset (log 18). -/
def execUpstreamReset (s : State) : Answer :=
  .next (if s.lines.rstn then (if s.lines.fbrst then s else s.abandonUpstream)
    else if s.lines.fbrst then s.settle
    else s.settle.upstreamReset)

/-- UPSTREAM_RESET_RELEASE (R18, R21). -/
def execUpstreamResetRelease (s : State) : Answer :=
  .next (if s.lines.rstn then s.onLines fun l => { l with fbrst := false }
    else if s.lines.fbrst then s.settle.upstreamRelease
    else s.settle)

/-- POWER_ON_RESET (R23, R159, R172, R192): the assertion of RSTN. -/
def execPowerOnReset (s : State) : Answer := .next (s.act State.powerDown)

/-- POWER_ON_RELEASE (R23, R187, R192 and each block's values after power-on): the release of RSTN. -/
def execPowerOnRelease (strap : Strap) (s : State) : Answer :=
  .next (if s.lines.rstn then s.powerUp strap else s)

end Sys2Proof.Machine
end

