-- ==== Sys2Proof/Machine/LinkCommands.lean ====
section
/-! DEFINITION. The commands of the service link: one meaning for each row that ends a frame. The rows that
name their command stand for a whole frame of 48 bits (log 19); those that name the item they write carry its
value alone (log 20). -/

namespace Sys2Proof.Machine

/-- NOP (R177). -/
def execNop (item _data : Half) (s : State) : Answer := .next (s.act fun t => t.clockFrame.frameNop item)

/-- READ (R176). -/
def execRead (item _data : Half) (s : State) : Answer := .next (s.act fun t => t.clockFrame.frameRead item)

/-- RESET_CAUSE_READ (R176, R184). -/
def execResetCauseRead (_data : Half) (s : State) : Answer :=
  .next (s.act fun t => t.clockFrame.frameRead resetCauseItem.number)

/-- WRITE (R176, R180, R186, R187). -/
def execWrite (item data : Half) (s : State) : Answer := .next (s.act fun t => t.clockFrame.frameWrite item data)

/-- CHANNEL_ENABLE_WRITE (R92, R98, R106). -/
def execChannelEnableWrite (ch : Channel) (data : Half) (s : State) : Answer :=
  .next (s.act fun t => t.clockFrame.itemWrite (.operating (channelEnableIndex ch)) data)

/-- CHANNEL_SETTING_WRITE (R91, R94 to R96, R106). -/
def execChannelSettingWrite (ch : Channel) (setting : ChannelSetting) (data : Half) (s : State) : Answer :=
  .next (s.act fun t => t.clockFrame.itemWrite (.operating (channelSettingIndex ch setting)) data)

/-- LIMIT_WRITE (R148, R150). -/
def execLimitWrite (limit : Limit) (data : Half) (s : State) : Answer :=
  .next (s.act fun t => t.clockFrame.itemWrite (.operating (limitIndex limit)) data)

/-- FACE_FAULT_LIMIT_WRITE (R153, R155). -/
def execFaceFaultLimitWrite (data : Half) (s : State) : Answer :=
  .next (s.act fun t => t.clockFrame.itemWrite (.operating 23) data)

/-- TILE_BLANK_POLICY_WRITE (R118, R122). -/
def execTileBlankPolicyWrite (data : Half) (s : State) : Answer :=
  .next (s.act fun t => t.clockFrame.itemWrite (.operating 22) data)

/-- TRIM_WRITE (R114, R118, R119). -/
def execTrimWrite (tile : TileNo) (data : Half) (s : State) : Answer :=
  .next (s.act fun t => t.clockFrame.itemWrite (.trim tile) data)

/-- BAND_FIELD_WRITE (R102, R103, R106). -/
def execBandFieldWrite (band : BandNo) (field : BandField) (data : Half) (s : State) : Answer :=
  .next (s.act fun t => t.clockFrame.itemWrite (.band band field) data)

/-- DEFAULT_BAND_WRITE (R102, R106). -/
def execDefaultBandWrite (field : DefaultBandField) (data : Half) (s : State) : Answer :=
  .next (s.act fun t => t.clockFrame.itemWrite (.operating (defaultBandIndex field)) data)

/-- UNSET_CEILING_WRITE (R104, R106). -/
def execUnsetCeilingWrite (data : Half) (s : State) : Answer :=
  .next (s.act fun t => t.clockFrame.itemWrite (.operating 32) data)

/-- CURVE_POINT_WRITE (R105, R106). -/
def execCurvePointWrite (point : PointNo) (field : CurveField) (data : Half) (s : State) : Answer :=
  .next (s.act fun t => t.clockFrame.itemWrite (.curve point field) data)

/-- LAYOUT_WRITE (R108, R118, R187). -/
def execLayoutWrite (index : Fin 15) (data : Half) (s : State) : Answer :=
  .next (s.act fun t => t.clockFrame.itemWrite (.layout index) data)

/-- TAKE_FAULT (R158, R159, R177, R182). -/
def execTakeFault (item _data : Half) (s : State) : Answer := .next (s.act fun t => t.clockFrame.frameTakeFault item)

/-- FRAME_CHECK_FAILURE (R172 to R174): what the supervisor does on the link's lines, edge by edge to the
last. A frame that ends is judged; one that passes every check is carried out (log 19). -/
def execFrameCheckFailure (edges : List LinkEdge) (last : LinkEdge) (s : State) : Answer :=
  .next (s.act fun t => (t.linkEdges edges).linkEdge last)

end Sys2Proof.Machine
end

