-- ==== Sys2Proof/Machine/Services.lean ====
section
/-! DEFINITION. The eleven services as their owners take them (10 R181): each acts on the request handed
over, with the parameters that went with it. -/

namespace Sys2Proof.Machine

/-- The service stands REQUESTED. -/
def State.requested (s : State) (v : Service) : Bool :=
  s.link.status.code == v.code && s.link.status.state == .requested

/-- The take of a service that has been handed over; without a request nothing comes about (log 27). -/
def State.takeService (s : State) (v : Service) (f : State → State) : State :=
  if s.requested v then f s else s

/-- A check fails. -/
def State.failService (s : State) (e : ServiceError) : State := s.setService .failed e

def State.endService (s : State) : State := s.setService .done .none

/-- The checks in their order: the first error fails the service, else it acts. -/
def State.checked (s : State) (checks : List (Bool × ServiceError)) (f : State → State) : State :=
  match checks.find? (fun c => c.1) with
  | some c => s.failService c.2
  | none => f s

def State.p1 (s : State) : Nat := s.link.handed.p1.toNat
def State.p2 (s : State) : Nat := s.link.handed.p2.toNat
def State.p3 (s : State) : Nat := s.link.handed.p3.toNat

/-- R101. -/
def State.serveSetClock (s : State) : State :=
  s.checked [(decide (1439 < s.p1) || decide (59 < s.p2) || decide (6 < s.p3), .badParameter)] fun t =>
    (t.setClock s.p1 s.p2 s.p3).endService

/-- R33. -/
def State.serveOpenGate (s : State) : State :=
  s.checked [(!s.running, .notRunning), (s.p1 == 0 || decide (3600 < s.p1), .badParameter)] fun t =>
    (t.setGate (.opened s.p1)).endService

/-- R34. -/
def State.serveCloseGate (s : State) : State := s.event fun t => t.closeGate.endService

/-- R39: the state check of the buffer named. -/
def State.wipeRefused (s : State) (k : BufferNo) : Bool :=
  s.bufferState k != .free && s.bufferState k != .filling && s.bufferState k != .outOfUse

def State.serveWipe (s : State) : State :=
  let k : BufferNo := Fin.ofNat 8 s.p1
  s.checked [(!s.running, .notRunning), (decide (7 < s.p1), .badParameter),
      (s.wipeRefused k, .bufferState)] fun t =>
    t.event fun u => (u.onBuffer k BufferRecord.toWiping).setService .inProgress .none

/-- R163. -/
def State.serveTest (s : State) : State :=
  s.checked [(!s.running, .notRunning), (decide (s.tileCount ≤ s.p1), .badParameter),
      (s.p2 == 0 || decide (15 < s.p2), .badParameter)] fun t =>
    (t.onTest fun _ => TestRecord.called (Fin.ofNat 128 s.p1) s.p2).setService .inProgress .none

/-- R151. -/
def State.serveClearTile (s : State) : State :=
  s.checked [(!s.running, .notRunning), (decide (s.tileCount ≤ s.p1), .badParameter)] fun t =>
    (t.clearTile (Fin.ofNat 128 s.p1)).endService

/-- R154. -/
def State.serveBlank (s : State) : State :=
  s.checked [(!s.running, .notRunning)] fun t => (t.addReason .supervisor).endService

def State.serveUnblank (s : State) : State :=
  s.checked [(!s.running, .notRunning)] fun t => (t.removeReason .supervisor).endService

/-- R183. -/
def State.serveSnapshot (s : State) : State :=
  (s.onLink fun l => { l with snapshot := s.captured }).endService

end Sys2Proof.Machine
end

