-- ==== Sys2Proof/Machine/ServiceCommands.lean ====
section
/-! DEFINITION. The commands of the services: one meaning for each of the eleven, the take by its owner of
the request that stands in STATUS (R181, log 27). -/

namespace Sys2Proof.Machine

/-- CLOSE_SETUP (R87, R124, R144, R189, R190). -/
def execCloseSetup (s : State) : Answer := .next (s.act fun t => t.takeService .closeSetup State.closeSetup)

/-- RESTART (R22, R32, R67, R89, R125, R143, R160, R185, R191). -/
def execRestart (s : State) : Answer := .next (s.act fun t => t.takeService .restart State.restart)

/-- SET_CLOCK (R101, R102, R106). -/
def execSetClock (s : State) : Answer := .next (s.act fun t => t.takeService .setClock State.serveSetClock)

/-- OPEN_NOTICE_GATE (R33). -/
def execOpenNoticeGate (s : State) : Answer :=
  .next (s.act fun t => t.takeService .openNoticeGate State.serveOpenGate)

/-- CLOSE_NOTICE_GATE (R34). -/
def execCloseNoticeGate (s : State) : Answer :=
  .next (s.act fun t => t.takeService .closeNoticeGate State.serveCloseGate)

/-- WIPE_BUFFER (R36, R39). -/
def execWipeBuffer (s : State) : Answer := .next (s.act fun t => t.takeService .wipeBuffer State.serveWipe)

/-- TILE_TEST (R163). -/
def execTileTest (s : State) : Answer := .next (s.act fun t => t.takeService .tileTest State.serveTest)

/-- CLEAR_TILE (R151). -/
def execClearTile (s : State) : Answer := .next (s.act fun t => t.takeService .clearTile State.serveClearTile)

/-- BLANK_FACE (R154, R155). -/
def execBlankFace (s : State) : Answer := .next (s.act fun t => t.takeService .blankFace State.serveBlank)

/-- UNBLANK_FACE (R154, R155). -/
def execUnblankFace (s : State) : Answer :=
  .next (s.act fun t => t.takeService .unblankFace State.serveUnblank)

/-- CAPTURE_SNAPSHOT (R183). -/
def execCaptureSnapshot (s : State) : Answer :=
  .next (s.act fun t => t.takeService .captureSnapshot State.serveSnapshot)

end Sys2Proof.Machine
end

