-- ==== Sys2Proof/Machine/TimeCommands.lean ====
section
/-! DEFINITION. The commands of the time base, of the counts that end, of the sensors and of the partner
line: one meaning for each row. -/

namespace Sys2Proof.Machine

/-- DECISECOND_STEP (R57 to R59, R61, R72, R82, R85, R91, R99). -/
def execDecisecondStep (s : State) : Answer := .next (s.act State.decisecond)

/-- SECOND_STEP (R35, R100, R102, R106). -/
def execSecondStep (s : State) : Answer := .next (s.takeIfDue .secondStep)

/-- HOLD_OFF_END (R56, R57, R80). -/
def execHoldOffEnd (slot : SlotNo) (s : State) : Answer := .next (s.takeIfDue (.holdOffEnd slot))

/-- CUE_EXPIRY (R29, R45, R58). -/
def execCueExpiry (slot : SlotNo) (s : State) : Answer := .next (s.takeIfDue (.cueExpiry slot))

/-- NOTICE_TIME_END (R59, R78). -/
def execNoticeTimeEnd (slot : SlotNo) (s : State) : Answer := .next (s.takeIfDue (.noticeTimeEnd slot))

/-- DWELL_MET (R72, R80). -/
def execDwellMet (s : State) : Answer := .next (s.takeIfDue .dwellMet)

/-- PAIR_WAIT_EXPIRY (R82). -/
def execPairWaitExpiry (s : State) : Answer := .next (s.takeIfDue .pairWaitExpiry)

/-- SCAN_STALL (R85, R169). -/
def execScanStall (s : State) : Answer := .next (s.takeIfDue .scanStall)

/-- SILENT (R140, R146). -/
def execSilent (tile : TileNo) (s : State) : Answer := .next (s.takeIfDue (.silent tile))

/-- TEST_WAIT_EXPIRY (R164, R167, R168). -/
def execTestWaitExpiry (s : State) : Answer := .next (s.takeIfDue .testWaitExpiry)

/-- NOTICE_GATE_TIMEOUT (R34, R35). -/
def execNoticeGateTimeout (s : State) : Answer := .next (s.takeIfDue .noticeGateTimeout)

/-- R81: PARTNER seen high while SWAPRDY is high, the latch clear and the timer COUNTING. -/
def State.partnerHigh (s : State) : State :=
  match s.face.swapReady, s.face.latch, s.face.pairWait with
  | true, false, .counting _ => s.onFace fun f => { f with latch := true, pairWait := .idle }
  | _, _, _ => s

/-- PARTNER_RISE (R81): the level now seen on the line (log 8). -/
def execPartnerRise (level : Bool) (s : State) : Answer :=
  .next (if s.lines.rstn then s.onLines fun l => { l with partner := level }
    else
      let seen := s.settle.onLines fun l => { l with partner := level }
      if level then seen.partnerHigh else seen)

/-- LUX_PULSE (R91, R92). -/
def execLuxPulse (ch : Channel) (s : State) : Answer :=
  .next (s.act fun t => t.setChannel ch (t.channel ch).pulse)

/-- GATE_WINDOW_END (R91 to R98, R106). -/
def execGateWindowEnd (ch : Channel) (s : State) : Answer := .next (s.takeIfDue (.gateWindowEnd ch))

/-- JUMP (R95): the window end that sets F to raw (log 12). -/
def execJump (ch : Channel) (s : State) : Answer :=
  .next (if s.windowJumps ch then s.takeIfDue (.gateWindowEnd ch) else s)

/-- SENSOR_DEAD (R96): the window end that takes the channel to DEAD (log 12). -/
def execSensorDead (ch : Channel) (s : State) : Answer :=
  .next (if (s.windowResult ch).2 == some .sensorDead then s.takeIfDue (.gateWindowEnd ch) else s)

/-- SENSOR_SATURATED (R96): the window end that takes the channel to SATURATED (log 12). -/
def execSensorSaturated (ch : Channel) (s : State) : Answer :=
  .next (if (s.windowResult ch).2 == some .sensorSaturated then s.takeIfDue (.gateWindowEnd ch) else s)

end Sys2Proof.Machine
end

