-- ==== Sys2Proof/Machine/Dispatch.lean ====
section
/-! DEFINITION. One arm for each command of spec/opcode_table.json, in the table's order. -/

namespace Sys2Proof.Machine

def exec (i : Instr) (s : State) : Host.Outcome State Fault Refusal :=
  match i with
  | .transactionTake p => Sys2Proof.Machine.execTransactionTake p s
  | .writeDataWord w en => Sys2Proof.Machine.execWriteDataWord w en s
  | .readWordDelivery w => Sys2Proof.Machine.execReadWordDelivery w s
  | .initiatorShortEnd => Sys2Proof.Machine.execInitiatorShortEnd s
  | .forwardedBurstEnd st => Sys2Proof.Machine.execForwardedBurstEnd st s
  | .starvationGuardClaim => Sys2Proof.Machine.execStarvationGuardClaim s
  | .writeBackBurstEnd st => Sys2Proof.Machine.execWriteBackBurstEnd st s
  | .wipeBurstEnd st => Sys2Proof.Machine.execWipeBurstEnd st s
  | .verifyBurstEnd st ws => Sys2Proof.Machine.execVerifyBurstEnd st ws s
  | .silent tile => Sys2Proof.Machine.execSilent tile s
  | .testWaitExpiry => Sys2Proof.Machine.execTestWaitExpiry s
  | .decisecondStep => Sys2Proof.Machine.execDecisecondStep s
  | .holdOffEnd slot => Sys2Proof.Machine.execHoldOffEnd slot s
  | .cueExpiry slot => Sys2Proof.Machine.execCueExpiry slot s
  | .noticeTimeEnd slot => Sys2Proof.Machine.execNoticeTimeEnd slot s
  | .dwellMet => Sys2Proof.Machine.execDwellMet s
  | .pairWaitExpiry => Sys2Proof.Machine.execPairWaitExpiry s
  | .partnerRise level => Sys2Proof.Machine.execPartnerRise level s
  | .scanStall => Sys2Proof.Machine.execScanStall s
  | .luxPulse ch => Sys2Proof.Machine.execLuxPulse ch s
  | .gateWindowEnd ch => Sys2Proof.Machine.execGateWindowEnd ch s
  | .jump ch => Sys2Proof.Machine.execJump ch s
  | .sensorDead ch => Sys2Proof.Machine.execSensorDead ch s
  | .sensorSaturated ch => Sys2Proof.Machine.execSensorSaturated ch s
  | .secondStep => Sys2Proof.Machine.execSecondStep s
  | .noticeGateTimeout => Sys2Proof.Machine.execNoticeGateTimeout s
  | .upstreamReset => Sys2Proof.Machine.execUpstreamReset s
  | .upstreamResetRelease => Sys2Proof.Machine.execUpstreamResetRelease s
  | .powerOnReset => Sys2Proof.Machine.execPowerOnReset s
  | .powerOnRelease strap => Sys2Proof.Machine.execPowerOnRelease strap s
  | .nop item data => Sys2Proof.Machine.execNop item data s
  | .read item data => Sys2Proof.Machine.execRead item data s
  | .resetCauseRead data => Sys2Proof.Machine.execResetCauseRead data s
  | .write item data => Sys2Proof.Machine.execWrite item data s
  | .channelEnableWrite ch data => Sys2Proof.Machine.execChannelEnableWrite ch data s
  | .channelSettingWrite ch setting data => Sys2Proof.Machine.execChannelSettingWrite ch setting data s
  | .limitWrite limit data => Sys2Proof.Machine.execLimitWrite limit data s
  | .faceFaultLimitWrite data => Sys2Proof.Machine.execFaceFaultLimitWrite data s
  | .tileBlankPolicyWrite data => Sys2Proof.Machine.execTileBlankPolicyWrite data s
  | .trimWrite tile data => Sys2Proof.Machine.execTrimWrite tile data s
  | .bandFieldWrite band field data => Sys2Proof.Machine.execBandFieldWrite band field data s
  | .defaultBandWrite field data => Sys2Proof.Machine.execDefaultBandWrite field data s
  | .unsetCeilingWrite data => Sys2Proof.Machine.execUnsetCeilingWrite data s
  | .curvePointWrite point field data => Sys2Proof.Machine.execCurvePointWrite point field data s
  | .layoutWrite index data => Sys2Proof.Machine.execLayoutWrite index data s
  | .takeFault item data => Sys2Proof.Machine.execTakeFault item data s
  | .closeSetup => Sys2Proof.Machine.execCloseSetup s
  | .restart => Sys2Proof.Machine.execRestart s
  | .setClock => Sys2Proof.Machine.execSetClock s
  | .openNoticeGate => Sys2Proof.Machine.execOpenNoticeGate s
  | .closeNoticeGate => Sys2Proof.Machine.execCloseNoticeGate s
  | .wipeBuffer => Sys2Proof.Machine.execWipeBuffer s
  | .tileTest => Sys2Proof.Machine.execTileTest s
  | .clearTile => Sys2Proof.Machine.execClearTile s
  | .blankFace => Sys2Proof.Machine.execBlankFace s
  | .unblankFace => Sys2Proof.Machine.execUnblankFace s
  | .captureSnapshot => Sys2Proof.Machine.execCaptureSnapshot s
  | .frameCheckFailure edges last => Sys2Proof.Machine.execFrameCheckFailure edges last s

end Sys2Proof.Machine
end

