-- ==== Sys2Proof/Machine/Blocks.lean ====
section
/-! DEFINITION. The blocks of the state by name, and what it is for a step to leave all but some of them
as they were: the vocabulary of the frame statements. -/

namespace Sys2Proof.Machine

/-- The blocks of the state. -/
inductive Block where
  | pending | due | lines | bus | table | cues | face | light | tiles | scan | faults | test | wires | link
  | settings | governor
  deriving DecidableEq, Repr

/-- The two states agree on the block. -/
def Block.Agree (s t : State) : Block → Prop
  | .pending => t.pending = s.pending
  | .due => t.due = s.due
  | .lines => t.lines = s.lines
  | .bus => t.bus = s.bus
  | .table => t.table = s.table
  | .cues => t.cues = s.cues
  | .face => t.face = s.face
  | .light => t.light = s.light
  | .tiles => t.tiles = s.tiles
  | .scan => t.scan = s.scan
  | .faults => t.faults = s.faults
  | .test => t.test = s.test
  | .wires => t.wires = s.wires
  | .link => t.link = s.link
  | .settings => t.settings = s.settings
  | .governor => t.governor = s.governor

/-- Every block outside the list stands as it was. -/
structure Unchanged (touched : List Block) (s t : State) : Prop where
  agree : ∀ b, b ∉ touched → b.Agree s t

end Sys2Proof.Machine
end

