-- ==== Sys2Proof/Safety.lean ====
section
/-! DEFINITION. The invariants the spec states of every state the device reaches; each is kept by every
step (Certificates/Slice0/Obligations.lean). -/

namespace Sys2Proof.Safety

open Sys2Proof.Machine

/-- R116, R117, R120: the composition of T and B, A never above B, and A at 0 in the dark cases. -/
abbrev TileComposed (g : GainContext) (i : TileNo) (r : TileRecord) : Prop :=
  r.target = g.target i r ∧ r.bound = g.bound r ∧ r.applied ≤ r.bound ∧
    ((g.targetCase i r.state).isDark = true → r.applied = 0)

/-- Fg never exceeds C, and every tile is composed from the held pair. -/
abbrev GainsComposed (s : State) : Prop :=
  s.tiles.gain ≤ s.tiles.ceiling ∧ ∀ i, TileComposed s.gainContext i (s.tile i)

/-- R157: the fault queue holds at most 32 records and the overflow count saturates at 255. -/
abbrev FaultQueueBounded (s : State) : Prop := s.faults.queue.length ≤ 32 ∧ s.faults.overflow ≤ 255

/-- R17: the waited-grant count is 0 to 8, and 0 while no own request is pending. -/
abbrev GuardBounded (s : State) : Prop :=
  s.bus.waited ≤ 8 ∧ (s.bus.anyRequest = false → s.bus.waited = 0)

/-- R55: at most 8 cues, and a NOTICE stands first or nowhere. -/
abbrev CueQueueOrdered (s : State) : Prop :=
  s.cues.queue.length ≤ 8 ∧ ∀ e ∈ s.cues.queue.tail, e.kind ≠ .notice

/-- R63: no slot stands twice in the write-back list, and listed says which stand there. -/
abbrev WriteBackListed (s : State) : Prop :=
  s.cues.writeBack.Nodup ∧ ∀ n, (s.slot n).listed = true ↔ n ∈ s.cues.writeBack

/-- R80: SWAPRDY is high exactly while the conditions of the handshake hold. -/
abbrev SwapReadyWanted (s : State) : Prop := s.face.swapReady = s.handshakeWanted

/-- R130, R140, R145: at most four history entries, silence count and error counter at most 255. -/
abbrev TileCounts (r : TileRecord) : Prop :=
  r.scan.history.length ≤ 4 ∧ r.scan.silence ≤ 255 ∧ r.counter ≤ 255

abbrev TileCountsBounded (s : State) : Prop := ∀ i, TileCounts (s.tile i)

/-- The entry waits for the verify engine: its content check stands and its buffer is VERIFYING (R41). -/
abbrev WaitsForVerify (s : State) (e : QueueEntry) : Prop :=
  e.expected.isSome = true ∧ ∃ k, e.buffer = some k ∧ s.bufferState k = .verifying

/-- R64: the request for words 4 to 6 of a slot; its data are taken at the grant. -/
def writeBackRequest (l : Layout) (n : SlotNo) : OwnRequest :=
  { engine := .writeBack, direction := .write
    address := BitVec.ofNat 32 (l.cueBase.toNat + 32 * n.val + 16), length := 3, data := [] }

/-- R37: the request for the next sixteen zero words of a sweep that has come so far. -/
def wipeRequest (l : Layout) (k : BufferNo) (progress : Nat) : OwnRequest :=
  { engine := .wipe, direction := .write
    address := BitVec.ofNat 32 (l.bufferBase.toNat + k.val * l.faceSize + 4 * progress), length := 16
    data := List.replicate 16
      { word := 0, enables := { b3 := true, b2 := true, b1 := true, b0 := true } } }

/-- R42: the request for the next sixteen words of a verify. -/
def verifyRequest (l : Layout) (w : VerifyWork) : OwnRequest :=
  { engine := .verify, direction := .read
    address := BitVec.ofNat 32 (l.bufferBase.toNat + w.buffer.val * l.faceSize + 4 * w.wordsRead)
    length := 16, data := [] }

/-- R28, R36, R41, R53, R75, R76: the buffer an engine works on, the one that shows and the one suspended
stand in the states that say so; a BLANK in the queue names no buffer. -/
abbrev BuffersHeld (s : State) : Prop :=
  (∀ k ∈ s.table.sweeping, s.bufferState k = .wiping) ∧
  (∀ w ∈ s.table.verifying, s.bufferState w.buffer = .verifying) ∧
  (∀ k n, s.face.showing = .buffer k n → s.bufferState k = .showing) ∧
  (∀ k n c, s.face.suspended = .buffer k n c → s.bufferState k = .suspended) ∧
  ∀ e ∈ s.cues.queue, e.kind = .blank → e.buffer = none

/-- R15, R37, R42, R64: a pending request is the one of the list's head, the sweep or the verify, and no
engine requests while a burst of its own is in flight. -/
abbrev RequestsStand (s : State) : Prop :=
  let l := s.settings.layout
  (s.bus.writeBackReq = none ∨
    s.bus.writeBackReq = s.cues.writeBack.head?.map (writeBackRequest l)) ∧
  (s.bus.wipeReq = none ∨
    s.bus.wipeReq = s.table.sweeping.map fun k => wipeRequest l k (s.table.records.get k).progress) ∧
  (s.bus.verifyReq = none ∨ s.bus.verifyReq = s.table.verifying.map (verifyRequest l)) ∧
  (s.bus.inFlight .writeBack = true → s.bus.writeBackReq = none) ∧
  (s.bus.inFlight .wipe = true → s.bus.wipeReq = none) ∧
  (s.bus.inFlight .verify = true → s.bus.verifyReq = none)

/-- R15, R36, R41, R64: no engine that has work to choose is idle, and none that has a burst to make stands
without a request or a burst in flight. -/
abbrev EnginesBusy (s : State) : Prop :=
  (s.table.sweeping = none → ∀ k, s.bufferState k ≠ .wiping) ∧
  (s.table.verifying = none → ∀ e ∈ s.cues.queue, ¬ WaitsForVerify s e) ∧
  (s.cues.writeBack ≠ [] → s.bus.writeBackReq.isSome = true ∨ s.bus.inFlight .writeBack = true) ∧
  (s.table.sweeping.isSome = true → s.bus.wipeReq.isSome = true ∨ s.bus.inFlight .wipe = true) ∧
  (s.table.verifying.isSome = true → s.bus.verifyReq.isSome = true ∨ s.bus.inFlight .verify = true)

/-- R24, R32, R55, R63, R67, R188: in SETUP the Buffer Table stands at its power-on values, the Cue Queue and
the write-back list are empty, and so no engine has work. -/
abbrev SetupIdle (s : State) : Prop :=
  s.governor = .setup → s.table = BufferTable.powerOn ∧ s.cues.queue = [] ∧ s.cues.writeBack = []

/-- The engines' part of the state holds together. -/
abbrev EnginesSettled (s : State) : Prop :=
  BuffersHeld s ∧ RequestsStand s ∧ EnginesBusy s ∧ SetupIdle s

/-! ## Vocabulary of the statements -/

/-- RSTN is not asserted and nothing stands due (log 2). -/
abbrev Quiet (s : State) : Prop := s.lines.rstn = false ∧ s.due = []

/-- What may follow an event (`State.after`): the pair lines, the engines' choices and requests, and the
arbiter's grant. Nothing else moves between the event's own effect `s` and the state `t` it leaves. -/
structure Follows (s t : State) : Prop where
  blocks : Unchanged [.due, .bus, .table, .cues, .face] s t
  slots : ∀ n, { t.slot n with listed := (s.slot n).listed } = s.slot n
  ring : t.cues.shadow = s.cues.shadow ∧ t.cues.queue = s.cues.queue ∧ t.cues.noted = s.cues.noted
  buffers : ∀ k, { t.table.records.get k with progress := (s.table.records.get k).progress }
    = s.table.records.get k
  gate : t.table.gate = s.table.gate
  sweep : s.table.sweeping.isSome = true →
    t.table.sweeping = s.table.sweeping ∧ t.table.records = s.table.records
  verify : s.table.verifying.isSome = true → t.table.verifying = s.table.verifying
  face : { t.face with swapReady := s.face.swapReady, latch := s.face.latch, pairWait := s.face.pairWait }
    = s.face
  path : { t.bus with port := s.bus.port, writeBackReq := s.bus.writeBackReq, wipeReq := s.bus.wipeReq,
                      verifyReq := s.bus.verifyReq, waited := s.bus.waited } = s.bus
  held : s.bus.port.isSome = true → t.bus.port = s.bus.port
  own : s.bus.port = none → ∀ b, t.bus.port = some b → b.source ≠ .forwarded

/-- R16, R17: what the arbiter leaves. A free port has no request and no transaction waiting for it, or the
guard's claim or the held take stands due (log 2). A port granted to an engine was granted by rank, with no
transaction it could have taken, and the waited-grant count is back at 0. -/
abbrev PortServed (t : State) : Prop :=
  let waits := t.bus.presented.isSome = true ∧ t.bus.upstream = none ∧ t.lines.fbrst = false
  (t.bus.port = none →
    (t.bus.anyRequest = false ∧ ¬ waits) ∨ (t.bus.guardClaims = true ∧ .guardClaim ∈ t.due) ∨
      (t.bus.guardClaims = false ∧ waits ∧ .takePresented ∈ t.due)) ∧
  ∀ b, t.bus.port = some b → b.source ≠ .forwarded ∧ ¬ waits ∧ t.bus.waited = 0 ∧
    (b.source = .own .wipe → t.bus.writeBackReq = none) ∧
    (b.source = .own .verify → t.bus.writeBackReq = none ∧ t.bus.wipeReq = none)

/-- R15, R17, R41, R45: the bus as the verify engine gives its work up: its request is withdrawn, the last
one pending returning the waited-grant count to 0 (log 36), and a burst of its own in flight is discarded. -/
def verifyGivenUp (b : BusState) : BusState :=
  { b with
    port := b.port.map fun p => if p.source = .own .verify then { p with discarded := true } else p
    verifyReq := none
    waited := if b.verifyReq.isSome = true ∧ b.writeBackReq = none ∧ b.wipeReq = none then 0 else b.waited }

/-- R41, R45: the verify that stood in `s` was given up on the way to `t`. What the engine does in `t` it has
begun afresh, a burst in flight in `s` runs on discarded, and no buffer's last verify CRC has changed. -/
abbrev VerifyGivenUp (s t : State) : Prop :=
  (∀ v, t.table.verifying = some v → v.wordsRead = 0 ∧ v.running = 0xFFFF#16) ∧
  (∀ q, t.bus.verifyReq = some q →
    ∃ v, t.table.verifying = some v ∧ q = verifyRequest s.settings.layout v) ∧
  (∀ b, s.bus.port = some b → b.source = .own .verify → t.bus.port = some { b with discarded := true }) ∧
  ∀ k, (t.table.records.get k).lastCrc = (s.table.records.get k).lastCrc

/-- The verify engine goes on with what it does in `s`: its work, its request unless it has just been granted,
and its burst in flight. -/
abbrev VerifyStands (s t : State) : Prop :=
  (∀ v, s.table.verifying = some v → t.table.verifying = some v) ∧
  (∀ q, s.bus.verifyReq = some q → t.bus.verifyReq = some q ∨ t.bus.port = some q.burst) ∧
  ∀ b, s.bus.port = some b → b.source = .own .verify → t.bus.port = some b

/-- R63, R64: the write-back request granted for the slot at the head of the list. -/
def writeBackGranted (s : State) (r : OwnRequest) (n : SlotNo) (rest : List SlotNo) : State :=
  (s.onBus fun b =>
    { b with
      port := some
        { source := .own r.engine, direction := r.direction, address := r.address, length := r.length
          data := resultWords (s.slot n), discarded := false, serves := some n
          carriesFinal := ((s.slot n).outcome.map CueOutcome.isFinal).getD false }
      writeBackReq := none, waited := 0 }).onCues fun c =>
    { c with slots := c.slots.modify n fun q => { q with listed := false }, writeBack := rest }

/-- R63: the write-back list with these slots, each different, joined to its tail where it is not listed. -/
def listedAfter (s : State) (ns : List SlotNo) : List SlotNo :=
  s.cues.writeBack ++ ns.filter fun n => !(s.slot n).listed

/-- The write-back list is this one, or its head has just been granted (R64). -/
abbrev WriteBackListIs (t : State) (ns : List SlotNo) : Prop :=
  t.cues.writeBack = ns ∨ ∃ p, t.bus.port = some p ∧
    ∃ n, p.serves = some n ∧ ns = n :: t.cues.writeBack

/-- R61: the end stamp of a cue that ends now. -/
def endsNow (s : State) (n : SlotNo) : Option EndStamp :=
  some { clock := s.clockNow, duration := (s.slot n).shownTime }

/-- The command completes: it answers a next state, and that state is so. -/
def Runs (c : Instr) (s : State) (post : State → Prop) : Prop := ∃ t, exec c s = .next t ∧ post t

/-- RSTN is not asserted, and the event stands due. -/
abbrev Due (e : DueEvent) (s : State) : Prop := s.lines.rstn = false ∧ e ∈ s.due

/-- The record R2 opens at the take, with what R5 sets. -/
def openedRecord (s : State) (p : Presented) (v : Verdict) (target : Option BufferNo) (starts : Bool) :
    TxRecord :=
  { initiator := p.initiator, direction := p.direction, address := p.address, length := p.length,
    data := [], window := windowOf s.settings.layout p, verdict := v, target := target,
    refreshStart := starts, wordsDone := 0, status := none, layout := s.settings.layout
    governed := s.running, endedShort := false }

/-- R3: the memory-side burst of a forwarded transaction, at the address it is forwarded to. -/
def forwardBurst (p : Presented) (address : Word) : Burst :=
  { source := .forwarded, direction := p.direction, address := address, length := p.length, data := [],
    discarded := false, serves := none, carriesFinal := false }

/-- The state with the record opened and the memory port so. -/
def takenAs (s : State) (r : TxRecord) (burst : Option Burst) : State :=
  s.onBus fun b => { b with presented := none, upstream := some r, port := burst }

/-- The state with the record closed under its status (R2). -/
def closedAs (s : State) (r : TxRecord) (st : Completion) : State :=
  s.onBus fun b => { b with upstream := none, closed := some { r with status := some st } }

/-- A transaction can be taken: the port shows ready (R18) and nothing is held there. -/
abbrev Takes (p : Presented) (s : State) : Prop :=
  Quiet s ∧ p.wellFormed = true ∧ s.bus.presented = none ∧ s.portReady = true

/-- A word of the transaction in progress is still owed, in this direction. -/
abbrev Owed (r : TxRecord) (d : Direction) (s : State) : Prop :=
  Quiet s ∧ s.bus.upstream = some r ∧ r.direction = d ∧ r.wordOwed = true

/-- The forwarded burst in flight belongs to the transaction in progress, every word it must bring has
come, and its end has this status. -/
def Ending (r : TxRecord) (st : MemStatus) (s : State) : Prop :=
  Quiet s ∧ s.bus.upstream = some r ∧ r.endsEarly st = false ∧
    ∃ p, s.bus.port = some p ∧ p.source = .forwarded ∧ p.discarded = false

/-- The status a transaction completes with, by its burst's status (R3, R20). -/
def completionOf : MemStatus → Completion
  | .ok => .ok
  | .error => .memoryError

/-- An own burst of this engine is in flight and its result counts. -/
abbrev OwnEnding (e : Engine) (p : Burst) (s : State) : Prop :=
  Quiet s ∧ s.bus.port = some p ∧ p.source = .own e ∧ p.discarded = false

/-- A Quiet state with the service handed over (R180). -/
abbrev Called (v : Service) (s : State) : Prop :=
  Quiet s ∧ s.link.status = { code := v.code, state := .requested, error := .none }

/-- The service has ended with this state and error (R181). -/
abbrev Ended (v : Service) (st : ServiceState) (e : ServiceError) (t : State) : Prop :=
  t.link.status = { code := v.code, state := st, error := e }

/-- The response built at a frame's end: a set reset mark takes the outcome, and is cleared (R174, R175). -/
abbrev Responded (s t : State) (o : LinkOutcome) (item data : Half) : Prop :=
  t.link.response = { outcome := if s.link.resetMark then .reset else o, flags := t.summaryFlags,
                      item := item, data := data } ∧
    t.link.resetMark = false

/-- A row that names its command: its whole frame shifted the response held before out and left the lines
idle, and its own response is built (R174, log 19). -/
abbrev Answered (s t : State) (o : LinkOutcome) (item data : Half) : Prop :=
  Responded s t o item data ∧
    t.wires = { frame := none, svdo := none, shifted := (List.range 48).map s.link.response.frame.getMsbD }

/-- The edges of a whole frame: SVSEL falls, each bit is clocked, SVSEL rises (R172). -/
def frameEdges (f : BitVec 48) : List LinkEdge :=
  .selectFall :: (List.range 48).flatMap fun i => [.clockRise (f.getMsbD i), .clockFall]

/-- A tile's state and error counter with the records that weighing has raised on the way, each with its
detail value. -/
structure Weighing where
  state : TileState
  counter : Nat
  records : List (FaultKind × Nat)

/-- R148: the state by the two limits, with TILE_SUSPECT at the entry from LIT and TILE_FAULTED at the
entry into FAULTED. -/
def Weighing.judge (g : Settings) (w : Weighing) (n : Nat) : Weighing :=
  if g.faultLimit ≤ n then { state := .faulted, counter := n, records := w.records ++ [(.tileFaulted, n)] }
  else if g.suspectLimit ≤ n then
    { state := .suspect, counter := n
      records := if w.state = .lit then w.records ++ [(.tileSuspect, n)] else w.records }
  else { state := .lit, counter := n, records := w.records }

/-- R146, R149: an event weighed; a FAULTED tile counts nothing. -/
def Weighing.event (g : Settings) (w : Weighing) (e : TileEvent) : Weighing :=
  if w.state = .faulted then w else w.judge g (min 255 (w.counter + g.weight e))

/-- R147: a good report. -/
def Weighing.good (g : Settings) (w : Weighing) : Weighing :=
  if w.state = .faulted then w else w.judge g (w.counter - 1)

/-- The tile before anything is weighed. -/
def weighingOf (r : TileRecord) : Weighing := { state := r.state, counter := r.counter, records := [] }

/-- R136: the events of a report in their order. -/
def eventsOf (p : Report) (c : Comparison) (darkLimit : Nat) : List TileEvent :=
  (if c = Comparison.mismatch then [.echoMismatch] else if c = Comparison.stale then [.staleReport] else [])
    ++ (if darkLimit < p.dark.toNat then [.darkPixels] else [])
    ++ (if p.supplyLow then [.supplyLow] else []) ++ (if p.linkLost then [.linkLost] else [])

/-- R135: a report against a history. -/
def comparisonOf (h : List HistoryEntry) (p : Report) : Comparison :=
  match h.find? (fun e : HistoryEntry => e.sequence == p.sequence) with
  | none => .stale
  | some e => if e.complete = false then .notCompared else if e.crc = p.crc then .matched else .mismatch

/-- R136, R146 to R148: what an ordinary report makes of its tile's state and counter. -/
def weighedReport (g : Settings) (r : TileRecord) (p : Report) (c : Comparison) : Weighing :=
  let es := eventsOf p c g.darkLimit
  if c = .matched ∧ es = [] then (weighingOf r).good g else es.foldl (Weighing.event g) (weighingOf r)

/-- R129, R130: a tile's history with the refresh that closes, where the tile is in use. -/
def closedHistory (s : State) (i : TileNo) : List HistoryEntry :=
  match s.scan.openRefresh with
  | some q =>
    if i.val < s.tileCount then
      appendHistory (s.tile i).scan.history
        { sequence := q, crc := (s.tile i).scan.running
          complete := decide ((s.tile i).scan.delivered = s.settings.layout.wordsPerTile) &&
            !(s.tile i).scan.broken }
    else (s.tile i).scan.history
  | none => (s.tile i).scan.history

/-- R138: the last report kept of a report. -/
def lastOf (p : Report) (c : Comparison) : LastReport :=
  { sequence := p.sequence, result := c, dark := p.dark, temperature := p.temperature
    overtemp := p.overtemp, supplyLow := p.supplyLow, linkLost := p.linkLost }

/-- The records of a weighing, completed for their tile. -/
def weighedRecords (s : State) (i : TileNo) (w : Weighing) : List FaultRecord :=
  w.records.map fun q => s.faultRecord q.1 (some i) (natItem q.2)

/-- The last fault record offered, or the overflow count that took its place (R157). -/
abbrev Offered (s t : State) (k : FaultKind) (tile : Option TileNo) (detail : Half) : Prop :=
  t.faults = s.faults.join
    { kind := k, tile := tile, detail := detail, sequence := s.face.sequence, clock := s.clockReading }

/-! ## The values of the read-only items -/

/-- R194: an optional field reads 0xFFFF while it is absent. -/
def absentOr : Option Nat → Half
  | some n => BitVec.ofNat 16 n
  | none => 0xFFFF#16

/-- R194: yes and set read 1, no and clear 0. -/
def yesNo : Bool → Half
  | true => 1
  | false => 0

/-- R178: minute, second, day and state of the clock of day. -/
def clockValues (c : Clock) : List Half :=
  [BitVec.ofNat 16 (c.seconds / 60), BitVec.ofNat 16 (c.seconds % 60), BitVec.ofNat 16 c.day, yesNo c.isSet]

/-- R196: the band in force. -/
def bandValue : BandInForce → Half
  | .band b => BitVec.ofNat 16 b.val
  | .default => 8
  | .unset => 9

/-- R194: the blank reason set, with a count in bits 15:8. -/
def blankValue (r : BlankReasons) (count : Nat) : Half :=
  BitVec.ofNat 8 count ++ (if r.faultLimit then (if r.supervisor then 3#8 else 2#8)
    else if r.supervisor then 1#8 else 0#8)

/-- R178: table 0x00 behind its first two items, which no rule gives (log 10). -/
def statusValues (s : State) : List Half :=
  let channel := fun r : ChannelRecord => [r.state.code, absentOr r.raw, absentOr r.level]
  [s.governor.code, s.link.resetCause.code, s.settings.pairsel.code] ++
  channel s.light.channelA ++ channel s.light.channelB ++
  [absentOr s.combinedLevel, BitVec.ofNat 16 s.light.ceiling, BitVec.ofNat 16 s.light.gain,
    bandValue s.bandInForce] ++
  clockValues s.light.clock ++
  [BitVec.ofNat 16 s.face.sequence.toNat, BitVec.ofNat 16 s.cues.queue.length,
    BitVec.ofNat 16 s.faults.queue.length, BitVec.ofNat 16 s.faults.overflow,
    blankValue s.faults.reasons s.faults.faultedCount]

/-- R182, R194: table 0x09. -/
def faultWindowValues : FaultWindow → List Half
  | .nothing => [0, 0xFFFF, 0xFFFF, 0xFFFF, 0xFFFF, 0xFFFF, 0xFFFF]
  | .overflow n => [0x0200, 0xFFFF, BitVec.ofNat 16 n, 0xFFFF, 0xFFFF, 0xFFFF, 0xFFFF]
  | .record r =>
    [BitVec.ofNat 16 (256 + r.kind.code.toNat), absentOr (r.tile.map Fin.val), r.detail,
      BitVec.ofNat 16 r.sequence.toNat] ++
    match r.clock with
    | some c => (clockValues { seconds := c.seconds, day := c.day, isSet := true }).take 3
    | none => [0xFFFE, 0xFFFE, 0xFFFE]

/-- R183: items 1 to 20 of the snapshot, as they stand; item 19 is the reason set alone (log 28). -/
def snapshotValues (s : State) : List Half :=
  [s.governor.code, absentOr s.combinedLevel, s.light.channelA.state.code, s.light.channelB.state.code,
    BitVec.ofNat 16 s.light.ceiling, BitVec.ofNat 16 s.light.gain, bandValue s.bandInForce] ++
  (match s.table.gate with
    | .closed => [0, 0]
    | .opened n => [1, BitVec.ofNat 16 n]) ++
  (match s.face.showing with
    | .buffer b n => [BitVec.ofNat 16 b.val, BitVec.ofNat 16 n.val]
    | .blank n => [8, BitVec.ofNat 16 n.val]
    | .black => [8, 0xFFFF]) ++
  [BitVec.ofNat 16 s.face.sequence.toNat] ++ clockValues s.light.clock ++
  [BitVec.ofNat 16 s.cues.queue.length,
    BitVec.ofNat 8 s.faults.queue.length ++ BitVec.ofNat 8 s.faults.overflow,
    blankValue s.faults.reasons 0] ++
  match s.face.suspended with
  | .buffer b _ _ => [BitVec.ofNat 16 b.val]
  | .blank _ _ => [8]
  | .empty => [9]

/-- R179, R194: a history entry, or two absent items. -/
def historyValues (h : List HistoryEntry) (i : Nat) : List Half :=
  match h[i]? with
  | some e => [(if e.complete then 0x80#8 else 0#8) ++ e.sequence, e.crc]
  | none => [0xFFFF, 0xFFFF]

/-- R179, R193, R194: items 1 to 25 of table 0x10. -/
def tileValues (r : TileRecord) : List Half :=
  [r.state.code, BitVec.ofNat 16 r.counter, yesNo r.derate, BitVec.ofNat 16 r.target,
    BitVec.ofNat 16 r.bound, BitVec.ofNat 16 r.applied, r.scan.running, BitVec.ofNat 16 r.scan.delivered,
    yesNo r.scan.broken, BitVec.ofNat 16 r.scan.silence, BitVec.ofNat 16 r.scan.history.length] ++
  historyValues r.scan.history 0 ++ historyValues r.scan.history 1 ++ historyValues r.scan.history 2 ++
  historyValues r.scan.history 3 ++
  (match r.scan.last with
    | some p => [p.result.code, BitVec.ofNat 16 p.sequence.toNat, BitVec.ofNat 16 p.dark.toNat,
        BitVec.ofNat 16 p.temperature.toNat - 64,
        yesNo p.overtemp + 2 * yesNo p.supplyLow + 4 * yesNo p.linkLost]
    | none => [0xFFFF, 0xFFFF, 0xFFFF, 0x8000, 0xFFFF]) ++
  [yesNo r.scan.held.isSome]

/-- R179: a buffer record in table 0x11. -/
def bufferValues (r : BufferRecord) : List Half :=
  [r.state.code, absentOr (r.slot.map Fin.val), BitVec.ofNat 16 r.refused,
    (r.lastRefusal.map RefusalCause.code).getD 0xFFFF, r.lastCrc.getD 0xFFFF, yesNo r.lastCrc.isSome,
    BitVec.ofNat 16 (r.progress / 16)]

/-- R179: items 0 to 11 of table 0x12. -/
def testValues (t : TestRecord) : List Half :=
  [absentOr (t.tile.map Fin.val), absentOr t.requested, BitVec.ofNat 16 t.used, t.phase.code,
    absentOr (t.sequence.map BitVec.toNat), absentOr t.level, BitVec.ofNat 16 t.wait,
    BitVec.ofNat 16 t.named.length, (t.lastResult.map AttemptResult.code).getD 0xFFFF,
    (t.lastMatched.map yesNo).getD 0xFFFF, absentOr (t.lastDark.map BitVec.toNat), t.outcome.code]

/-- The item and the value of the rows that write one item (log 20). -/
def rowWrite : Instr → Option (Item × Half)
  | .channelEnableWrite ch d => some (.operating (channelEnableIndex ch), d)
  | .channelSettingWrite ch f d => some (.operating (channelSettingIndex ch f), d)
  | .limitWrite l d => some (.operating (limitIndex l), d)
  | .faceFaultLimitWrite d => some (.operating 23, d)
  | .tileBlankPolicyWrite d => some (.operating 22, d)
  | .trimWrite i d => some (.trim i, d)
  | .bandFieldWrite b f d => some (.band b f, d)
  | .defaultBandWrite f d => some (.operating (defaultBandIndex f), d)
  | .unsetCeilingWrite d => some (.operating 32, d)
  | .curvePointWrite p f d => some (.curve p f, d)
  | .layoutWrite i d => some (.layout i, d)
  | .write n d => (itemOf n).map fun it => (it, d)
  | _ => none

/-- The item number a write row answers under. -/
def rowNumber : Instr → Half
  | .write n _ => n
  | c => ((rowWrite c).map fun p => p.1.number).getD 0

/-- The row of each due event (log 2). -/
def rowOfDue : DueEvent → Instr
  | .guardClaim => .starvationGuardClaim
  | .takePresented => .transactionTake none
  | .silent i => .silent i
  | .testWaitExpiry => .testWaitExpiry
  | .holdOffEnd n => .holdOffEnd n
  | .cueExpiry n => .cueExpiry n
  | .noticeTimeEnd n => .noticeTimeEnd n
  | .dwellMet => .dwellMet
  | .pairWaitExpiry => .pairWaitExpiry
  | .scanStall => .scanStall
  | .gateWindowEnd ch => .gateWindowEnd ch
  | .secondStep => .secondStep
  | .noticeGateTimeout => .noticeGateTimeout

/-- The commands that find what is due already taken: all but the rows of due events and RSTN's release. -/
def settlesFirst : Instr → Bool
  | .transactionTake none | .starvationGuardClaim | .silent _ | .testWaitExpiry | .holdOffEnd _
  | .cueExpiry _ | .noticeTimeEnd _ | .dwellMet | .pairWaitExpiry | .scanStall | .gateWindowEnd _
  | .jump _ | .sensorDead _ | .sensorSaturated _ | .secondStep | .noticeGateTimeout
  | .powerOnRelease _ => false
  | _ => true

end Sys2Proof.Safety
end

