-- ==== Sys2Proof/Certificates/Slice0/Obligations.lean ====
section
/-! DEFINITION. The statements for the provers. `Runs c s p` says that the command answers a next state
and that it is so; `Follows u t` says that the command's own effect on the state is exactly `u`, and that
only the port, the requests, the pair lines and what comes due may have moved after it. -/

section

open Sys2Proof Sys2Proof.Machine Sys2Proof.Safety

/-! ## The queue, reset and the invariants -/

/-- A step runs the command at the front of the queue on the queue's rest, and no command changes the
queue. On an empty queue it idles, which is the model's choice (log 25). -/
def Obligations.StepRunsFrontCommand : Prop :=
  (∀ (c : Instr) (rest : List Instr) (s : State),
    s.pending = c :: rest → step s = exec c (s.withPending rest)) ∧
  (∀ (c : Instr) (s t : State), exec c s = .next t → t.pending = s.pending) ∧
  ∀ s : State, s.pending = [] → step s = .next s

/-- The values after power-on that the chapters give, at State.reset. The strap and the input lines are
the model's choice (log 8, 9) and are left out. The invariants below hold there. -/
def Obligations.ResetValues : Prop :=
  let s := State.reset
  s.governor = .setup ∧ s.pending = [] ∧ s.due = [] ∧
  (s.settings.operating.cells = [8, 32] ++ [1, 5, 2, 512, 20, 20] ++ [1, 5, 2, 512, 20, 20] ++ [16, 64] ++
      [4, 2, 8, 4, 2, 8] ++ [1, 8, 16, 60, 20, 10] ++ [80, 150, 300, 600] ++ [256, 1024, 512, 0] ∧
    s.settings.layout = { tileWidth := 32, tileHeight := 32, columns := 8, rows := 4
                          faceBase := 0x10000000#32, bufferBase := 0x20000000#32
                          cueBase := 0x30000000#32, reportBase := 0x30010000#32 } ∧
    s.settings.check = .none ∧ s.settings.checkWindows = .none ∧
    (∀ q, s.settings.curve.get q = { threshold := 256 * q.val + 255, gain := 64 * q.val + 64 }) ∧
    (∀ b, s.settings.bands.get b = { enabled := false, startMinute := 0, startSecond := 0, days := 127
                                     ceiling := 1024, fallback := 512, minDwell := 0 })) ∧
  (s.bus.upstream = none ∧ s.bus.port = none ∧ s.bus.anyRequest = false ∧ s.bus.waited = 0 ∧
    s.bus.errorMark = false) ∧
  (∀ k, s.table.records.get k = { state := .free, slot := none, refused := 0, lastRefusal := none,
                                   lastCrc := none, progress := 0 }) ∧
  (s.table.gate = .closed ∧ s.table.sweeping = none ∧ s.table.verifying = none) ∧
  (∀ i, s.cues.shadow.get i = 0) ∧ (∀ n, (s.slot n).state = .empty) ∧
  (s.cues.queue = [] ∧ s.cues.writeBack = []) ∧
  (s.face.sequence = 0 ∧ s.face.showing = .black ∧ s.face.suspended = .empty ∧ s.face.dwell = .idle ∧
    s.face.noticeEnd = false ∧ s.face.swapReady = false ∧ s.face.latch = false ∧
    s.face.pairWait = .idle ∧ s.face.stallCount = 0 ∧ s.face.stalled = false) ∧
  (∀ ch, (s.channel ch).state = .starting ∧ (s.channel ch).raw = none ∧ (s.channel ch).level = none ∧
    (s.channel ch).window = 5) ∧
  (s.light.clock = { seconds := 0, day := 0, isSet := false } ∧ s.light.ceiling = 256 ∧
    s.light.gain = 256) ∧
  (∀ i, (s.tile i).trim = 1024 ∧ (s.tile i).derate = false ∧ (s.tile i).target = 0 ∧
    (s.tile i).applied = 0 ∧ (s.tile i).state = .lit ∧ (s.tile i).counter = 0 ∧
    (s.tile i).scan.running = 0xFFFF#16 ∧ (s.tile i).scan.delivered = 0 ∧ (s.tile i).scan.history = []) ∧
  (s.scan.openRefresh = none ∧ ∀ i, s.scan.shadow.get i = 0) ∧
  (s.faults.queue = [] ∧ s.faults.overflow = 0 ∧ s.blanked = false ∧ s.attn = false) ∧
  s.test.outcome = .none ∧ (s.wires.frame = none ∧ s.wires.svdo = none) ∧
  (s.link.response.outcome = .reset ∧ s.link.response.item = 0 ∧ s.link.response.data = 0 ∧
    s.link.resetMark = false ∧ s.link.status = { code := 0, state := .idle, error := .none } ∧
    s.link.resetSeen = true ∧ s.link.resetCause = .powerOn ∧ s.link.window = .nothing ∧
    s.link.snapshot.captured = false) ∧
  GainsComposed s ∧ FaultQueueBounded s ∧ GuardBounded s ∧ CueQueueOrdered s ∧ WriteBackListed s ∧
  SwapReadyWanted s ∧ TileCountsBounded s ∧ EnginesSettled s

/-- Every tile's T and B stay the composition of the held pair, its trim, its derate flag, its state and
the blank reasons; A never passes B, and is 0 in the dark cases; Fg never passes C. -/
def Obligations.GainsStayComposed : Prop :=
  ∀ s t : State, GainsComposed s → step s = .next t → GainsComposed t

/-- Six counts stay within their ranges: the fault queue within 32 records and its overflow count within
255, the waited-grant count within 8 and at 0 while no own request pends, and every tile's history within
four entries, its silence count and error counter within 255. -/
def Obligations.CountsStayInRange : Prop :=
  ∀ s t : State, FaultQueueBounded s → GuardBounded s → TileCountsBounded s → step s = .next t →
    FaultQueueBounded t ∧ GuardBounded t ∧ TileCountsBounded t

/-- The Cue Queue holds at most 8 cues, with a NOTICE at its head or nowhere. -/
def Obligations.CueQueueStaysOrdered : Prop :=
  ∀ s t : State, CueQueueOrdered s → step s = .next t → CueQueueOrdered t

/-- No slot stands twice in the write-back list, and each slot's listed flag says whether it stands there. -/
def Obligations.WriteBackListStaysExact : Prop :=
  ∀ s t : State, WriteBackListed s → step s = .next t → WriteBackListed t

/-- R80: SWAPRDY is high exactly while the conditions of a handshake hold. -/
def Obligations.SwapReadyStaysWanted : Prop :=
  ∀ s t : State, SwapReadyWanted s → step s = .next t → SwapReadyWanted t

/-- R15, R16, R36, R37, R41, R42, R64: while RSTN is not asserted every pending request is the one of the
write-back list's head, the sweep or the verify; no engine is left idle with work to choose, and none without a
request while it has a burst to make and none in flight. R24, R28, R32, R53, R75, R76: the buffers worked on,
showing and suspended stand in the states that say so, and in SETUP no engine has work. -/
def Obligations.EnginesStaySettled : Prop :=
  ∀ s t : State, (s.lines.rstn = true ∨ EnginesSettled s) → step s = .next t →
    t.lines.rstn = true ∨ EnginesSettled t

/-- R178, R179: the number of every item, table and index; each item has its own, and the numbers outside
the tables name no item. R186: the item each OPERATING setting stands in. R196: the codes the items read. -/
def Obligations.ItemNumbersRoundTrip : Prop :=
  (∀ it : Item, itemOf it.number = some it) ∧
  (∀ (n : Half) (it : Item), itemOf n = some it → it.number = n) ∧
  let place := fun table index : Nat => BitVec.ofNat 16 (256 * table + index)
  (∀ i : Fin 24, (Item.status i).number = place 0x00 i) ∧ (∀ i : Fin 15, (Item.layout i).number = place 0x01 i) ∧
  (∀ i : Fin 36, (Item.operating i).number = place 0x02 i) ∧
  (∀ p : PointNo, (Item.curve p .threshold).number = place 0x03 (2 * p.val) ∧
    (Item.curve p .gain).number = place 0x03 (2 * p.val + 1)) ∧
  (∀ b : BandNo, [BandField.enabled, .startMinute, .startSecond, .days, .ceiling, .fallback, .minDwell].map
    (fun f => (Item.band b f).number) = (List.range 7).map fun f => place 0x04 (8 * b.val + f)) ∧
  (∀ i : TileNo, (Item.trim i).number = place 0x05 i) ∧ (∀ i : Fin 3, (Item.param i).number = place 0x08 i) ∧
  Item.call.number = place 0x08 3 ∧ Item.serviceStatus.number = place 0x08 4 ∧
  (∀ i : Fin 7, (Item.faultWindow i).number = place 0x09 i) ∧
  (∀ i : Fin 21, (Item.snapshot i).number = place 0x0A i) ∧ Item.tileSelect.number = place 0x10 0 ∧
  (∀ i : Fin 25, (Item.tileField i).number = place 0x10 (i.val + 1)) ∧
  (∀ (k : BufferNo) (f : Fin 7), (Item.bufferField k f).number = place 0x11 (8 * k.val + f.val)) ∧
  Item.gateState.number = place 0x11 64 ∧ Item.gateSeconds.number = place 0x11 65 ∧
  (∀ i : Fin 12, (Item.testField i).number = place 0x12 i) ∧
  (∀ i : Fin 15, (Item.testNamed i).number = place 0x12 (i.val + 16)) ∧
  (∀ g : Settings,
    let channel := fun ch : Channel =>
      let c := g.channel ch
      [c.gate, c.shift, c.jump, c.dead, c.saturation]
    [g.rampUp, g.rampDown] ++ channel .a ++ channel .b ++
      [g.suspectLimit, g.faultLimit, g.weightMismatch, g.weightStale, g.weightSilent, g.weightDark,
        g.weightSupply, g.weightLink] ++
      [g.faceFaultLimit, g.darkLimit, g.reportTimeout, g.stallLimit, g.pairWait] ++
      (List.finRange 4).map g.dwellClass ++
      [g.unsetCeiling, g.defaultCeiling, g.defaultFallback, g.defaultMinDwell] =
        ([0, 1, 3, 4, 5, 6, 7, 9, 10, 11, 12, 13, 14, 15, 16, 17, 18, 19, 20, 21, 23, 24, 25, 26, 27,
          28, 29, 30, 31, 32, 33, 34, 35] : List (Fin 36)).map g.operating.get ∧
    (g.channel .a).enable = (g.operating.get 2 != 0) ∧ (g.channel .b).enable = (g.operating.get 8 != 0) ∧
    g.tileBlank = (g.operating.get 22 != 0)) ∧
  channelEnableIndex .a = 2 ∧ channelEnableIndex .b = 8 ∧
  [ChannelSetting.gate, .shift, .jump, .dead, .saturation].map (channelSettingIndex .a) = [3, 4, 5, 6, 7] ∧
  [ChannelSetting.gate, .shift, .jump, .dead, .saturation].map (channelSettingIndex .b)
    = [9, 10, 11, 12, 13] ∧
  [Limit.suspect, .fault].map limitIndex = [14, 15] ∧
  [DefaultBandField.ceiling, .fallback, .minDwell].map defaultBandIndex = [33, 34, 35] ∧
  [Service.closeSetup, .restart, .setClock, .openNoticeGate, .closeNoticeGate, .wipeBuffer, .tileTest,
    .clearTile, .blankFace, .unblankFace, .captureSnapshot].map Service.code
      = [1, 2, 3, 4, 5, 6, 7, 8, 9, 10, 11] ∧
  [ServiceState.idle, .requested, .inProgress, .done, .failed].map ServiceState.code = [0, 1, 2, 3, 4] ∧
  [ServiceError.none, .unknownService, .badParameter, .bufferState, .layoutInvalid, .notRunning,
    .testFailed, .scanStall, .memoryError].map ServiceError.code = [0, 1, 2, 3, 4, 5, 6, 7, 8] ∧
  [FaultKind.tileSuspect, .tileFaulted, .tileRecovered, .tileOvertemp, .reportMisplaced, .faceBlanked,
    .faceUnblanked, .sensorDead, .sensorSaturated, .sensorRecovered, .scanStall, .scanResumed, .pairSkew,
    .memoryError, .resultLost, .wipeFailed].map FaultKind.code
      = [1, 2, 3, 4, 5, 6, 7, 8, 9, 10, 11, 12, 13, 14, 15, 16] ∧
  [BufferState.free, .filling, .verifying, .staged, .showing, .suspended, .retiring, .wiping,
    .outOfUse].map BufferState.code = [0, 1, 2, 3, 4, 5, 6, 7, 8] ∧
  [RefusalCause.state, .gate, .initiator].map RefusalCause.code = [1, 2, 3] ∧
  [TileState.lit, .suspect, .faulted].map TileState.code = [0, 1, 2] ∧
  [Comparison.matched, .mismatch, .notCompared, .stale, .test].map Comparison.code = [0, 1, 2, 3, 4] ∧
  [ChannelState.off, .starting, .good, .dead, .saturated].map ChannelState.code = [0, 1, 2, 3, 4] ∧
  [Governor.setup, .running].map Governor.code = [0, 1] ∧
  [ResetCause.powerOn, .restart].map ResetCause.code = [0, 1] ∧
  [Strap.alone, .paired].map Strap.code = [0, 1] ∧
  [TestPhase.none, .due, .sending, .awaiting].map TestPhase.code = [0, 1, 2, 3] ∧
  [TestOutcome.none, .inProgress, .passed, .failedAttempts, .failedStall].map TestOutcome.code
    = [0, 1, 2, 3, 4] ∧
  [AttemptResult.pass, .mismatch, .incomplete, .stale, .dark, .noEcho].map AttemptResult.code
    = [0, 1, 2, 3, 4, 5] ∧
  [LayoutCheck.none, .passed, .tileCount, .alignment, .wrap, .overlap].map LayoutCheck.code
    = [0, 1, 2, 3, 4, 5] ∧
  [LayoutWindow.face, .buffer, .cue, .report].map LayoutWindow.code = [1, 2, 3, 4]

/-- The model's reading of time (log 2): every command but the rows of due events finds what was due
already taken, and a row of a due event takes that event where it stands due and is nothing elsewhere. -/
def Obligations.DueEventsComeFirst : Prop :=
  (∀ (c : Instr) (s : State), settlesFirst c = true → s.lines.rstn = false → s.settle.due = [] →
    exec c s = exec c s.settle) ∧
  (∀ (e : DueEvent) (s : State), Due e s → exec (rowOfDue e) s = .next ((s.dropDue e).takeDue e)) ∧
  ∀ (e : DueEvent) (s : State), ¬ Due e s → exec (rowOfDue e) s = .next s

/-- What stops a step (log 6, 7): a command that stands for nothing a counterpart can send, and an end of
a forwarded burst that leaves out words the memory controller owes. -/
def Obligations.OnlyIllFormedEndsStop : Prop :=
  (∀ (c : Instr) (s : State) (r : Refusal), exec c s = .refused r ↔
    (c.wellFormed = false ∧ ((∃ p, c = .transactionTake (some p) ∧ r = .illFormed "TRANSACTION_TAKE") ∨
      ∃ st ws, c = .verifyBurstEnd st ws ∧ r = .illFormed "VERIFY_BURST_END"))) ∧
  ∀ (c : Instr) (s : State) (f : Fault), exec c s = .fault f →
    ∃ st, c = .forwardedBurstEnd st ∧ s.lines.rstn = false ∧
      ∃ r, s.settle.bus.upstream = some r ∧ r.endsEarly st = true

/-! ## The frame bus path (01) -/

/-- R18: a transaction presented while the port shows not-ready is held, whatever it is; one already held
stands (log 5). R18 names an own burst that holds the memory port; that any burst there holds the
transaction, an abandoned forwarded one too, is the model's reading (log 16). -/
def Obligations.TakeHoldsWhileNotReady : Prop :=
  ∀ (p : Presented) (s : State), p.wellFormed = true → s.due = [] →
    (s.bus.upstream.isSome = true ∨ s.bus.port.isSome = true ∨ s.bus.guardClaims = true ∨
      s.lines.fbrst = true ∨ s.lines.rstn = true) →
    exec (.transactionTake (some p)) s =
      .next (if s.bus.presented.isSome then s else s.onBus fun b => { b with presented := some p })

/-- R6: in SETUP a read that touches the face window is answered, and everything else is forwarded at its
own address. That a face window which runs past the top of the address space does not wrap, and that a word
lies where its first byte does, is the model's reading (log 22, 34), and so is the window that the record of a
transaction holds where windows overlap (log 33). -/
def Obligations.TakeInSetup : Prop :=
  ∀ (p : Presented) (s : State), Takes p s → s.governor = .setup →
    let facing := p.direction = .read ∧
      ∃ j, j < p.length ∧ LayoutWindow.face.holds s.settings.layout (wordAddress p.address j) = true
    (facing → Runs (.transactionTake (some p)) s fun t =>
      Follows (takenAs s (openedRecord s p .answer none false) none) t) ∧
    (¬ facing → Runs (.transactionTake (some p)) s fun t =>
      Follows (takenAs s (openedRecord s p .pass none false) (some (forwardBurst p p.address))) t)

/-- R4: the windows' bases and sizes, and the class of a transaction under a layout that passes the check: the
one window that holds all its words, OUTSIDE where none lies in any, else a straddle. R7, R8, R9: the verdict
on a write in RUNNING, by window, initiator, buffers and slots. -/
def Obligations.WriteVerdicts : Prop :=
  (∀ (a : Word) (j : Nat), wordAddress a j = (a.toNat + 4 * j) % 2 ^ 32) ∧
  (∀ l : Layout,
    let face := 4 * (l.columns * l.tileWidth * (l.rows * l.tileHeight))
    let windows : List LayoutWindow := [.face, .buffer, .cue, .report]
    l.faceSize = face ∧ (∀ k, l.bufferAddress k = l.bufferBase.toNat + k.val * face) ∧
    windows.map (LayoutWindow.base l) =
      [l.faceBase.toNat, l.bufferBase.toNat, l.cueBase.toNat, l.reportBase.toNat] ∧
    windows.map (LayoutWindow.size l) = [face, 8 * face, 1024, 2048] ∧
    (∀ w a, LayoutWindow.holds l w a = true ↔ w.base l ≤ a ∧ a < w.base l + w.size l) ∧
    windows.map LayoutWindow.toWindow = [.face, .buffer, .cue, .report]) ∧
  (∀ (l : Layout) (p : Presented), l.check.1 = .passed → 1 ≤ p.length →
    let lies := fun (w : LayoutWindow) (j : Nat) => w.holds l (wordAddress p.address j) = true
    (∀ w : LayoutWindow, windowOf l p = w.toWindow ↔ ∀ j, j < p.length → lies w j) ∧
    (windowOf l p = .outside ↔ ∀ j, j < p.length → ∀ w, ¬ lies w j) ∧
    (windowOf l p = .straddle ↔
      (∃ j, j < p.length ∧ ∃ w, lies w j) ∧ ∀ w, ∃ j, j < p.length ∧ ¬ lies w j)) ∧
  ∀ (p : Presented) (s : State),
    let l := s.settings.layout
    let touched := touchedBuffers l p.address p.length
    s.writeVerdict p .outside = .pass ∧ s.writeVerdict p .face = .refuse ∧
    s.writeVerdict p .straddle = .refuse ∧
    s.writeVerdict p .report = (if p.initiator = .report then .watch else .refuse) ∧
    (s.writeVerdict p .cue = .watch ↔ p.initiator = .content ∧ ∀ j, j < p.length →
      let a := wordAddress p.address j
      (cueWordAt l a < 4 ∨ cueWordAt l a = 7) ∧ (s.slot (cueSlotAt l a)).state = .empty) ∧
    (s.writeVerdict p .cue ≠ .watch → s.writeVerdict p .cue = .refuse) ∧
    (s.writeVerdict p .buffer = .pass ↔ p.initiator = .content ∧
      (∀ k ∈ touched, s.bufferState k = .free ∨ s.bufferState k = .filling) ∧
      (noticeBuffer ∈ touched → s.table.gate ≠ .closed)) ∧
    (s.writeVerdict p .buffer ≠ .pass → s.writeVerdict p .buffer = .refuse) ∧
    ∀ k, k ∈ touched ↔ ∃ j, j < p.length ∧
      l.bufferAddress k ≤ wordAddress p.address j ∧ wordAddress p.address j < l.bufferAddress k + l.faceSize

/-- R7 to R9, R25, R26: a write taken in RUNNING. An accepted one is forwarded at its own address and fills
the FREE buffers it touches; a refused one uses no memory and is counted at each buffer it touches. -/
def Obligations.TakeWriteInRunning : Prop :=
  ∀ (p : Presented) (s : State), Takes p s → s.governor = .running → p.direction = .write →
    let w := windowOf s.settings.layout p
    let v := s.writeVerdict p w
    let touched := touchedBuffers s.settings.layout p.address p.length
    let filled := fun r : BufferRecord => if r.state = .free then { r with state := .filling } else r
    let counted := fun r : BufferRecord =>
      { r with
        refused := min 65535 (r.refused + 1)
        lastRefusal := some
          (if p.initiator = .content then
            if ∃ k ∈ touched, s.bufferState k ≠ .free ∧ s.bufferState k ≠ .filling then .state else .gate
          else .initiator) }
    let told := s.onTable fun b =>
      if w = .buffer then
        { b with records := b.records.mapIdx fun k r =>
            if k ∈ touched then (if v = .pass then filled r else counted r) else r }
      else b
    Runs (.transactionTake (some p)) s fun t =>
      Follows (takenAs told (openedRecord s p v none false)
        (if v = .refuse then none else some (forwardBurst p p.address))) t

/-- R7, R12, R13: a read taken in RUNNING that starts no refresh. A face-window read is steered to the
buffer showing, or answered; a straddling read is refused at once; every other read is forwarded. -/
def Obligations.TakeReadInRunning : Prop :=
  ∀ (p : Presented) (s : State), Takes p s → s.governor = .running → p.direction = .read →
    s.startsRefresh p = false →
    let l := s.settings.layout
    let w := windowOf l p
    (w = .straddle → Runs (.transactionTake (some p)) s fun t =>
      Follows (closedAs (takenAs s (openedRecord s p .refuse none false) none)
        (openedRecord s p .refuse none false) .refused) t) ∧
    (w ≠ .straddle → w ≠ .face → Runs (.transactionTake (some p)) s fun t =>
      Follows (takenAs s (openedRecord s p .pass none false) (some (forwardBurst p p.address))) t) ∧
    (∀ b n, w = .face → s.face.showing = .buffer b n → Runs (.transactionTake (some p)) s fun t =>
      Follows (takenAs s (openedRecord s p .remap (some b) false)
        (some (forwardBurst p
          (BitVec.ofNat 32 (l.bufferAddress b + (p.address.toNat - l.faceBase.toNat)))))) t) ∧
    (w = .face → (∀ b n, s.face.showing ≠ .buffer b n) → Runs (.transactionTake (some p)) s fun t =>
      Follows (takenAs s (openedRecord s p .answer none false) none) t)

/-- R69: a refresh start is a SCAN read of the face window at the face base, in RUNNING. R12, R69, R86, R129:
what it does beside the decision: the sequence advances, the stall ends and a stalled scan raises
SCAN_RESUMED, every tile's refresh is closed into its history and counted afresh, and the read is steered by
the selection just decided. -/
def Obligations.RefreshStartClosesAndOpens : Prop :=
  (∀ (p : Presented) (s : State), s.startsRefresh p = true ↔
    s.governor = .running ∧ p.initiator = .scan ∧ p.direction = .read ∧
    windowOf s.settings.layout p = .face ∧ p.address = s.settings.layout.faceBase) ∧
  (∀ s : State, s.tileCount = s.settings.layout.columns * s.settings.layout.rows ∧
    s.settings.layout.wordsPerTile = s.settings.layout.tileWidth * s.settings.layout.tileHeight) ∧
  ∀ (p : Presented) (s : State), Takes p s → s.startsRefresh p = true →
    Runs (.transactionTake (some p)) s fun t =>
      Unchanged [.due, .bus, .table, .cues, .face, .tiles, .scan, .faults, .test, .link] s t ∧
      t.face.sequence = s.face.sequence + 1 ∧ t.face.stallCount = 0 ∧ t.face.stalled = false ∧
      t.bus.errorMark = false ∧ t.bus.presented = none ∧
      t.scan = { s.scan with openRefresh := some (s.face.sequence + 1) } ∧
      (∀ b n, t.face.showing = .buffer b n →
        t.bus.upstream = some (openedRecord s p .remap (some b) true) ∧
        t.bus.port = some (forwardBurst p (BitVec.ofNat 32 (s.settings.layout.bufferAddress b)))) ∧
      ((∀ b n, t.face.showing ≠ .buffer b n) →
        t.bus.upstream = some (openedRecord s p .answer none true)) ∧
      (s.face.stalled = true → s.faults.queue.length < 32 → ∃ rest,
        t.faults.queue = s.faults.queue ++
          { kind := .scanResumed, tile := none, detail := natItem s.face.stallCount
            sequence := s.face.sequence + 1, clock := s.clockReading } :: rest) ∧
      (s.face.stalled = true → 32 ≤ s.faults.queue.length →
        t.faults.queue = s.faults.queue ∧ min 255 (s.faults.overflow + 1) ≤ t.faults.overflow) ∧
      (s.face.stalled = false → s.test.runs = false → (∀ i, (s.tile i).scan.held = none) →
        t.faults = s.faults) ∧
      ∀ i, (t.tile i).scan.running = 0xFFFF#16 ∧ (t.tile i).scan.delivered = 0 ∧
        (t.tile i).scan.broken = false ∧ (t.tile i).trim = (s.tile i).trim ∧
        (∀ q, i.val < s.tileCount → s.scan.openRefresh = some q →
          (t.tile i).scan.history = appendHistory (s.tile i).scan.history
            { sequence := q, crc := (s.tile i).scan.running
              complete := decide ((s.tile i).scan.delivered = s.settings.layout.wordsPerTile) &&
                !(s.tile i).scan.broken }) ∧
        (s.tileCount ≤ i.val ∨ s.scan.openRefresh = none →
          (t.tile i).scan.history = (s.tile i).scan.history)

/-- R120, R140: at a refresh start with no report held and no test running, every applied gain takes one
ramp step toward its target, and every silence count of a tile in use rises by one. SILENT comes due for
exactly the tiles in use whose count then stands at or above the report timeout; that the count stands so until
the row SILENT is taken is the model's reading (log 2, 31). -/
def Obligations.RefreshStartRamps : Prop :=
  (∀ (p : Presented) (s : State), Takes p s → s.startsRefresh p = true → s.test.runs = false →
    (∀ i, (s.tile i).scan.held = none) →
    Runs (.transactionTake (some p)) s fun t => ∀ i,
      let r := s.tile i
      (t.tile i).target = r.target ∧ (t.tile i).bound = r.bound ∧ (t.tile i).state = r.state ∧
      (t.tile i).counter = r.counter ∧
      (t.tile i).applied =
        (if r.applied < r.target then min r.target (r.applied + s.settings.rampUp)
        else max r.target (r.applied - s.settings.rampDown)) ∧
      (t.tile i).scan.silence =
        (if i.val < s.tileCount then min 255 (r.scan.silence + 1) else r.scan.silence)) ∧
  ∀ (p : Presented) (s : State), Takes p s → s.startsRefresh p = true →
    Runs (.transactionTake (some p)) s fun t => ∀ i,
      (.silent i ∈ t.due ↔ i.val < s.tileCount ∧ s.settings.reportTimeout ≤ (t.tile i).scan.silence) ∧
      ((s.tile i).scan.held = none → (t.tile i).scan.silence =
        if i.val < s.tileCount then min 255 ((s.tile i).scan.silence + 1) else (s.tile i).scan.silence)

/-- R59, R61, R63, R74 to R77: the decision at a refresh start, with the stamps and the notice time of the
cues it moves and their places in the write-back list, the outgoing cue before the incoming one. -/
def Obligations.RefreshStartDecides : Prop :=
  ∀ (p : Presented) (s : State), Takes p s → s.startsRefresh p = true →
    Runs (.transactionTake (some p)) s fun t =>
      -- 1: a notice on the face stays until its end is pending
      (s.noticeShowing = true → s.face.noticeEnd = false →
        t.face.showing = s.face.showing ∧ t.face.suspended = s.face.suspended ∧
        t.face.dwell = s.face.dwell ∧ t.cues.queue = s.cues.queue) ∧
      -- 2: an eligible NOTICE takes the face, and what it takes it from is suspended
      (∀ e rest k, s.noticeShowing = false → s.cues.queue = e :: rest → e.kind = .notice →
        e.buffer = some k → s.eligible e = true →
        t.face.showing = .buffer k e.slot ∧ t.face.suspended = s.face.toSuspend ∧
        t.face.dwell = .idle ∧ t.cues.queue = s.cues.queue.filter (fun q => q.slot != e.slot) ∧
        t.bufferState k = .showing ∧ (t.slot e.slot).state = .active ∧
        (t.slot e.slot).outcome = some .onFace ∧
        (t.slot e.slot).showStamp =
          some { sequence := s.face.sequence + 1, clock := s.clockNow } ∧
        (t.slot e.slot).noticeTime = (if e.lifetime = 0 then none else some e.lifetime) ∧
        (s.face.toSuspend = .empty → WriteBackListIs t (listedAfter s [e.slot])) ∧
        (∀ n, (∃ b c, s.face.toSuspend = .buffer b n c) ∨ (∃ c, s.face.toSuspend = .blank n c) →
          n ≠ e.slot → (t.slot n).outcome = some .suspended ∧ (t.slot n).state = (s.slot n).state ∧
          (t.slot n).endStamp = (s.slot n).endStamp ∧ WriteBackListIs t (listedAfter s [n, e.slot]))) ∧
      -- 4: dwell met, an eligible FRAME or BLANK whose pair condition is met swaps in
      (∀ e rest, s.noticeShowing = false → s.cues.queue = e :: rest → e.isFrameOrBlank = true →
        s.eligible e = true → s.pairCondition e = true → s.face.dwell = .met →
        t.face.showing = e.selection ∧ t.face.dwellClass = some e.dwellClass ∧
        t.face.dwell = loadedDwell (max (s.settings.dwellClass e.dwellClass) s.bandMinDwell) ∧
        (t.face.dwell ≠ .met → t.face.swapReady = false ∧ t.face.latch = false ∧
          t.face.pairWait = .idle) ∧
        t.cues.queue = s.cues.queue.filter (fun q => q.slot != e.slot) ∧
        (∀ k, e.buffer = some k → t.bufferState k = .showing) ∧
        (∀ k n, s.face.showing = .buffer k n → e.buffer ≠ some k → t.bufferState k = .retiring) ∧
        (t.slot e.slot).state = .active ∧ (t.slot e.slot).outcome = some .onFace ∧
        (t.slot e.slot).showStamp =
          some { sequence := s.face.sequence + 1, clock := s.clockNow } ∧
        (t.slot e.slot).noticeTime = none ∧
        (s.face.showing.slot = none → WriteBackListIs t (listedAfter s [e.slot])) ∧
        (∀ n, s.face.showing.slot = some n → n ≠ e.slot →
          (t.slot n).state = .closing ∧ (t.slot n).outcome = some .retired ∧
          (t.slot n).endStamp = endsNow s n ∧ WriteBackListIs t (listedAfter s [n, e.slot]))) ∧
      -- 3 and 5: otherwise what shows goes on showing
      (s.noticeShowing = false → s.preempting = none → (s.face.dwell ≠ .met ∨ s.swappable = none) →
        t.face.showing = s.face.showing ∧ t.face.dwell = s.face.dwell ∧ t.cues.queue = s.cues.queue)

/-- R77: the end of a notice. What it suspended shows again with a fresh dwell; else an eligible head swaps
in; else the face goes black. B7 is owed a sweep. R61, R63: the ending notice takes its end stamp and stands in
the write-back list before the cue resumed or swapped in; a resumed cue keeps its show stamp. -/
def Obligations.NoticeEndResumes : Prop :=
  ∀ (p : Presented) (s : State) (n : SlotNo), Takes p s → s.startsRefresh p = true →
    s.bufferState noticeBuffer = .showing → s.face.noticeEnd = true →
    s.face.showing = .buffer noticeBuffer n →
    Runs (.transactionTake (some p)) s fun t =>
      t.face.noticeEnd = false ∧
      (∀ b m c, s.face.suspended = .buffer b m c → m ≠ n → b ≠ noticeBuffer →
        t.face.showing = .buffer b m ∧ t.face.suspended = .empty ∧ t.face.dwellClass = some c ∧
        t.face.dwell = loadedDwell (max (s.settings.dwellClass c) s.bandMinDwell) ∧
        t.bufferState b = .showing ∧ t.bufferState noticeBuffer = .wiping ∧
        (t.slot m).outcome = some .onFace ∧ (t.slot m).showStamp = (s.slot m).showStamp ∧
        (t.slot n).state = .closing ∧ (t.slot n).outcome = some .noticeEnded ∧
        (t.slot n).endStamp = endsNow s n ∧ WriteBackListIs t (listedAfter s [n, m])) ∧
      (∀ m c, s.face.suspended = .blank m c → m ≠ n →
        t.face.showing = .blank m ∧ t.face.suspended = .empty ∧ t.face.dwellClass = some c ∧
        t.face.dwell = loadedDwell (max (s.settings.dwellClass c) s.bandMinDwell) ∧
        t.bufferState noticeBuffer = .wiping ∧ (t.slot m).outcome = some .onFace ∧
        (t.slot m).showStamp = (s.slot m).showStamp ∧
        (t.slot n).state = .closing ∧ (t.slot n).outcome = some .noticeEnded ∧
        (t.slot n).endStamp = endsNow s n ∧ WriteBackListIs t (listedAfter s [n, m])) ∧
      (∀ e, s.face.suspended = .empty → s.swappable = some e → e.slot ≠ n →
        t.face.showing = e.selection ∧ t.face.dwellClass = some e.dwellClass ∧
        t.face.dwell = loadedDwell (max (s.settings.dwellClass e.dwellClass) s.bandMinDwell) ∧
        t.cues.queue = s.cues.queue.filter (fun q => q.slot != e.slot) ∧
        (e.buffer ≠ some noticeBuffer → t.bufferState noticeBuffer = .wiping) ∧
        (∀ k, e.buffer = some k → t.bufferState k = .showing) ∧
        (t.slot e.slot).state = .active ∧ (t.slot e.slot).outcome = some .onFace ∧
        (t.slot e.slot).showStamp =
          some { sequence := s.face.sequence + 1, clock := s.clockNow } ∧
        (t.slot n).state = .closing ∧ (t.slot n).outcome = some .noticeEnded ∧
        (t.slot n).endStamp = endsNow s n ∧ WriteBackListIs t (listedAfter s [n, e.slot])) ∧
      (s.face.suspended = .empty → s.swappable = none →
        t.face.showing = .black ∧ t.face.dwellClass = none ∧ t.face.dwell = .met ∧
        t.bufferState noticeBuffer = .wiping ∧ (t.slot n).state = .closing ∧
        (t.slot n).outcome = some .noticeEnded ∧ (t.slot n).endStamp = endsNow s n ∧
        WriteBackListIs t (listedAfter s [n]))

/-- R4, R46, R131: the slot and the word of an address in the ring and the report window, the cells of the two
shadows, and the bytes an enable passes. R2, R9 to R11, R48, R131: a data word of a forwarded write joins the
record and the memory-side burst; where the write is watched it is also handed to the ring shadow or the
report shadow, or noted, by the layout it was taken under (log 35). A data word of a refused write is
discarded, and the last of them completes the write REFUSED. A word that no transaction waits for is nothing
(log 4). -/
def Obligations.WriteWordTaken : Prop :=
  (∀ (l : Layout) (n : SlotNo) (j : Nat), j < 8 →
    let a := l.cueBase.toNat + 32 * n.val + 4 * j
    cueSlotAt l a = n ∧ cueWordAt l a = j) ∧
  (∀ (l : Layout) (i : TileNo) (j : Nat), j < 4 →
    let a := l.reportBase.toNat + 16 * i.val + 4 * j
    reportSlotAt l a = i ∧ reportWordAt l a = j) ∧
  (∀ (n : SlotNo) (j : Nat) (s : State), j < 4 →
    (cueShadowCell n j).val = 4 * n.val + j ∧ s.cueShadow n j = s.cues.shadow.get (cueShadowCell n j)) ∧
  (∀ (i : TileNo) (j : Nat) (s : State), j < 3 →
    (reportShadowCell i j).val = 3 * i.val + j ∧
    s.reportShadow i j = s.scan.shadow.get (reportShadowCell i j)) ∧
  (∀ (old new : Word) (en : ByteEnables),
    let byte := fun (on : Bool) (start : Nat) => (if on then new else old).extractLsb' start 8
    mergeBytes old new en = byte en.b3 24 ++ byte en.b2 16 ++ byte en.b1 8 ++ byte en.b0 0) ∧
  (∀ (w : Word) (en : ByteEnables) (r : TxRecord) (s : State), Owed r .write s →
    let l := r.layout
    let a := wordAddress r.address r.wordsDone
    let n := cueSlotAt l a
    let i := reportSlotAt l a
    let watching :=
      if r.verdict = .watch ∧ r.window = .cue then
        s.onCues fun c =>
          if cueWordAt l a < 4 then
            { c with shadow := c.shadow.modify (cueShadowCell n (cueWordAt l a)) fun old =>
                mergeBytes old w en }
          else if cueWordAt l a = 7 then { c with noted := c.noted ++ [{ slot := n, word := w, enables := en }] }
          else c
      else if r.verdict = .watch ∧ r.window = .report then
        s.onScan fun c =>
          if reportWordAt l a < 3 then
            { c with shadow := c.shadow.modify (reportShadowCell i (reportWordAt l a)) fun old =>
                mergeBytes old w en }
          else { c with noted := c.noted ++ [{ slot := i, word := w, enables := en }] }
      else s
    (r.verdict = .pass ∨ r.verdict = .watch ∨ r.verdict = .remap) →
    exec (.writeDataWord w en) s = .next (watching.onBus fun b =>
      { b with
        upstream := some { r with wordsDone := r.wordsDone + 1
                                  data := r.data ++ [{ word := w, enables := en }] }
        port := b.port.map fun q => { q with data := q.data ++ [{ word := w, enables := en }] } })) ∧
  (∀ (w : Word) (en : ByteEnables) (r : TxRecord) (s : State), Owed r .write s → r.verdict = .refuse →
    let counted := { r with wordsDone := r.wordsDone + 1 }
    (r.wordsDone + 1 < r.length →
      exec (.writeDataWord w en) s = .next (s.onBus fun b => { b with upstream := some counted })) ∧
    (r.length ≤ r.wordsDone + 1 → Runs (.writeDataWord w en) s fun t =>
      Follows (closedAs s counted .refused) t)) ∧
  ∀ (w : Word) (en : ByteEnables) (s : State), Quiet s →
    (∀ r, s.bus.upstream = some r → r.direction ≠ .write ∨ r.wordOwed = false) →
    exec (.writeDataWord w en) s = .next s

/-- R110: each channel becomes floor(channel × A / 1024), the upper field passes. -/
def Obligations.PixelScaling : Prop :=
  (∀ (w : Word) (a : Nat), a ≤ 1024 →
    ((scaleWord w a).extractLsb' 20 10).toNat = (w.extractLsb' 20 10).toNat * a / 1024 ∧
    ((scaleWord w a).extractLsb' 10 10).toNat = (w.extractLsb' 10 10).toNat * a / 1024 ∧
    ((scaleWord w a).extractLsb' 0 10).toNat = (w.extractLsb' 0 10).toNat * a / 1024 ∧
    (scaleWord w a).extractLsb' 30 2 = w.extractLsb' 30 2 ∧
    ((scaleWord w a).extractLsb' 20 10).toNat ≤ (w.extractLsb' 20 10).toNat ∧
    ((scaleWord w a).extractLsb' 10 10).toNat ≤ (w.extractLsb' 10 10).toNat ∧
    ((scaleWord w a).extractLsb' 0 10).toNat ≤ (w.extractLsb' 0 10).toNat) ∧
  (∀ w : Word, scaleWord w 1024 = w ∧ scaleWord w 0 = w.extractLsb' 30 2 ++ 0#30) ∧
  (∀ a : Nat, scaleWord 0 a = 0) ∧
  scaleWord (2#2 ++ 1000#10 ++ 512#10 ++ 3#10) 384 = 2#2 ++ 375#10 ++ 192#10 ++ 1#10

/-- R165, R193: the pattern word. R14, R109, R111, R128: a word of a SCAN read of the face window is scaled by
its tile's applied gain, or replaced in the tile's test refresh; the tile's CRC, count and order take it as it
leaves; it is delivered. No other tile changes. A word of the black fill is a zero whatever memory holds, and
the last of them completes the read. R6, R12, R13, R22: every other read's word is delivered as it is
obtained: memory's, or a zero where the device answers, or where a RESTART has followed the take of a steered
read. A word that no transaction waits for is nothing (log 4). -/
def Obligations.ReadWordDelivered : Prop :=
  (∀ level : Nat, level ≤ 1023 → (patternWord level).toNat = (2 ^ 20 + 2 ^ 10 + 1) * level) ∧
  (∀ (w : Word) (r : TxRecord) (s : State), Owed r .read s → r.scansFace = true →
    let l := s.settings.layout
    let pixel := (r.address.toNat - l.faceBase.toNat + 4 * r.wordsDone) / 4
    let x := pixel % (l.columns * l.tileWidth)
    let y := pixel / (l.columns * l.tileWidth)
    let i : TileNo := Fin.ofNat 128 (y / l.tileHeight * l.columns + x / l.tileWidth)
    let place := y % l.tileHeight * l.tileWidth + x % l.tileWidth
    let obtained := if r.verdict = .answer then 0 else w
    let out :=
      if s.test.outcome = .inProgress ∧ s.test.tile = some i ∧ s.test.phase = .sending then
        patternWord (s.test.level.getD 0)
      else scaleWord obtained (s.tile i).applied
    let counted := s.onTiles fun t =>
      { t with records := t.records.modify i fun q =>
          { q with scan := { q.scan with
              running := crc16Word q.scan.running out
              delivered := min 65535 (q.scan.delivered + 1)
              broken := q.scan.broken || place != q.scan.delivered } } }
    let driven := fun u : Option TxRecord => counted.onBus fun b => { b with delivered := some out, upstream := u }
    let moved := { r with wordsDone := r.wordsDone + 1 }
    (r.verdict ≠ .answer ∨ r.wordsDone + 1 < r.length →
      exec (.readWordDelivery w) s = .next (driven (some moved))) ∧
    (r.verdict = .answer → r.length ≤ r.wordsDone + 1 → Runs (.readWordDelivery w) s fun t =>
      Follows (closedAs (driven (some moved)) moved .ok) t)) ∧
  (∀ (w : Word) (r : TxRecord) (s : State), Owed r .read s → r.scansFace = false →
    let out := if r.verdict = .answer ∨ (r.verdict = .remap ∧ r.governed = false) then 0 else w
    let moved := { r with wordsDone := r.wordsDone + 1 }
    let driven := s.onBus fun b => { b with delivered := some out, upstream := some moved }
    (r.verdict ≠ .answer ∨ r.wordsDone + 1 < r.length →
      exec (.readWordDelivery w) s = .next driven) ∧
    (r.verdict = .answer → r.length ≤ r.wordsDone + 1 → Runs (.readWordDelivery w) s fun t =>
      Follows (closedAs driven moved .ok) t)) ∧
  ∀ (w : Word) (s : State), Quiet s →
    (∀ r, s.bus.upstream = some r → r.direction ≠ .read ∨ r.wordOwed = false) →
    exec (.readWordDelivery w) s = .next s

/-- R11, R19: the initiator's short end, by the verdict. A short end with no word owed is nothing (log 4). -/
def Obligations.ShortEndByVerdict : Prop :=
  (∀ (d : Direction) (r : TxRecord) (s : State), Owed r d s →
    (r.verdict = .pass ∨ r.verdict = .watch ∨ r.verdict = .remap →
      exec .initiatorShortEnd s = .next (s.onBus fun b =>
        { b with upstream := some { r with endedShort := true }
                 port := b.port.map fun q => { q with length := r.wordsDone } })) ∧
    (r.verdict = .answer → Runs .initiatorShortEnd s fun t => Follows (closedAs s r .ok) t) ∧
    (r.verdict = .refuse → Runs .initiatorShortEnd s fun t => Follows (closedAs s r .refused) t)) ∧
  ∀ s : State, Quiet s → (∀ r, s.bus.upstream = some r → r.wordOwed = false) →
    exec .initiatorShortEnd s = .next s

/-- R3, R20: the end of a forwarded burst completes its transaction with the burst's status; that an error so
completes a read its initiator has ended short is the model's choice (log 42). A SCAN read of the face window
that was steered to a buffer and ends in an error raises MEMORY_ERROR once a refresh. The end of a burst whose
transaction was abandoned only frees the port (R21), and an end while words are owed stops (log 6). A watched
write that ends in an error, or after a RESTART, makes no commit and no report: what was noted for them is
dropped (R9, R10, R22). An end with no forwarded burst in flight is nothing (log 4). -/
def Obligations.ForwardedBurstEndCompletes : Prop :=
  (∀ (st : MemStatus) (r : TxRecord) (s : State), Ending r st s → r.verdict ≠ .watch →
    let done := (closedAs s r (completionOf st)).onBus fun b => { b with port := none }
    let failed := st = .error ∧ r.scansFace = true ∧ r.verdict = .remap
    (failed → s.bus.errorMark = false → Runs (.forwardedBurstEnd st) s fun t =>
      Follows ((done.onFaults fun f => f.join
        (s.faultRecord .memoryError none (optNatItem (r.target.map Fin.val)))).onBus fun b =>
          { b with errorMark := true }) t) ∧
    (¬ failed ∨ s.bus.errorMark = true → Runs (.forwardedBurstEnd st) s fun t => Follows done t)) ∧
  (∀ (st : MemStatus) (p : Burst) (s : State), Quiet s → s.bus.port = some p → p.source = .forwarded →
    (p.discarded = true ∨ s.bus.upstream = none) → Runs (.forwardedBurstEnd st) s fun t =>
      Follows (s.onBus fun b => { b with port := none }) t) ∧
  (∀ (st : MemStatus) (r : TxRecord) (p : Burst) (s : State), Quiet s → s.bus.port = some p →
    p.source = .forwarded → p.discarded = false → s.bus.upstream = some r → r.endsEarly st = true →
    exec (.forwardedBurstEnd st) s = .fault .memoryEndsEarly) ∧
  (∀ (st : MemStatus) (s : State), Quiet s → (∀ p, s.bus.port = some p → p.source ≠ .forwarded) →
    exec (.forwardedBurstEnd st) s = .next s) ∧
  ∀ (st : MemStatus) (r : TxRecord) (s : State), Ending r st s → r.verdict = .watch →
    (st = .error ∨ r.governed = false ∨ s.governor = .setup) →
    let done := (closedAs s r (completionOf st)).onBus fun b => { b with port := none }
    Runs (.forwardedBurstEnd st) s fun t =>
      Follows (if r.window = .cue then done.onCues fun c => { c with noted := [] }
        else if r.window = .report then done.onScan fun c => { c with noted := [] } else done) t

/-- R193: the bits of the cue words a commit reads. R50 to R53, R27: a commit is judged as its write ends OK.
The first check that fails rejects it; a FRAME, NOTICE or BLANK that passes joins the Cue Queue and fixes its
buffer. A word 7 that is no commit changes nothing. A burst that brought several is judged word by word in the
order they came, which is address order. R41, R45: a NOTICE with a content check takes the verify engine from
a cue whose buffer was being verified, and that verify's work is given up; that the waited-grant count returns
to 0 with its request, whatever the commit raises next, is the model's reading (log 36). That a rejected
BLANK, WITHDRAW or unknown kind keeps no buffer is the model's choice (log 21). -/
def Obligations.CommitJudged : Prop :=
  (∀ w : Word,
    let bits := fun (low width : Nat) => w.toNat / 2 ^ low % 2 ^ width
    (cueKindOf w = some .frame ↔ bits 0 4 = 1) ∧ (cueKindOf w = some .notice ↔ bits 0 4 = 2) ∧
    (cueKindOf w = some .blank ↔ bits 0 4 = 3) ∧ (cueKindOf w = some .withdraw ↔ bits 0 4 = 4) ∧
    (cueBufferOf w).val = bits 8 3 ∧ (cueDwellClassOf w).val = bits 16 2 ∧
    cuePairOf w = decide (bits 24 1 = 1) ∧ cueTimeOf w = bits 0 16 ∧
    cueCheckOf w = (if bits 31 1 = 1 then some (BitVec.ofNat 16 (bits 0 16)) else none) ∧
    (commitMarkerOf w).toNat = bits 24 8 ∧ (hostSequenceOf w).toNat = bits 16 8 ∧
    (cueTagOf w).toNat = bits 0 16) ∧
  (∀ en : ByteEnables, en.isAll = true ↔ en = { b3 := true, b2 := true, b1 := true, b0 := true }) ∧
  (∀ (n : SlotNo) (w7 : Word) (s : State), cueKindOf (s.cueShadow n 0) = some .notice →
    s.commitCheck (some .notice) (cueBufferOf (s.cueShadow n 0)) = none →
    (cueCheckOf (s.cueShadow n 3)).isSome = true → s.table.verifying.isSome = true →
    (s.judgeCommit n w7).table.verifying = none ∧ (s.judgeCommit n w7).bus = verifyGivenUp s.bus) ∧
  (∀ (r : TxRecord) (s : State),
    Ending r .ok s → r.verdict = .watch → r.window = .cue → r.governed = true → s.governor = .running →
    let done := ((closedAs s r .ok).onBus fun b => { b with port := none }).onCues fun c => { c with noted := [] }
    Runs (.forwardedBurstEnd .ok) s fun t =>
      Follows (s.cues.noted.foldl (fun u q =>
        if q.enables.isAll = true ∧ commitMarkerOf q.word = 0x5C#8 then u.judgeCommit q.slot q.word else u)
        done) t) ∧
  ∀ (n : SlotNo) (w7 : Word) (en : ByteEnables) (r : TxRecord) (s : State),
    Ending r .ok s → r.verdict = .watch → r.window = .cue → r.governed = true → s.governor = .running →
    s.cues.noted = [{ slot := n, word := w7, enables := en }] →
    let w0 := s.cueShadow n 0
    let k := cueBufferOf w0
    let done := ((closedAs s r .ok).onBus fun b => { b with port := none }).onCues fun c => { c with noted := [] }
    let listed := fun c : CueUnit =>
      if (s.slot n).listed then c.writeBack else c.writeBack ++ [n]
    let judged := en.isAll = true ∧ commitMarkerOf w7 = 0x5C#8
    let notice := (∃ e ∈ s.cues.queue, e.kind = .notice) ∨ s.bufferState noticeBuffer = .showing
    let refusal : Option Reason :=
      match cueKindOf w0 with
      | none => some .badKind
      | some .frame =>
        if k = 7 then some .badBuffer else if s.bufferState k ≠ .filling then some .bufferState
        else if 8 ≤ s.cues.queue.length then some .queueFull else none
      | some .notice =>
        if k ≠ 7 then some .badBuffer else if notice then some .noticeActive
        else if s.bufferState k ≠ .filling then some .bufferState
        else if 8 ≤ s.cues.queue.length then some .queueFull else none
      | some .blank => if 8 ≤ s.cues.queue.length then some .queueFull else none
      | some .withdraw => if notice then none else some .noNotice
    (¬ judged → Runs (.forwardedBurstEnd .ok) s fun t => Follows done t) ∧
    (∀ reason, judged → refusal = some reason →
      Runs (.forwardedBurstEnd .ok) s fun t => Follows (done.onCues fun c =>
        { c with
          slots := c.slots.set n
            { state := .closing, kind := cueKindOf w0, buffer := keptBuffer (cueKindOf w0) k
              hostSequence := hostSequenceOf w7, cueTag := cueTagOf w7, outcome := some .rejected
              reason := some reason, showStamp := none
              endStamp := some { clock := s.clockNow, duration := 0 }
              shownTime := 0, noticeTime := none, listed := true }
          writeBack := listed c }) t) ∧
    (∀ kind, judged → refusal = none → cueKindOf w0 = some kind → kind ≠ .withdraw →
      let buffer := if kind = .blank then none else some k
      let entry : QueueEntry :=
        { slot := n, kind := kind, buffer := buffer, dwellClass := cueDwellClassOf w0, pair := cuePairOf w0
          holdOff := cueTimeOf (s.cueShadow n 1), lifetime := cueTimeOf (s.cueShadow n 2)
          expected := if kind = .blank then none else cueCheckOf (s.cueShadow n 3) }
      Runs (.forwardedBurstEnd .ok) s fun t =>
        t.cues.queue = (if kind = .notice then entry :: s.cues.queue else s.cues.queue ++ [entry]) ∧
        (t.slot n).state = .pending ∧ (t.slot n).kind = some kind ∧ (t.slot n).buffer = buffer ∧
        (t.slot n).hostSequence = hostSequenceOf w7 ∧ (t.slot n).cueTag = cueTagOf w7 ∧
        (t.slot n).outcome = none ∧
        (∀ j, buffer = some j → (t.table.records.get j).slot = some n ∧
          t.bufferState j = if entry.expected.isSome then .verifying else .staged) ∧
        (∀ j, buffer ≠ some j → t.bufferState j = s.bufferState j) ∧
        (∀ m, m ≠ n → { t.slot m with listed := (s.slot m).listed } = s.slot m) ∧
        (∀ x, kind = .notice → entry.expected = some x →
          t.table.verifying = some { buffer := 7, expected := x, wordsRead := 0, running := 0xFFFF#16 } ∧
          (s.table.verifying.isSome = true → VerifyGivenUp done t)) ∧
        (kind ≠ .notice ∨ entry.expected = none → VerifyStands done t))

/-- R54, R63: a WITHDRAW that is accepted closes as DONE. A queued notice is withdrawn and takes B7 to a sweep;
a showing notice has its end pending. Both slots take their end stamps, and the notice's stands in the
write-back list before the WITHDRAW's own. R45: a verify of the withdrawn notice's buffer is given up, any
other goes on; that the waited-grant count returns to 0 with its request, whatever the commit raises next, is
the model's reading (log 36). -/
def Obligations.CommitWithdraws : Prop :=
  (∀ (n : SlotNo) (w7 : Word) (e : QueueEntry) (w : VerifyWork) (s : State),
    cueKindOf (s.cueShadow n 0) = some .withdraw →
    s.cues.queue.find? (fun q => q.kind == .notice) = some e → s.table.verifying = some w →
    (e.buffer = some w.buffer →
      (s.judgeCommit n w7).table.verifying = none ∧ (s.judgeCommit n w7).bus = verifyGivenUp s.bus) ∧
    (e.buffer ≠ some w.buffer →
      (s.judgeCommit n w7).table.verifying = some w ∧ (s.judgeCommit n w7).bus = s.bus)) ∧
  ∀ (n : SlotNo) (w7 : Word) (r : TxRecord) (s : State),
    Ending r .ok s → r.verdict = .watch → r.window = .cue → r.governed = true → s.governor = .running →
    s.cues.noted = [{ slot := n, word := w7, enables := ByteEnables.all }] →
    commitMarkerOf w7 = 0x5C#8 → cueKindOf (s.cueShadow n 0) = some .withdraw →
    let done := fun t : State => (t.slot n).state = .closing ∧ (t.slot n).outcome = some .done ∧
      (t.slot n).showStamp = none ∧ (t.slot n).endStamp = some { clock := s.clockNow, duration := 0 }
    (∀ e, s.cues.queue.find? (fun q => q.kind == .notice) = some e → e.slot ≠ n →
      Runs (.forwardedBurstEnd .ok) s fun t =>
        done t ∧ (t.slot e.slot).state = .closing ∧ (t.slot e.slot).outcome = some .withdrawn ∧
        (t.slot e.slot).showStamp = (s.slot e.slot).showStamp ∧
        (t.slot e.slot).endStamp = endsNow s e.slot ∧ WriteBackListIs t (listedAfter s [e.slot, n]) ∧
        t.cues.queue = s.cues.queue.filter (fun q => q.slot != e.slot) ∧
        t.face.showing = s.face.showing ∧ t.face.noticeEnd = s.face.noticeEnd ∧
        (∀ k, e.buffer = some k → (s.bufferState k = .verifying ∨ s.bufferState k = .staged) →
          t.bufferState k = if k = 7 then .wiping else .retiring) ∧
        ∀ w, s.table.verifying = some w →
          (e.buffer = some w.buffer →
            VerifyGivenUp (s.onBus fun b => { b with port := none }) t) ∧
          (e.buffer ≠ some w.buffer → VerifyStands (s.onBus fun b => { b with port := none }) t)) ∧
    (s.cues.queue.find? (fun q => q.kind == .notice) = none → s.bufferState noticeBuffer = .showing →
      Runs (.forwardedBurstEnd .ok) s fun t =>
        done t ∧ WriteBackListIs t (listedAfter s [n]) ∧ t.face.noticeEnd = true ∧
        t.face.showing = s.face.showing ∧ t.cues.queue = s.cues.queue ∧
        ∀ k, t.bufferState k = s.bufferState k)

/-- R193: the bits of the report words. R132 to R140, R146 to R149, R166 to R168: a report is made as its
write ends OK. One out of place raises REPORT_MISPLACED; one of the refresh still open is held; any other is
judged against the history of its tile: filed as the last report, its events weighed in their order with the
records they raise, its OVERTEMP bit deciding the derate flag; a test report judges the Tile test's attempt
instead. A word 3 with an enable off makes none, and a burst that brought several makes them in the order they
came, which is address order. That a test which ends here keeps its wait count is the model's choice (log 38).
-/
def Obligations.ReportMade : Prop :=
  (∀ w0 w1 w2 w3 : Word,
    let p := reportOf w0 w1 w2 w3
    let bits := fun (w : Word) (low width : Nat) => w.toNat / 2 ^ low % 2 ^ width
    p.tile.toNat = bits w0 8 8 ∧ p.sequence.toNat = bits w0 0 8 ∧ p.crc.toNat = bits w1 0 16 ∧
    p.dark.toNat = bits w2 16 12 ∧ p.temperature.toNat = bits w2 0 8 ∧
    p.overtemp = decide (bits w3 0 1 = 1) ∧ p.supplyLow = decide (bits w3 1 1 = 1) ∧
    p.linkLost = decide (bits w3 2 1 = 1)) ∧
  (∀ (r : TxRecord) (s : State),
    Ending r .ok s → r.verdict = .watch → r.window = .report → r.governed = true → s.governor = .running →
    let done := ((closedAs s r .ok).onBus fun b => { b with port := none }).onScan fun u => { u with noted := [] }
    Runs (.forwardedBurstEnd .ok) s fun t =>
      Follows (s.scan.noted.foldl (fun u q =>
        if q.enables.isAll = true then u.makeReport q.slot q.word else u) done) t) ∧
  (∀ (i : TileNo) (w3 : Word) (s : State),
    let p := reportOf (s.reportShadow i 0) (s.reportShadow i 1) (s.reportShadow i 2) w3
    let misplaced := p.tile.toNat ≠ i.val ∨ s.tileCount ≤ i.val
    (misplaced → s.makeReport i w3 = s.onFaults fun f =>
      f.join (s.faultRecord .reportMisplaced (some i) (p.tile.setWidth 16))) ∧
    (¬ misplaced → s.scan.openRefresh = some p.sequence →
      s.makeReport i w3 = s.onTile i fun q => { q with scan := { q.scan with held := some p } }) ∧
    (¬ misplaced → s.scan.openRefresh ≠ some p.sequence → s.makeReport i w3 = s.judgeReport i p)) ∧
  ∀ (i : TileNo) (p : Report) (s : State),
    let c := comparisonOf (s.tile i).scan.history p
    let t := s.judgeReport i p
    (t.tile i).scan.silence = 0 ∧ (t.tile i).scan.history = (s.tile i).scan.history ∧
    Unchanged [.tiles, .faults, .test, .link] s t ∧
    (∀ j, j ≠ i → (t.tile j).counter = (s.tile j).counter ∧ (t.tile j).state = (s.tile j).state ∧
      (t.tile j).scan = (s.tile j).scan) ∧
    -- an ordinary report
    (s.test.names i p.sequence = false →
      let w := weighedReport s.settings (s.tile i) p c
      let heat := if p.overtemp = true ∧ (s.tile i).derate = false then
          [s.faultRecord .tileOvertemp (some i) (p.temperature.setWidth 16 - 64#16)]
        else []
      let records := weighedRecords s i w
      (t.tile i).scan.last = some (lastOf p c) ∧ (t.tile i).derate = p.overtemp ∧
      (t.tile i).state = w.state ∧ (t.tile i).counter = w.counter ∧ t.test = s.test ∧ t.link = s.link ∧
      ((s.tile i).state = .faulted ∨ w.state ≠ .faulted →
        t.faults = (records ++ heat).foldl FaultUnit.join s.faults) ∧
      ((s.tile i).state ≠ .faulted → w.state = .faulted →
        t.faults.faultedCount = s.faults.faultedCount + 1 ∧
        (s.faults.queue.length ≤ 28 → ∃ face, t.faults.queue = s.faults.queue ++ records ++ face ++ heat))) ∧
    -- a test report
    (s.test.names i p.sequence = true →
      let current := s.test.sequence = some p.sequence ∧ (s.test.phase = .sending ∨ s.test.phase = .awaiting)
      let result : AttemptResult :=
        if c = .matched then (if p.dark.toNat ≤ s.settings.darkLimit then .pass else .dark)
        else if c = .mismatch then .mismatch else if c = .notCompared then .incomplete else .stale
      let judged := { s.test with lastMatched := some (c == Comparison.matched), lastDark := some p.dark
                                  lastResult := some result }
      let ended := fun o : TestOutcome =>
        { judged with outcome := o, phase := .none, named := [], sequence := none }
      (t.tile i).scan.last = some (lastOf p .test) ∧ (t.tile i).derate = (s.tile i).derate ∧
      (¬ current → t.test = s.test) ∧
      (current → result = .pass → t.test = ended .passed ∧
        t.link = { s.link with status := { s.link.status with state := .done, error := .none } } ∧
        ((s.tile i).state = .faulted → (t.tile i).state = .lit ∧ (t.tile i).counter = 0 ∧
          t.faults.faultedCount = s.faults.faultedCount - 1 ∧
          (s.faults.queue.length < 32 → ∃ rest, t.faults.queue = s.faults.queue ++
            s.faultRecord .tileRecovered (some i) 2 :: rest))) ∧
      (current → result ≠ .pass → s.test.used < s.test.requested.getD 0 →
        t.test = { judged with phase := .due, sequence := none, wait := 0 }) ∧
      (current → result ≠ .pass → s.test.requested.getD 0 ≤ s.test.used → t.test = ended .failedAttempts ∧
        t.link = { s.link with status := { s.link.status with state := .failed, error := .testFailed } } ∧
        (t.tile i).state = .faulted ∧ (t.tile i).counter = 255 ∧
        ((s.tile i).state ≠ .faulted → t.faults.faultedCount = s.faults.faultedCount + 1 ∧
          (s.faults.queue.length < 32 → ∃ rest, t.faults.queue = s.faults.queue ++
            s.faultRecord .tileFaulted (some i) 255 :: rest))) ∧
      (¬ current ∨ (result ≠ .pass ∧ s.test.used < s.test.requested.getD 0) → t.link = s.link) ∧
      (¬ current ∨ (result = .pass ∧ (s.tile i).state ≠ .faulted) ∨
          (result ≠ .pass ∧ s.test.used < s.test.requested.getD 0) →
        t.faults = s.faults ∧ (t.tile i).state = (s.tile i).state ∧
          (t.tile i).counter = (s.tile i).counter))

/-- R129, R134, R139: at a refresh start the report a tile in use holds is judged after that tile's refresh is
closed, against the history with the entry just made, and before the Tile test's step; the silence count then
rises from 0. A held test report is filed as TEST and hands its tile nothing. A tile that holds none is not
judged. Only a test that ends here moves its tile besides (O30). That a silence count of 1 stands where the
report timeout is 1, until the row SILENT is taken, is the model's reading (log 2, 31). -/
def Obligations.HeldReportsJudged : Prop :=
  ∀ (p : Presented) (s : State), Takes p s → s.startsRefresh p = true →
    Runs (.transactionTake (some p)) s fun t => ∀ i,
      let untested := s.test.runs = false ∨ s.test.tile ≠ some i ∨ t.test.outcome = .inProgress
      (∀ h, i.val < s.tileCount → (s.tile i).scan.held = some h →
        let c := comparisonOf (closedHistory s i) h
        let w := weighedReport s.settings (s.tile i) h c
        (t.tile i).scan.held = none ∧ (t.tile i).scan.history = closedHistory s i ∧
        (t.tile i).scan.silence = 1 ∧
        (s.test.names i h.sequence = false →
          (t.tile i).scan.last = some (lastOf h c) ∧ (t.tile i).derate = h.overtemp ∧
          (untested → (t.tile i).state = w.state ∧ (t.tile i).counter = w.counter)) ∧
        (s.test.names i h.sequence = true →
          (t.tile i).scan.last = some (lastOf h .test) ∧ (t.tile i).derate = (s.tile i).derate ∧
          (untested → (t.tile i).state = (s.tile i).state ∧ (t.tile i).counter = (s.tile i).counter))) ∧
      ((s.tile i).scan.held = none ∨ s.tileCount ≤ i.val →
        (t.tile i).scan.held = (s.tile i).scan.held ∧ (t.tile i).scan.last = (s.tile i).scan.last ∧
        (t.tile i).derate = (s.tile i).derate ∧
        (untested → (t.tile i).state = (s.tile i).state ∧ (t.tile i).counter = (s.tile i).counter))

/-- R129, R134, R164 to R168: the Tile test at a refresh start. A held report that echoes the current attempt is
judged before the test's step: a pass ends the test, and no attempt begins; any other result begins the next
attempt at this same refresh start, or ends the test where none is left. With no such report a DUE attempt
begins; a test refresh just closed is awaited, or ends its attempt INCOMPLETE; a wait rises; and a wait at the
report timeout leaves its expiry due as a row of its own (log 2, 31). That a test which ends here keeps its
wait count is the model's choice (log 38). -/
def Obligations.TestStepsAtRefreshStart : Prop :=
  ∀ (p : Presented) (i : TileNo) (s : State), Takes p s → s.startsRefresh p = true →
    s.test.outcome = .inProgress → s.test.tile = some i →
    let seq := s.face.sequence + 1
    let named := s.test.named.filter (· != seq)
    let begun := fun u : TestRecord =>
      { u with used := u.used + 1, sequence := some seq, named := named ++ [seq]
               level := some (1023 * s.tiles.gain / 1024), phase := .sending }
    let ended := fun (u : TestRecord) (o : TestOutcome) =>
      { u with outcome := o, phase := .none, named := [], sequence := none }
    let incomplete := ∃ q, s.test.sequence = some q ∧
      ∃ e, (closedHistory s i).find? (fun h => h.sequence == q) = some e ∧ e.complete = false
    let awaited := { s.test with named := named, phase := .awaiting, wait := 1 }
    let left := s.test.used < s.test.requested.getD 0
    let echoes := fun h : Report => i.val < s.tileCount ∧ (s.tile i).scan.held = some h ∧
      h.sequence ∈ s.test.named ∧ s.test.sequence = some h.sequence ∧
      (s.test.phase = .sending ∨ s.test.phase = .awaiting)
    let failed := fun t : State => (t.tile i).state = .faulted ∧ (t.tile i).counter = 255 ∧
      t.link = { s.link with status := { s.link.status with state := .failed, error := .testFailed } }
    Runs (.transactionTake (some p)) s fun t =>
      (∀ h, echoes h →
        let c := comparisonOf (closedHistory s i) h
        let result : AttemptResult :=
          if c = .matched then (if h.dark.toNat ≤ s.settings.darkLimit then .pass else .dark)
          else if c = .mismatch then .mismatch else if c = .notCompared then .incomplete else .stale
        let judged := { s.test with lastMatched := some (c == Comparison.matched), lastDark := some h.dark
                                    lastResult := some result }
        (result = .pass → t.test = ended judged .passed ∧
          t.link = { s.link with status := { s.link.status with state := .done, error := .none } } ∧
          (if (s.tile i).state = .faulted then (t.tile i).state = .lit ∧ (t.tile i).counter = 0
           else (t.tile i).state = (s.tile i).state ∧ (t.tile i).counter = (s.tile i).counter)) ∧
        (result ≠ .pass → left → t.test = begun { judged with wait := 0 }) ∧
        (result ≠ .pass → ¬ left → t.test = ended judged .failedAttempts ∧ failed t)) ∧
      ((∀ h, ¬ echoes h) →
        (s.test.phase = .due → t.test = begun s.test) ∧
        (s.test.phase = .sending → ¬ incomplete → t.test = awaited) ∧
        (s.test.phase = .sending → incomplete → left →
          t.test = begun { s.test with lastResult := some .incomplete, wait := 0 }) ∧
        (s.test.phase = .sending → incomplete → ¬ left →
          t.test = ended { awaited with lastResult := some .incomplete } .failedAttempts ∧ failed t) ∧
        (s.test.phase = .awaiting →
          t.test = { s.test with named := named, wait := min 255 (s.test.wait + 1) })) ∧
      (.testWaitExpiry ∈ t.due ↔ t.test.outcome = .inProgress ∧ t.test.phase = .awaiting ∧
        s.settings.reportTimeout ≤ t.test.wait) ∧
      (t.test.outcome = .inProgress → t.link = s.link)

/-- R194: the three words of a result, with their codes. R30, R65: the end of a write-back burst. One that
carried a final outcome closes its slot and frees the buffer that waited for it, also where the memory failed
it, which raises RESULT_LOST; one that carried an interim outcome leaves the slot. That a slot which closes
keeps no outcome and no kind is the model's choice (log 21). -/
def Obligations.WriteBackBurstEnds : Prop :=
  (∀ r : SlotRecord,
    let clock := fun c : Option Nat => (BitVec.ofNat 17 (c.getD 0x1FFFE))
    let shown := r.showStamp.map fun e => (e.sequence, clock e.clock)
    let ends := (r.endStamp.map fun e => clock e.clock).getD 0x1FFFF#17
    ∃ w4 w5 w6 : Word,
      resultWords r = [w4, w5, w6].map (fun w => { word := w, enables := ByteEnables.all }) ∧
      w4.extractLsb' 28 4 = ((r.outcome.map CueOutcome.code).getD 0) ∧
      w4.extractLsb' 24 4 = ((r.reason.map Reason.code).getD 0) ∧
      w4.extractLsb' 16 8 = r.hostSequence ∧ w4.extractLsb' 0 16 = r.cueTag ∧
      w5.extractLsb' 24 8 = ((shown.map Prod.fst).getD 0) ∧ w5.getLsbD 23 = ends.getLsbD 16 ∧
      w5.extractLsb' 17 6 = 0#6 ∧ w5.extractLsb' 0 17 = ((shown.map Prod.snd).getD 0x1FFFF#17) ∧
      w6.extractLsb' 16 16 = BitVec.ofNat 16 ((r.endStamp.map EndStamp.duration).getD 0) ∧
      w6.extractLsb' 0 16 = ends.extractLsb' 0 16) ∧
  [CueOutcome.onFace, .suspended, .retired, .rejected, .expired, .cancelled, .withdrawn, .noticeEnded,
    .done].map CueOutcome.code = [1, 2, 3, 4, 5, 6, 7, 8, 9] ∧
  [Reason.badKind, .badBuffer, .bufferState, .noticeActive, .noNotice, .queueFull, .contentMismatch,
    .memoryError].map Reason.code = [1, 2, 3, 4, 5, 6, 7, 8] ∧
  ∀ (st : MemStatus) (p : Burst) (n : SlotNo) (s : State), OwnEnding .writeBack p s → p.serves = some n →
    Runs (.writeBackBurstEnd st) s fun t =>
      (st = .ok → t.faults = s.faults) ∧ (st = .error → Offered s t .resultLost none (natItem n.val)) ∧
      t.tiles = s.tiles ∧ t.link = s.link ∧ t.cues.queue = s.cues.queue ∧
      (∀ m, m ≠ n → { t.slot m with listed := (s.slot m).listed } = s.slot m) ∧
      (p.carriesFinal = true → (s.slot n).state = .closing →
        (t.slot n).state = .empty ∧ (t.slot n).outcome = none ∧ (t.slot n).kind = none) ∧
      (p.carriesFinal = true → ∀ k, s.bufferState k = .retiring →
        (s.table.records.get k).slot = some n →
        t.bufferState k = .free ∧ (t.table.records.get k).slot = none) ∧
      (p.carriesFinal = false → { t.slot n with listed := (s.slot n).listed } = s.slot n ∧
        ∀ k, t.bufferState k = s.bufferState k) ∧
      ∀ k, (s.bufferState k ≠ .retiring ∨ (s.table.records.get k).slot ≠ some n) →
        t.bufferState k = s.bufferState k

/-- R37, R38: the end of a wipe burst: sixteen words further, or the buffer FREE as its last words are
written, or OUT_OF_USE with WIPE_FAILED where the memory failed it. -/
def Obligations.WipeBurstEnds : Prop :=
  ∀ (p : Burst) (k : BufferNo) (s : State), OwnEnding .wipe p s → s.table.sweeping = some k →
    let progress := (s.table.records.get k).progress
    let served := s.link.status.code = Service.wipeBuffer.code ∧ s.link.status.state = .inProgress ∧
      s.link.handed.p1 = natItem k.val
    (progress + 16 < s.settings.layout.faceWords → Runs (.wipeBurstEnd .ok) s fun t =>
      Follows ((s.onBus fun b => { b with port := none }).onBuffer k fun q =>
        { q with progress := progress + 16 }) t) ∧
    (s.settings.layout.faceWords ≤ progress + 16 → Runs (.wipeBurstEnd .ok) s fun t =>
      t.bufferState k = .free ∧ (t.table.records.get k).slot = none ∧ t.faults = s.faults ∧
      (∀ j, j ≠ k → t.bufferState j = s.bufferState j) ∧
      (served → t.link = { s.link with status := { s.link.status with state := .done, error := .none } }) ∧
      (¬ served → t.link = s.link)) ∧
    Runs (.wipeBurstEnd .error) s fun t =>
      t.bufferState k = .outOfUse ∧ (t.table.records.get k).progress = 0 ∧
      Offered s t .wipeFailed none (natItem k.val) ∧
      (∀ j, j ≠ k → t.bufferState j = s.bufferState j) ∧
      (served →
        t.link = { s.link with status := { s.link.status with state := .failed, error := .memoryError } }) ∧
      (¬ served → t.link = s.link)

/-- R1: the CRC-16, a bit at a time, with a worked value. R42 to R44, R60: the end of a verify burst: the
words enter the running CRC; after the last the buffer is STAGED, or its cue is rejected with
CONTENT_MISMATCH; an error rejects it with MEMORY_ERROR. A rejected cue leaves the queue, and its buffer goes
back to FILLING, or B7 to a sweep where the gate is closed. -/
def Obligations.VerifyBurstEnds : Prop :=
  let step := fun (c : Half) (b : Bool) => (c <<< 1) ^^^ (if c.msb = b then 0#16 else 0x1021#16)
  (∀ c w, crc16Word c w = (List.range 32).foldl (fun c i => step c (w.getLsbD (31 - i))) c) ∧
  (∀ c ws, crc16Words c ws = ws.foldl crc16Word c) ∧
  crc16Words 0xFFFF#16 [0x31323334#32, 0x35363738#32] = 0xA12B#16 ∧
  ∀ (p : Burst) (v : VerifyWork) (ws : List Word) (s : State), OwnEnding .verify p s →
    s.table.verifying = some v → ws.length = 16 →
    let crc := crc16Words v.running ws
    let record := s.table.records.get v.buffer
    let rejected := fun (reason : Reason) (last : Option Half) (t : State) =>
      t.bufferState v.buffer = (if v.buffer = 7 ∧ s.table.gate = .closed then .wiping else .filling) ∧
      (t.table.records.get v.buffer).slot = none ∧ (t.table.records.get v.buffer).lastCrc = last ∧
      ∀ n, record.slot = some n → (t.slot n).state = .closing ∧ (t.slot n).outcome = some .rejected ∧
        (t.slot n).reason = some reason ∧ t.cues.queue = s.cues.queue.filter (fun e => e.slot != n)
    (v.wordsRead + 16 < s.settings.layout.faceWords → Runs (.verifyBurstEnd .ok ws) s fun t =>
      Follows ((s.onBus fun b => { b with port := none }).onTable fun b =>
        { b with verifying := some { v with wordsRead := v.wordsRead + 16, running := crc } }) t) ∧
    (s.settings.layout.faceWords ≤ v.wordsRead + 16 → crc = v.expected →
      Runs (.verifyBurstEnd .ok ws) s fun t =>
        t.bufferState v.buffer = .staged ∧ (t.table.records.get v.buffer).lastCrc = some crc ∧
        t.cues.queue = s.cues.queue) ∧
    (s.settings.layout.faceWords ≤ v.wordsRead + 16 → crc ≠ v.expected →
      Runs (.verifyBurstEnd .ok ws) s (rejected .contentMismatch (some crc))) ∧
    ∀ any, Runs (.verifyBurstEnd .error any) s (rejected .memoryError none)

/-- R15: the result of an own burst whose engine has given its work up is discarded; an end of a burst
that is not in flight is nothing (log 4). -/
def Obligations.DiscardedOwnBurstsEnd : Prop :=
  ∀ (c : Instr) (e : Engine) (s : State), Quiet s →
    ((e = .writeBack ∧ ∃ st, c = .writeBackBurstEnd st) ∨ (e = .wipe ∧ ∃ st, c = .wipeBurstEnd st) ∨
      (e = .verify ∧ ∃ st ws, c = .verifyBurstEnd st ws ∧ c.wellFormed = true)) →
    (∀ p, s.bus.port = some p → p.source = .own e → p.discarded = true →
      Runs c s fun t => Follows (s.onBus fun b => { b with port := none }) t) ∧
    ((∀ p, s.bus.port = some p → p.source ≠ .own e) → exec c s = .next s)

/-- R15, R36, R37, R41, R42, R64: what the engines choose and ask for. An idle wipe engine takes the
lowest-numbered WIPING buffer from its first word, an idle verify engine the VERIFYING buffer whose cue
stands nearest the head; an engine with no request and no burst in flight raises the next: words 4 to 6 of
the slot at the head of the write-back list, the next 16 words of the sweep, the next 16 of the verify. -/
def Obligations.EnginesChooseAndRequest : Prop :=
  ∀ s : State,
    let t := s.prepare
    let l := s.settings.layout
    Unchanged [.bus, .table] s t ∧
    t.bus = { s.bus with writeBackReq := t.bus.writeBackReq, wipeReq := t.bus.wipeReq
                         verifyReq := t.bus.verifyReq } ∧
    t.table.gate = s.table.gate ∧
    (∀ k, s.table.sweeping = some k → t.table.sweeping = some k ∧ t.table.records = s.table.records) ∧
    (s.table.sweeping = none →
      (∀ k, t.table.sweeping = some k ↔ s.bufferState k = .wiping ∧ ∀ j, j < k → s.bufferState j ≠ .wiping) ∧
      ∀ k, t.table.records.get k =
        if t.table.sweeping = some k then { s.table.records.get k with progress := 0 }
        else s.table.records.get k) ∧
    (∀ w, s.table.verifying = some w → t.table.verifying = some w) ∧
    (s.table.verifying = none →
      (∀ before e rest k x, s.cues.queue = before ++ e :: rest → (∀ q ∈ before, ¬ WaitsForVerify s q) →
        e.buffer = some k → e.expected = some x → s.bufferState k = .verifying →
        t.table.verifying = some { buffer := k, expected := x, wordsRead := 0, running := 0xFFFF#16 }) ∧
      ((∀ e ∈ s.cues.queue, ¬ WaitsForVerify s e) → t.table.verifying = none)) ∧
    (∀ q, s.bus.writeBackReq = some q → t.bus.writeBackReq = some q) ∧
    (∀ q, s.bus.wipeReq = some q → t.bus.wipeReq = some q) ∧
    (∀ q, s.bus.verifyReq = some q → t.bus.verifyReq = some q) ∧
    (s.bus.writeBackReq = none →
      ((s.bus.inFlight .writeBack = true ∨ s.cues.writeBack = []) → t.bus.writeBackReq = none) ∧
      ∀ n rest, s.bus.inFlight .writeBack = false → s.cues.writeBack = n :: rest →
        t.bus.writeBackReq = some (writeBackRequest l n)) ∧
    (s.bus.wipeReq = none →
      ((s.bus.inFlight .wipe = true ∨ t.table.sweeping = none) → t.bus.wipeReq = none) ∧
      ∀ k, s.bus.inFlight .wipe = false → t.table.sweeping = some k →
        t.bus.wipeReq = some (wipeRequest l k (t.table.records.get k).progress)) ∧
    (s.bus.verifyReq = none →
      ((s.bus.inFlight .verify = true ∨ t.table.verifying = none) → t.bus.verifyReq = none) ∧
      ∀ w, s.bus.inFlight .verify = false → t.table.verifying = some w →
        t.bus.verifyReq = some (verifyRequest l w))

/-- R15 to R18: what the arbiter does. Where the memory port is free the guard's claim or the take of a
transaction held comes due (rows of their own, log 2); else the highest-ranked pending request is granted, a
write-back taking its words from the slot as it stands (R64, R194). So it is after the end of every burst. A
forwarded grant made while an own request pends raises the waited-grant count, to 8 at most. The guard's grant
goes to the highest-ranked request and returns the count to 0. A transaction held is taken, as one newly
presented is, where the port is ready. -/
def Obligations.ArbiterGrants : Prop :=
  (∀ s : State,
    let waits := s.bus.presented.isSome = true ∧ s.bus.upstream = none ∧ s.lines.fbrst = false
    (s.lines.rstn = true ∨ s.bus.port.isSome = true → s.arbitrate = s) ∧
    (s.lines.rstn = false → s.bus.port = none →
      (s.bus.guardClaims = true → s.arbitrate = s.addDue .guardClaim) ∧
      (s.bus.guardClaims = false → waits → s.arbitrate = s.addDue .takePresented) ∧
      (s.bus.guardClaims = false → ¬ waits →
        (∀ r n rest, s.bus.writeBackReq = some r → s.cues.writeBack = n :: rest →
          s.arbitrate = writeBackGranted s r n rest) ∧
        (∀ r, s.bus.writeBackReq = none → s.bus.wipeReq = some r → s.arbitrate = s.onBus fun b =>
          { b with port := some r.burst, wipeReq := none, waited := 0 }) ∧
        (∀ r, s.bus.writeBackReq = none → s.bus.wipeReq = none → s.bus.verifyReq = some r →
          s.arbitrate = s.onBus fun b => { b with port := some r.burst, verifyReq := none, waited := 0 }) ∧
        (s.bus.anyRequest = false → s.arbitrate = s)))) ∧
  (∀ (s : State) (e : DueEvent), (s.addDue e).due = if e ∈ s.due then s.due else s.due ++ [e]) ∧
  (∀ r : OwnRequest, r.burst =
    { source := .own r.engine, direction := r.direction, address := r.address, length := r.length
      data := r.data, discarded := false, serves := none, carriesFinal := false }) ∧
  (∀ (c : Instr) (b : Burst) (s : State), Quiet s → EnginesSettled s → s.bus.port = some b →
    c.wellFormed = true →
    ((b.source = .forwarded ∧ ∃ st, c = .forwardedBurstEnd st ∧
        ∀ r, s.bus.upstream = some r → b.discarded = true ∨ r.endsEarly st = false) ∨
      (b.source = .own .writeBack ∧ ∃ st, c = .writeBackBurstEnd st) ∨
      (b.source = .own .wipe ∧ ∃ st, c = .wipeBurstEnd st) ∨
      (b.source = .own .verify ∧ ∃ st ws, c = .verifyBurstEnd st ws)) →
    Runs c s PortServed) ∧
  (∀ (p : Presented) (s : State), Takes p s → s.startsRefresh p = false →
    Runs (.transactionTake (some p)) s fun t =>
      (∀ b, t.bus.port = some b → b.source = .forwarded →
        t.bus.waited = if t.bus.anyRequest then min 8 (s.bus.waited + 1) else s.bus.waited) ∧
      ((∀ b, t.bus.port = some b → b.source ≠ .forwarded) → t.bus.waited ≤ s.bus.waited)) ∧
  (∀ s : State, Due .guardClaim s → s.bus.port = none → s.bus.guardClaims = true →
    (∀ r n rest, s.bus.writeBackReq = some r → s.cues.writeBack = n :: rest →
      Runs .starvationGuardClaim s fun t =>
        t = writeBackGranted (s.dropDue .guardClaim) r n rest) ∧
    (∀ r, s.bus.writeBackReq = none → s.bus.wipeReq = some r →
      exec .starvationGuardClaim s = .next ((s.dropDue .guardClaim).onBus fun b =>
        { b with port := some r.burst, wipeReq := none, waited := 0 })) ∧
    (∀ r, s.bus.writeBackReq = none → s.bus.wipeReq = none → s.bus.verifyReq = some r →
      exec .starvationGuardClaim s = .next ((s.dropDue .guardClaim).onBus fun b =>
        { b with port := some r.burst, verifyReq := none, waited := 0 }))) ∧
  ∀ (p : Presented) (s : State), s.lines.rstn = false → s.due = [.takePresented] →
    s.bus.presented = some p → p.wellFormed = true → s.portReady = true →
    exec (.transactionTake none) s = exec (.transactionTake (some p))
      ((s.onDue fun _ => []).onBus fun b => { b with presented := none })

/-! ## Time, the counts that end, and the sensors (03 to 07, 09) -/

/-- R57 to R59, R61, R72, R82, R85, R91, R99: one decisecond step of every count. A count at its last step
stands, and its end comes due as a row of its own (log 2); nothing else comes due. That a channel with no
steps left begins its first window at this step is the model's reading (log 13). -/
def Obligations.DecisecondStepsEveryCount : Prop :=
  (∀ s : State, Quiet s → Runs .decisecondStep s fun t =>
    let down := fun n : Nat => if n ≤ 1 then n else n - 1
    Unchanged [.due, .cues, .face, .light] s t ∧
    t.cues = { s.cues with queue := t.cues.queue, slots := t.cues.slots } ∧
    t.cues.queue = s.cues.queue.map (fun e =>
      { e with holdOff := down e.holdOff
               lifetime := if e.kind = .notice then e.lifetime else down e.lifetime }) ∧
    (∀ n, t.slot n =
      { s.slot n with
        noticeTime := if (s.slot n).state = .active then (s.slot n).noticeTime.map down
          else (s.slot n).noticeTime
        shownTime := if (s.slot n).state = .active ∧ s.face.showing.slot = some n then
          min 65535 ((s.slot n).shownTime + 1) else (s.slot n).shownTime }) ∧
    t.face =
      { s.face with
        dwell := match s.face.dwell with
          | .counting n => .counting (down n)
          | d => d
        pairWait := match s.face.pairWait with
          | .counting n => .counting (down n)
          | w => w
        stallCount := if s.governor = .running then min 65535 (s.face.stallCount + 1)
          else s.face.stallCount } ∧
    t.light = { s.light with channelA := t.channel .a, channelB := t.channel .b
                             tick := if s.light.tick = 9 then 0 else s.light.tick + 1 } ∧
    ∀ ch, t.channel ch =
      (if (s.channel ch).state = .off then s.channel ch
       else if (s.channel ch).left = 0 then
        { s.channel ch with window := (s.settings.channel ch).gate, left := (s.settings.channel ch).gate
                            pulses := 0 }
       else { s.channel ch with left := down (s.channel ch).left })) ∧
  ∀ s : State, Quiet s → Runs .decisecondStep s fun t =>
    (∀ n, .holdOffEnd n ∈ t.due ↔ ∃ e ∈ s.cues.queue, e.slot = n ∧ e.holdOff = 1) ∧
    (∀ n, .cueExpiry n ∈ t.due ↔
      ∃ e ∈ s.cues.queue, e.slot = n ∧ e.kind ≠ .notice ∧ e.lifetime = 1) ∧
    (∀ n, .noticeTimeEnd n ∈ t.due ↔ (s.slot n).state = .active ∧ (s.slot n).noticeTime = some 1) ∧
    (.dwellMet ∈ t.due ↔ s.face.dwell = .counting 1) ∧
    (.pairWaitExpiry ∈ t.due ↔ s.face.pairWait = .counting 1) ∧
    (.scanStall ∈ t.due ↔ s.governor = .running ∧ s.face.stalled = false ∧
      s.settings.stallLimit ≤ min 65535 (s.face.stallCount + 1)) ∧
    (∀ ch, .gateWindowEnd ch ∈ t.due ↔ (s.channel ch).state ≠ .off ∧ (s.channel ch).left = 1) ∧
    (.secondStep ∈ t.due ↔ s.light.tick = 9) ∧
    .guardClaim ∉ t.due ∧ .takePresented ∉ t.due ∧ .testWaitExpiry ∉ t.due ∧
    .noticeGateTimeout ∉ t.due ∧ ∀ i, .silent i ∉ t.due


/-- R57, R58, R59: the end of a hold-off, a cue's expiry, and the end of a notice's time. R15, R17, R45: the
expiry gives up the verify of the cue's buffer, whose burst in flight runs on discarded; any other verify and
any other burst goes on. That the waited-grant count returns to 0 also where the expired cue's result raises a
request in its place is the model's reading (log 36). -/
def Obligations.CueCountsEnd : Prop :=
  (∀ (n : SlotNo) (s : State), Due (.holdOffEnd n) s → Runs (.holdOffEnd n) s fun t =>
    Follows ((s.dropDue (.holdOffEnd n)).onCues fun c =>
      { c with queue := c.queue.map fun e =>
          if e.slot = n ∧ e.holdOff = 1 then { e with holdOff := 0 } else e }) t) ∧
  (∀ (n : SlotNo) (e : QueueEntry) (s : State), Due (.cueExpiry n) s →
    s.cues.queue.find? (fun q => q.slot == n) = some e → e.kind ≠ .notice → e.lifetime = 1 →
    Runs (.cueExpiry n) s fun t =>
      t.cues.queue = s.cues.queue.filter (fun q => q.slot != n) ∧
      (t.slot n).state = .closing ∧ (t.slot n).outcome = some .expired ∧ (t.slot n).reason = none ∧
      (t.slot n).showStamp = (s.slot n).showStamp ∧
      (t.slot n).endStamp = some { clock := s.clockNow, duration := (s.slot n).shownTime } ∧
      (∀ m, m ≠ n → { t.slot m with listed := (s.slot m).listed } = s.slot m) ∧
      (∀ k, e.buffer = some k → k ≠ 7 →
        (s.bufferState k = .verifying ∨ s.bufferState k = .staged) → t.bufferState k = .retiring) ∧
      (∀ k, e.buffer ≠ some k → t.bufferState k = s.bufferState k) ∧
      (∀ b, s.bus.port = some b → b.source ≠ .own .verify → t.bus.port = some b) ∧
      ∀ w, s.table.verifying = some w →
        (e.buffer = some w.buffer → VerifyGivenUp s t ∧
          (s.bus.port.isSome = true → t.bus.waited = (verifyGivenUp s.bus).waited)) ∧
        (e.buffer ≠ some w.buffer → VerifyStands s t)) ∧
  ∀ (n : SlotNo) (s : State), Due (.noticeTimeEnd n) s → (s.slot n).state = .active →
    (s.slot n).noticeTime = some 1 → Runs (.noticeTimeEnd n) s fun t =>
      Unchanged [.due, .cues, .face] s t ∧ (t.slot n).noticeTime = some 0 ∧
      t.cues.queue = s.cues.queue ∧ (∀ m, m ≠ n → t.slot m = s.slot m) ∧
      t.face = { s.face with noticeEnd := s.noticeShowing || s.face.noticeEnd }

/-- R72, R82, R85, R169: the dwell timer becomes MET; the pair-wait timer EXPIRED with PAIR_SKEW; a stalled
scan raises SCAN_STALL once and ends a tile test that runs. -/
def Obligations.ShowTimersEnd : Prop :=
  (∀ s : State, Due .dwellMet s → s.face.dwell = .counting 1 → Runs .dwellMet s fun t =>
    Follows ((s.dropDue .dwellMet).onFace fun f => { f with dwell := .met }) t) ∧
  (∀ s : State, Due .pairWaitExpiry s → s.face.pairWait = .counting 1 →
    exec .pairWaitExpiry s =
      .next (((s.dropDue .pairWaitExpiry).onFace fun f => { f with pairWait := .expired }).onFaults
        fun f => f.join (s.faultRecord .pairSkew none (optNatItem (s.headSlot.map Fin.val))))) ∧
  ∀ s : State, Due .scanStall s → s.governor = .running → s.face.stalled = false →
    s.settings.stallLimit ≤ s.face.stallCount → Runs .scanStall s fun t =>
      Unchanged [.due, .face, .faults, .link, .test] s t ∧ t.face = { s.face with stalled := true } ∧
      Offered s t .scanStall none (natItem s.face.stallCount) ∧
      (s.test.outcome ≠ .inProgress → t.test = s.test ∧ t.link = s.link) ∧
      (s.test.outcome = .inProgress →
        t.test = { s.test with outcome := .failedStall, phase := .none, named := [], sequence := none } ∧
        t.link = { s.link with
          status := { s.link.status with state := .failed, error := .scanStall } })

/-- R140, R146, R148: a tile that has been silent for the report timeout counts SILENT, its silence count
returns to 0, and its state is evaluated: the state by the two limits, TILE_SUSPECT on the way up,
TILE_FAULTED and the faulted count at the entry into FAULTED. -/
def Obligations.SilentCountsAndEvaluates : Prop :=
  (∀ (i : TileNo) (s : State), Due (.silent i) s → i.val < s.tileCount →
    s.settings.reportTimeout ≤ (s.tile i).scan.silence → Runs (.silent i) s fun t =>
      (t.tile i).scan = { (s.tile i).scan with silence := 0 } ∧
      (t.tile i).counter = (if (s.tile i).state = .faulted then (s.tile i).counter
        else min 255 ((s.tile i).counter + s.settings.weightSilent)) ∧
      (∀ j, j ≠ i → (t.tile j).counter = (s.tile j).counter ∧ (t.tile j).state = (s.tile j).state ∧
        (t.tile j).scan = (s.tile j).scan) ∧
      Unchanged [.due, .tiles, .faults] s t) ∧
  ∀ (i : TileNo) (s : State), Due (.silent i) s → i.val < s.tileCount →
    s.settings.reportTimeout ≤ (s.tile i).scan.silence → (s.tile i).state ≠ .faulted →
    let count := min 255 ((s.tile i).counter + s.settings.weightSilent)
    Runs (.silent i) s fun t =>
      (s.settings.faultLimit ≤ count → (t.tile i).state = .faulted ∧
        t.faults.faultedCount = s.faults.faultedCount + 1 ∧
        (s.faults.queue.length < 32 → ∃ rest, t.faults.queue = s.faults.queue ++
          s.faultRecord .tileFaulted (some i) (natItem count) :: rest) ∧
        (32 ≤ s.faults.queue.length → t.faults.queue = s.faults.queue ∧
          min 255 (s.faults.overflow + 1) ≤ t.faults.overflow) ∧
        (s.settings.tileBlank = true → s.governor = .running → (t.tile i).applied = 0)) ∧
      (count < s.settings.faultLimit → s.settings.suspectLimit ≤ count →
        (t.tile i).state = .suspect ∧
        ((s.tile i).state = .lit → Offered s t .tileSuspect (some i) (natItem count)) ∧
        ((s.tile i).state = .suspect → t.faults = s.faults)) ∧
      (count < s.settings.faultLimit → count < s.settings.suspectLimit →
        (t.tile i).state = .lit ∧ t.faults = s.faults)

/-- R164, R167, R168: a wait that reaches the report timeout ends its attempt NO_ECHO. With attempts left
the next begins at once; else the test has failed, its tile is FAULTED at 255 and its service ends. That
the failed test keeps its wait count is the model's choice (log 38). -/
def Obligations.TestWaitExpires : Prop :=
  ∀ (i : TileNo) (s : State), Due .testWaitExpiry s → s.test.outcome = .inProgress →
    s.test.phase = .awaiting → s.settings.reportTimeout ≤ s.test.wait → s.test.tile = some i →
    (s.test.used < s.test.requested.getD 0 → exec .testWaitExpiry s =
      .next ((s.dropDue .testWaitExpiry).onTest fun u =>
        { u with lastResult := some .noEcho, used := u.used + 1, sequence := some s.face.sequence
                 named := u.named ++ [s.face.sequence], level := some (1023 * s.tiles.gain / 1024)
                 phase := .sending, wait := 0 })) ∧
    (s.test.requested.getD 0 ≤ s.test.used → Runs .testWaitExpiry s fun t =>
      t.test = { s.test with lastResult := some .noEcho, outcome := .failedAttempts, phase := .none
                             named := [], sequence := none } ∧
      (t.tile i).state = .faulted ∧ (t.tile i).counter = 255 ∧
      t.link = { s.link with
        status := { s.link.status with state := .failed, error := .testFailed } } ∧
      ((s.tile i).state = .faulted → t.faults = s.faults) ∧
      ∀ j, j ≠ i → (t.tile j).counter = (s.tile j).counter ∧ (t.tile j).state = (s.tile j).state)

/-- R35, R100, R101, R106, R34: a second step advances the clock of day and the gate's countdown, and the
gate whose countdown ends closes; a B7 still FILLING is then owed a sweep. That the gate stands at its last
step until its timeout, due as a row of its own, is taken is the model's reading of time (log 2). -/
def Obligations.SecondStepAdvances : Prop :=
  (∀ s : State, Due .secondStep s → Runs .secondStep s fun t =>
    t.light.clock = (if s.light.clock.seconds = 86399 then
        { s.light.clock with
          seconds := 0, day := if s.light.clock.day = 6 then 0 else s.light.clock.day + 1 }
      else { s.light.clock with seconds := s.light.clock.seconds + 1 }) ∧
    t.light.ceiling = t.bandCeiling ∧ t.light.gain = t.gainUnder t.bandCeiling ∧
    Unchanged [.due, .table, .light, .tiles] s t ∧ t.table.records = s.table.records ∧
    (∀ n, s.table.gate = .opened n → 1 < n → t.table.gate = .opened (n - 1)) ∧
    (∀ n, s.table.gate = .opened n → n ≤ 1 →
      t.table.gate = s.table.gate ∧ .noticeGateTimeout ∈ t.due) ∧
    (s.table.gate = .closed → t.table.gate = .closed)) ∧
  ∀ (n : Nat) (s : State), Due .noticeGateTimeout s → s.table.gate = .opened n → n ≤ 1 →
    Runs .noticeGateTimeout s fun t =>
      t.table.gate = .closed ∧
      t.bufferState noticeBuffer = (if s.bufferState noticeBuffer = .filling then .wiping
        else s.bufferState noticeBuffer) ∧
      ∀ k, k ≠ noticeBuffer → t.bufferState k = s.bufferState k

/-- R102 to R104: the band in force is the enabled band of today, started already, that started latest; of
two that started together, the one with the lower number. Its ceiling, fallback and minimum dwell stand,
or the default band's; while the clock is UNSET, the unset ceiling with the default band's other two. -/
def Obligations.BandInForceIsLatest : Prop :=
  ∀ s : State,
    (s.light.clock.isSet = false → s.bandInForce = .unset) ∧
    (s.light.clock.isSet = true →
      let plays := fun b : BandNo =>
        (s.settings.bands.get b).enabled = true ∧
        (s.settings.bands.get b).days.getLsbD s.light.clock.day = true ∧
        (s.settings.bands.get b).start ≤ s.light.clock.seconds
      (∀ b, s.bandInForce = .band b ↔ plays b ∧ ∀ c, plays c → c ≠ b →
        (s.settings.bands.get c).start < (s.settings.bands.get b).start ∨
        ((s.settings.bands.get c).start = (s.settings.bands.get b).start ∧ b < c)) ∧
      (s.bandInForce = .default ↔ ∀ b, ¬ plays b)) ∧
    (∀ b, s.bandInForce = .band b → s.bandCeiling = (s.settings.bands.get b).ceiling ∧
      s.bandFallback = (s.settings.bands.get b).fallback ∧
      s.bandMinDwell = (s.settings.bands.get b).minDwell) ∧
    ((∀ b, s.bandInForce ≠ .band b) → s.bandFallback = s.settings.defaultFallback ∧
      s.bandMinDwell = s.settings.defaultMinDwell ∧
      s.bandCeiling = if s.light.clock.isSet then s.settings.defaultCeiling else s.settings.unsetCeiling)

/-- R105: curve(L) is the gain of the first point whose threshold is at or above L, else of point 15, with
the figures of the example curve. R98, R106: L is the larger of the GOOD channels' levels, and Fg is the
least of C and curve(L), or of C and the fallback where L is absent; the curve is then not consulted. A
written point recomputes C and Fg at once. -/
def Obligations.CurveTakesFirstPoint : Prop :=
  (∀ (curve : Table CurvePoint 16) (level : Nat),
    (∀ p : PointNo, level ≤ (curve.get p).threshold →
      (∀ q : PointNo, q < p → (curve.get q).threshold < level) →
      curveGain curve level = (curve.get p).gain) ∧
    ((∀ p : PointNo, (curve.get p).threshold < level) → curveGain curve level = (curve.get 15).gain)) ∧
  (∀ s : State,
    let f := fun ch : Channel => if (s.channel ch).state = .good then (s.channel ch).level else none
    (∀ x y, f .a = some x → f .b = some y → s.combinedLevel = some (max x y)) ∧
    (∀ x, f .a = some x → f .b = none → s.combinedLevel = some x) ∧
    (∀ y, f .a = none → f .b = some y → s.combinedLevel = some y) ∧
    (f .a = none → f .b = none → s.combinedLevel = none) ∧
    ∀ c, (∀ l, s.combinedLevel = some l → s.gainUnder c = min (curveGain s.settings.curve l) c) ∧
      (s.combinedLevel = none → s.gainUnder c = min s.bandFallback c)) ∧
  (∀ (p : PointNo) (field : CurveField) (d : Half) (s : State), Quiet s →
    d.toNat ≤ (match field with | .threshold => 4095 | .gain => 1024) →
    Runs (.curvePointWrite p field d) s fun t =>
      t.settings.curve.get p = (match field with
        | .threshold => { s.settings.curve.get p with threshold := d.toNat }
        | .gain => { s.settings.curve.get p with gain := d.toNat }) ∧
      (∀ q, q ≠ p → t.settings.curve.get q = s.settings.curve.get q) ∧
      t.light.ceiling = t.bandCeiling ∧ t.light.gain = t.gainUnder t.bandCeiling) ∧
  let shown : Table CurvePoint 16 :=
    ⟨[⟨50, 96⟩, ⟨200, 160⟩, ⟨500, 256⟩, ⟨1000, 384⟩, ⟨1500, 512⟩, ⟨2000, 640⟩, ⟨2500, 768⟩, ⟨3000, 896⟩,
      ⟨3500, 960⟩] ++ List.replicate 7 ⟨4095, 1024⟩, rfl⟩
  curveGain shown 140 = 160 ∧ curveGain shown 840 = 384 ∧ curveGain shown 1380 = 512 ∧
    curveGain shown 3000 = 896 ∧ curveGain shown 4000 = 1024

/-- R91, R93 to R97: what a window's end makes of its channel. The count is captured and classed, the next
window begins, and C and Fg are recomputed. -/
def Obligations.GateWindowEnds : Prop :=
  ∀ (ch : Channel) (s : State), Due (.gateWindowEnd ch) s → (s.channel ch).state ≠ .off →
    (s.channel ch).left = 1 →
    let r := s.channel ch
    let c := s.settings.channel ch
    let q := r.pulses / r.window
    let raw := min 4095 q
    let dark := if q = 0 then min 255 (r.darkRun + 1) else 0
    let clip := if 4095 < q then min 255 (r.clipRun + 1) else 0
    let after := fun (st : ChannelState) (level : Option Nat) (jump : Nat) =>
      { r with state := st, window := c.gate, left := c.gate, pulses := 0, raw := some raw
               last := some (if q = 0 then .dark else if q ≤ 4095 then .inRange else .clipped)
               level := level, jumpRun := jump, darkRun := dark, clipRun := clip }
    let ends := fun (result : ChannelRecord) (record : Option FaultKind) =>
      Runs (.gateWindowEnd ch) s fun t =>
        t.channel ch = result ∧ Unchanged [.due, .light, .tiles, .faults] s t ∧
        t.light.clock = s.light.clock ∧ t.light.tick = s.light.tick ∧
        (∀ other, other ≠ ch → t.channel other = s.channel other) ∧
        t.light.ceiling = t.bandCeiling ∧ t.light.gain = t.gainUnder t.bandCeiling ∧
        (record = none → t.faults = s.faults) ∧
        ∀ k, record = some k → Offered s t k none (channelDetail ch)
    let dies := c.dead ≤ dark ∧ r.state ≠ .dead
    let floods := c.saturation ≤ clip ∧ r.state ≠ .saturated
    let inRange := 1 ≤ q ∧ q ≤ 4095
    (dies → ends (after .dead none 0) (some .sensorDead)) ∧
    (¬ dies → floods → ends (after .saturated none 0) (some .sensorSaturated)) ∧
    (¬ dies → ¬ floods → r.state = .starting → inRange → ends (after .good (some raw) 0) none) ∧
    (¬ dies → ¬ floods → r.state = .dead ∨ r.state = .saturated → inRange →
      ends (after .good (some raw) 0) (some .sensorRecovered)) ∧
    (¬ dies → ¬ floods → r.state ≠ .good → ¬ inRange → ends (after r.state r.level r.jumpRun) none) ∧
    (∀ f, ¬ dies → ¬ floods → r.state = .good → r.level = some f →
      let filtered := ((f : Int) + ((raw : Int) - (f : Int)).tdiv (2 ^ c.shift : Nat)).toNat
      (max f raw - min f raw ≤ c.jump → ends (after .good (some filtered) 0) none) ∧
      (c.jump < max f raw - min f raw → r.jumpRun < 2 →
        ends (after .good (some filtered) (r.jumpRun + 1)) none) ∧
      (c.jump < max f raw - min f raw → 2 ≤ r.jumpRun → ends (after .good (some raw) 0) none))

/-- R95, R96: the rows JUMP, SENSOR_DEAD and SENSOR_SATURATED are the window ends that do so (log 12): a
jump sets F to raw with the jump run at 0, a dead or saturated channel loses its level and raises its
record. -/
def Obligations.SensorChangesAreWindowEnds : Prop :=
  ∀ (ch : Channel) (s : State), Due (.gateWindowEnd ch) s → (s.channel ch).state ≠ .off →
    (s.channel ch).left = 1 →
    let r := s.channel ch
    let c := s.settings.channel ch
    let q := r.pulses / r.window
    let raw := min 4095 q
    let dies := q = 0 ∧ c.dead ≤ min 255 (r.darkRun + 1)
    let floods := 4095 < q ∧ c.saturation ≤ min 255 (r.clipRun + 1)
    (0 < c.dead → 0 < c.saturation → ∀ f, r.state = .good → r.level = some f → ¬ dies → ¬ floods →
      2 ≤ r.jumpRun → c.jump < max f raw - min f raw → Runs (.jump ch) s fun t =>
        (t.channel ch).state = .good ∧ (t.channel ch).level = some raw ∧
        (t.channel ch).jumpRun = 0 ∧ t.faults = s.faults) ∧
    (r.state ≠ .dead → dies → Runs (.sensorDead ch) s fun t =>
      (t.channel ch).state = .dead ∧ (t.channel ch).level = none ∧ (t.channel ch).jumpRun = 0 ∧
      Offered s t .sensorDead none (channelDetail ch)) ∧
    (0 < c.dead → r.state ≠ .saturated → floods → Runs (.sensorSaturated ch) s fun t =>
      (t.channel ch).state = .saturated ∧ (t.channel ch).level = none ∧ (t.channel ch).jumpRun = 0 ∧
      Offered s t .sensorSaturated none (channelDetail ch)) ∧
    (exec (.jump ch) s = exec (.gateWindowEnd ch) s ∨ exec (.jump ch) s = .next s) ∧
    (exec (.sensorDead ch) s = exec (.gateWindowEnd ch) s ∨ exec (.sensorDead ch) s = .next s) ∧
    (exec (.sensorSaturated ch) s = exec (.gateWindowEnd ch) s ∨ exec (.sensorSaturated ch) s = .next s)

/-- R91, R92: a pulse counts in a window that has begun, and is ignored by a channel that is OFF; that no
pulse counts before the first window is the model's reading (log 13). R80, R81: PARTNER seen high sets the
latch of a handshake that waits, and stops its timer; otherwise only the line's level moves, which the row
carries, high or low (log 8). R80 to R83: a handshake ends with its conditions or its head; where the
conditions hold SWAPRDY rises, with the latch set where PARTNER is high already, else with the pair-wait
timer loaded, of which no step is due. The dwell timer and the hold-off that end start one so. -/
def Obligations.InputEdgesCountAndLatch : Prop :=
  (∀ (ch : Channel) (s : State), Quiet s → Runs (.luxPulse ch) s fun t =>
    Unchanged [.light] s t ∧
    t.light = s.light.setChannel ch (t.channel ch) ∧
    t.channel ch = (if (s.channel ch).state = .off ∨ (s.channel ch).left = 0 then s.channel ch
      else { s.channel ch with pulses := min 65535 ((s.channel ch).pulses + 1) })) ∧
  (∀ (level : Bool) (s : State), Quiet s →
    let lined := s.onLines fun l => { l with partner := level }
    (∀ n, level = true → s.face.swapReady = true → s.face.latch = false →
      s.face.pairWait = .counting n →
      exec (.partnerRise level) s =
        .next (lined.onFace fun f => { f with latch := true, pairWait := .idle })) ∧
    ((level = false ∨ s.face.swapReady = false ∨ s.face.latch = true ∨
        ∀ n, s.face.pairWait ≠ .counting n) →
      exec (.partnerRise level) s = .next lined)) ∧
  (∀ (before : Option SlotNo) (s : State),
    let t := s.settlePair before
    let ends := s.handshakeWanted = false ∨ s.headSlot ≠ before
    (s.face.swapReady = true → ¬ ends → t = s) ∧
    (s.face.swapReady = false → s.handshakeWanted = false → t = s) ∧
    (s.face.swapReady = true → s.handshakeWanted = false →
      t = s.onFace fun f => { f with swapReady := false, latch := false, pairWait := .idle }) ∧
    ((s.face.swapReady = false ∨ ends) → s.handshakeWanted = true →
      t = (s.onDue fun es => es.filter (· != .pairWaitExpiry)).onFace fun f =>
        { f with swapReady := true, latch := s.lines.partner
                 pairWait := if s.lines.partner then .idle else .counting s.settings.pairWait })) ∧
  ∀ (c : Instr) (n : SlotNo) (e : QueueEntry) (rest : List QueueEntry) (s : State),
    s.settings.pairsel = .paired → s.governor = .running → s.face.swapReady = false →
    s.cues.queue = e :: rest → e.pair = true →
    ((c = .dwellMet ∧ Due .dwellMet s ∧ s.face.dwell = .counting 1 ∧ e.isFrameOrBlank = true ∧
        s.eligible e = true) ∨
      (c = .holdOffEnd n ∧ Due (.holdOffEnd n) s ∧ s.face.dwell = .met ∧ e.slot = n ∧ e.holdOff = 1 ∧
        (e.kind = .blank ∨ (e.kind = .frame ∧ ∃ k, e.buffer = some k ∧ s.bufferState k = .staged)))) →
    Runs c s fun t => t.face.swapReady = true ∧ t.face.latch = s.lines.partner ∧
      t.face.pairWait = if s.lines.partner then .idle else .counting s.settings.pairWait

/-! ## The reset lines (01 R21, R23; 11 R192) -/

/-- R21, R31, R66, R83, R88: the upstream reset. The transaction is abandoned, a forwarded burst runs on with
its result thrown away, every queued cue is cancelled, and buffers being filled or waiting to show go back;
the verify of a queued cue's buffer is given up, its burst in flight discarded (R45). Everything else of the
device stands; so does the waited-grant count while the memory port is held and a request pends, which is the
model's reading (log 36), and so do the last word delivered and the last record closed, which the model keeps
to show the port (log 30). While RSTN is asserted the line moves, and its assertion drops a transaction
presented and not taken (log 18). The release only lets the port take again (R18), a held take coming due as a
row of its own (log 2); a line that stands so already stands (log 4). -/
def Obligations.UpstreamResetAndRelease : Prop :=
  (∀ s : State, Quiet s → s.lines.fbrst = false → Runs .upstreamReset s fun t =>
    Unchanged [.due, .lines, .bus, .table, .cues, .face, .scan] s t ∧
    t.lines = { s.lines with fbrst := true } ∧ t.bus.presented = none ∧ t.bus.upstream = none ∧
    (s.bus.port.isSome = true → t.bus.waited = if t.bus.anyRequest then s.bus.waited else 0) ∧
    t.bus.errorMark = s.bus.errorMark ∧ t.bus.delivered = s.bus.delivered ∧ t.bus.closed = s.bus.closed ∧
    (∀ p, s.bus.port = some p → p.source = .forwarded → s.bus.upstream.isSome = true →
      ∃ u, t.bus.port = some u ∧ u.source = .forwarded ∧ u.discarded = true ∧ u.address = p.address ∧
        ∀ r, s.bus.upstream = some r →
          u.length = if r.direction = .write then r.wordsDone else p.length) ∧
    (∀ p e, s.bus.port = some p → p.source = .own e → e ≠ .verify → t.bus.port = some p) ∧
    (∀ w, s.table.verifying = some w → (∃ e ∈ s.cues.queue, e.buffer = some w.buffer) →
      t.table.verifying = none ∧ VerifyGivenUp s t) ∧
    ((∀ w, s.table.verifying = some w → ∀ e ∈ s.cues.queue, e.buffer ≠ some w.buffer) → VerifyStands s t) ∧
    t.cues.queue = [] ∧ t.cues.noted = [] ∧ t.cues.shadow = s.cues.shadow ∧
    t.scan = { s.scan with noted := [] } ∧
    (∀ e ∈ s.cues.queue, (t.slot e.slot).state = .closing ∧
      (t.slot e.slot).outcome = some .cancelled) ∧
    (∀ n, (∀ e ∈ s.cues.queue, e.slot ≠ n) →
      { t.slot n with listed := (s.slot n).listed } = s.slot n) ∧
    t.face = { s.face with swapReady := t.face.swapReady, latch := t.face.latch
                           pairWait := t.face.pairWait } ∧ t.face.swapReady = false ∧
    t.table.gate = s.table.gate ∧
    (∀ k, s.bufferState k = .filling →
      t.bufferState k = if k = noticeBuffer then .wiping else .free) ∧
    (∀ k, (s.bufferState k = .verifying ∨ s.bufferState k = .staged) →
      (∃ e ∈ s.cues.queue, e.buffer = some k) →
      t.bufferState k = if k = noticeBuffer then .wiping else .retiring) ∧
    ∀ k, s.bufferState k ≠ .filling → s.bufferState k ≠ .verifying → s.bufferState k ≠ .staged →
      t.bufferState k = s.bufferState k) ∧
  (∀ s : State, Quiet s → s.lines.fbrst = true → Runs .upstreamResetRelease s fun t =>
    Follows (s.onLines fun l => { l with fbrst := false }) t ∧
    (s.bus.port = none → s.bus.guardClaims = false → s.bus.presented.isSome = true →
      s.bus.upstream = none → .takePresented ∈ t.due) ∧
    (∀ r, s.bus.port = none → s.bus.guardClaims = false → s.bus.presented = none →
      s.bus.writeBackReq = none → s.bus.wipeReq = some r → t.bus.port = some r.burst)) ∧
  (∀ s : State, Quiet s → s.lines.fbrst = true → exec .upstreamReset s = .next s) ∧
  (∀ s : State, Quiet s → s.lines.fbrst = false → exec .upstreamResetRelease s = .next s) ∧
  ∀ s : State, s.lines.rstn = true →
    (s.lines.fbrst = false → Runs .upstreamReset s fun t =>
      Unchanged [.lines, .bus] s t ∧ t.lines = { s.lines with fbrst := true } ∧
      t.bus = { s.bus with presented := none, upstream := none, port := t.bus.port } ∧
      (s.bus.port = none → t.bus.port = none)) ∧
    (s.lines.fbrst = true → exec .upstreamReset s = .next s) ∧
    exec .upstreamResetRelease s = .next (s.onLines fun l => { l with fbrst := false })

/-- R23, R159, R192: at the assertion of RSTN both ports fall idle and the fault queue and overflow count
are emptied, and a frame in progress on the link is discarded; a transaction presented and not taken stays
held. While it is asserted no command but the lines and a held transaction has an effect (log 18); at its
release every block holds its values after power-on, with PAIRSEL as the strap stands. A release with RSTN
not asserted is nothing (log 4). SWAPRDY and SVDO meanwhile are the model's choice (log 37). -/
def Obligations.PowerOnResets : Prop :=
  (∀ s : State, Quiet s → Runs .powerOnReset s fun t =>
    Unchanged [.lines, .bus, .due, .cues, .scan, .faults, .wires] s t ∧
    t.lines = { s.lines with rstn := true } ∧ t.wires = { s.wires with frame := none, svdo := none } ∧
    t.bus.presented = s.bus.presented ∧ t.bus.upstream = none ∧ t.bus.port = none ∧ t.bus.anyRequest = false ∧
    t.bus.waited = 0 ∧ t.bus.errorMark = false ∧ t.faults.queue = [] ∧ t.faults.overflow = 0 ∧
    t.attn = false) ∧
  (∀ (strap : Strap) (s : State), s.lines.rstn = true → s.bus.presented = none →
    exec (.powerOnRelease strap) s = .next
      (((State.powerOn strap).withPending s.pending).onLines fun _ => { s.lines with rstn := false })) ∧
  (∀ (strap : Strap) (p : Presented) (s : State), s.lines.rstn = true → s.bus.presented = some p →
    Runs (.powerOnRelease strap) s fun t =>
      t.bus = { BusState.powerOn with presented := some p } ∧ t.governor = .setup ∧
      (s.lines.fbrst = false → t.due = [.takePresented])) ∧
  (∀ (strap : Strap) (s : State), s.lines.rstn = false → exec (.powerOnRelease strap) s = .next s) ∧
  (∀ (c : Instr) (s : State), s.lines.rstn = true → c.wellFormed = true →
    (∀ strap, c ≠ .powerOnRelease strap) → (∀ p, c ≠ .transactionTake (some p)) →
    (∀ level, c ≠ .partnerRise level) → c ≠ .upstreamReset → c ≠ .upstreamResetRelease →
    exec c s = .next s) ∧
  ∀ (strap : Strap), (State.powerOn strap).settings.pairsel = strap ∧
    State.powerOn strap = (State.powerOn .alone).onSettings fun g => { g with pairsel := strap }

/-! ## The service link (10, 11) -/

/-- R177, R158: NOP gives OK with data 0. TAKE FAULT takes the oldest record, or the overflow count where
the queue is empty, into the fault window, and answers the window's entry. That such a row
is its whole frame, the lines clocked through and idle after it, is the model's choice (log 19). -/
def Obligations.NopAndTakeFaultAnswer : Prop :=
  ∀ (item data : Half) (s : State), Quiet s →
    (Runs (.nop item data) s fun t => Unchanged [.wires, .link] s t ∧
      t.link = { s.link with response := t.link.response, resetMark := false } ∧
      Answered s t .ok item 0) ∧
    (∀ r rest, s.faults.queue = r :: rest → Runs (.takeFault item data) s fun t =>
      Unchanged [.wires, .link, .faults] s t ∧ t.faults = { s.faults with queue := rest } ∧
      t.link = { s.link with response := t.link.response, resetMark := false, window := .record r } ∧
      Answered s t .ok item (1#8 ++ r.kind.code)) ∧
    (s.faults.queue = [] → Runs (.takeFault item data) s fun t =>
      Unchanged [.wires, .link, .faults] s t ∧ t.faults = { s.faults with overflow := 0 } ∧
      t.link = { s.link with response := t.link.response, resetMark := false
                             window := .overflow s.faults.overflow } ∧
      Answered s t .ok item 0x0200#16)

/-- R176, R184: a READ answers the item's value as it stands and changes nothing, but that a READ of the
reset cause clears RESET_SEEN; an item that does not exist answers NO_ITEM. R178, R179, R182, R183, R186, R187,
R194: the value of every item. That a READ is its whole frame, the lines clocked through and idle after it, is
the model's choice (log 19), and so are the device code and the version, which no rule gives (log 10), and
which window of a pair stands in the higher bits of the layout check's item (log 39). -/
def Obligations.ReadsAnswer : Prop :=
  (∀ (n data : Half) (it : Item) (s : State), Quiet s → itemOf n = some it → Runs (.read n data) s fun t =>
    Unchanged [.wires, .link] s t ∧
    t.link = { s.link with response := t.link.response, resetMark := false
                           resetSeen := s.link.resetSeen && it != Item.status 3 } ∧
    Answered s t .ok n (s.itemValue it)) ∧
  (∀ (n data : Half) (s : State), Quiet s → itemOf n = none → Runs (.read n data) s fun t =>
    Unchanged [.wires, .link] s t ∧
    t.link = { s.link with response := t.link.response, resetMark := false } ∧
    Answered s t .noItem n 0) ∧
  (∀ (data : Half) (s : State), Quiet s → Runs (.resetCauseRead data) s fun t =>
    Unchanged [.wires, .link] s t ∧
    t.link = { s.link with response := t.link.response, resetMark := false, resetSeen := false } ∧
    Answered s t .ok 0x0003#16 s.link.resetCause.code) ∧
  ∀ s : State,
    let values := fun {n : Nat} (item : Fin n → Item) => (List.finRange n).map fun i => s.itemValue (item i)
    let number := BitVec.ofNat 16
    let l := s.settings.layout
    values .status = Config.deviceCode :: Config.version :: statusValues s ∧
    values .layout = [l.tileWidth, l.tileHeight, l.columns, l.rows].map number ++
      [l.faceBase, l.bufferBase, l.cueBase, l.reportBase].flatMap
        (fun base => [base.extractLsb' 16 16, base.extractLsb' 0 16]) ++
      [s.settings.pairsel.code, s.settings.check.code,
        match s.settings.checkWindows with
        | .none => 0
        | .one w => w.code.setWidth 16
        | .two v w => 16 * v.code.setWidth 16 + w.code.setWidth 16] ∧
    (∀ i, s.itemValue (.operating i) = number (s.settings.operating.get i)) ∧
    (∀ q, s.itemValue (.curve q .threshold) = number (s.settings.curve.get q).threshold ∧
      s.itemValue (.curve q .gain) = number (s.settings.curve.get q).gain) ∧
    (∀ b, let r := s.settings.bands.get b
      [BandField.enabled, .startMinute, .startSecond, .days, .ceiling, .fallback, .minDwell].map
        (fun f => s.itemValue (.band b f)) =
          [yesNo r.enabled, number r.startMinute, number r.startSecond, r.days.setWidth 16,
            number r.ceiling, number r.fallback, number r.minDwell]) ∧
    (∀ i, s.itemValue (.trim i) = number (s.tile i).trim) ∧
    values .param = [s.link.params.p1, s.link.params.p2, s.link.params.p3] ∧
    s.itemValue .call = s.link.call.setWidth 16 ∧
    s.itemValue .serviceStatus =
      s.link.status.code ++ s.link.status.state.code ++ s.link.status.error.code ∧
    values .faultWindow = faultWindowValues s.link.window ∧
    values .snapshot = yesNo s.link.snapshot.captured :: s.link.snapshot.items.cells ∧
    s.itemValue .tileSelect = number s.link.tileSelect.val ∧
    values .tileField = tileValues (s.tile s.link.tileSelect) ∧
    (∀ k, values (.bufferField k) = bufferValues (s.table.records.get k)) ∧
    [s.itemValue .gateState, s.itemValue .gateSeconds] =
      (match s.table.gate with
        | .closed => [0, 0]
        | .opened n => [1, number n]) ∧
    values .testField = testValues s.test ∧
    values .testNamed = (List.range 15).map fun i => absentOr (s.test.named[i]?.map BitVec.toNat)

/-- R176, R180, R186, R187: a WRITE that passes every check answers OK with the value the item held, and
the item holds the value written. This covers every row that writes an item (log 20). That
such a row is its whole frame, the lines clocked through and idle after it, is the model's choice (log 19). -/
def Obligations.WritesStore : Prop :=
  ∀ (c : Instr) (it : Item) (d : Half) (s : State), Quiet s → rowWrite c = some (it, d) →
    s.writeRefusal it d = none → Runs c s fun t =>
      t.itemValue it = d ∧ Answered s t .ok (rowNumber c) (s.itemValue it) ∧
      Unchanged [.wires, .link, .settings, .light, .tiles, .faults] s t ∧
      (∀ v, it = .call → d = (Service.code v).setWidth 16 →
        t.link.status = { code := v.code, state := .requested, error := .none } ∧
        t.link.handed = s.link.params) ∧
      (it = .call → knownServiceCode (d.extractLsb' 0 8) = false →
        t.link.status = { code := d.extractLsb' 0 8, state := .failed, error := .unknownService } ∧
        t.link.handed = s.link.handed) ∧
      (it ≠ .call → t.link.status = s.link.status ∧ t.link.handed = s.link.handed)

/-- R176: the checks of a WRITE in their order; a WRITE that fails one leaves the item and answers its value,
and one of an item that does not exist answers NO_ITEM with data 0. R178, R186, R187: the items that are
read-only and the ranges of the others. That such a row is its whole frame, the lines clocked through and idle
after it, is the model's choice (log 19). -/
def Obligations.WritesRefused : Prop :=
  (∀ (it : Item) (v : Half) (s : State),
    s.writeRefusal it v =
      if itemReadOnly it = true then some .readOnly
      else if (∃ i, it = .layout i) ∧ s.governor = .running then some .locked
      else if itemInRange it v.toNat = false then some .range
      else if it = .call ∧ (s.link.status.state = .requested ∨ s.link.status.state = .inProgress) then
        some .busy
      else none) ∧
  (∀ (c : Instr) (it : Item) (d : Half) (o : LinkOutcome) (s : State), Quiet s →
    rowWrite c = some (it, d) → s.writeRefusal it d = some o → Runs c s fun t =>
      Unchanged [.wires, .link] s t ∧
      t.link = { s.link with response := t.link.response, resetMark := false } ∧
      Answered s t o (rowNumber c) (s.itemValue it)) ∧
  (∀ v : Nat, (List.finRange 36).map (fun i => itemInRange (.operating i) v) =
    let channel : List (Nat × Nat) := [(0, 1), (1, 10), (0, 4), (0, 4095), (1, 255), (1, 255)]
    ([(1, 64), (1, 64)] ++ channel ++ channel ++ [(1, 255), (1, 255)] ++ List.replicate 6 (1, 15) ++
      [(0, 1), (0, 128), (0, 4095), (1, 255), (1, 100), (1, 50)] ++ List.replicate 4 (10, 36000) ++
      [(0, 1024), (0, 1024), (0, 1024), (0, 36000)]).map
        fun (r : Nat × Nat) => decide (r.1 ≤ v) && decide (v ≤ r.2)) ∧
  (∀ v : Nat,
    (∀ i : Fin 15, itemInRange (.layout i) v =
      if i.val < 2 then decide (v = 16 ∨ v = 32 ∨ v = 64)
      else if i.val < 4 then decide (1 ≤ v ∧ v ≤ 16) else true) ∧
    (∀ q, itemInRange (.curve q .threshold) v = decide (v ≤ 4095) ∧
      itemInRange (.curve q .gain) v = decide (v ≤ 1024)) ∧
    (∀ b, [BandField.enabled, .startMinute, .startSecond, .days, .ceiling, .fallback, .minDwell].map
      (fun f => itemInRange (.band b f) v) =
        [1, 1439, 59, 127, 1024, 1024, 36000].map fun high => decide (v ≤ high)) ∧
    (∀ i, itemInRange (.trim i) v = decide (v ≤ 1024)) ∧ itemInRange .call v = decide (v ≤ 255) ∧
    itemInRange .tileSelect v = decide (v ≤ 127)) ∧
  (∀ it : Item, itemReadOnly it = true ↔
    match it with
    | .layout i => 12 ≤ i.val
    | .operating _ | .curve _ _ | .band _ _ | .trim _ | .param _ | .call | .tileSelect => False
    | _ => True) ∧
  ∀ (n d : Half) (s : State), Quiet s → itemOf n = none → Runs (.write n d) s fun t =>
    Unchanged [.wires, .link] s t ∧
    t.link = { s.link with response := t.link.response, resetMark := false } ∧
    Answered s t .noItem n 0

/-- R91, R92, R102 to R107: a written channel setting, band field, default, unset ceiling or curve point
recomputes C and Fg at once, and a changed pair is handed to the tiles. A cleared enable takes its channel to
OFF with its window discarded; a set one takes an OFF channel to STARTING. That the channel keeps the length
of the discarded window is the model's choice (log 41). -/
def Obligations.LightWritesRecompute : Prop :=
  (∀ (c : Instr) (it : Item) (d : Half) (s : State), Quiet s → rowWrite c = some (it, d) →
    s.writeRefusal it d = none →
    ((∃ ch, c = .channelEnableWrite ch d) ∨ (∃ ch f, c = .channelSettingWrite ch f d) ∨
      (∃ b f, c = .bandFieldWrite b f d) ∨ (∃ f, c = .defaultBandWrite f d) ∨
      c = .unsetCeilingWrite d ∨ ∃ p f, c = .curvePointWrite p f d) → Runs c s fun t =>
      Unchanged [.wires, .link, .settings, .light, .tiles] s t ∧
      t.light.ceiling = t.bandCeiling ∧ t.light.gain = t.gainUnder t.bandCeiling ∧
      t.light.clock = s.light.clock ∧ t.light.tick = s.light.tick ∧
      t.settings.layout = s.settings.layout ∧
      ((t.light.ceiling = s.light.ceiling ∧ t.light.gain = s.light.gain) → t.tiles = s.tiles) ∧
      (¬ (t.light.ceiling = s.light.ceiling ∧ t.light.gain = s.light.gain) →
        t.tiles.ceiling = t.light.ceiling ∧ t.tiles.gain = t.light.gain) ∧
      ((∀ ch, c ≠ .channelEnableWrite ch d) → ∀ ch, t.channel ch = s.channel ch)) ∧
  ∀ (ch : Channel) (d : Half) (s : State), Quiet s → d.toNat ≤ 1 →
    Runs (.channelEnableWrite ch d) s fun t =>
      (∀ other, other ≠ ch → t.channel other = s.channel other) ∧
      (d = 0 → t.channel ch =
        { s.channel ch with state := .off, left := 0, pulses := 0, raw := none, last := none
                            level := none, jumpRun := 0, darkRun := 0, clipRun := 0 }) ∧
      (d = 1 → t.channel ch =
        if (s.channel ch).state = .off then { s.channel ch with state := .starting } else s.channel ch)

/-- R114, R119, R122, R150, R153, R155, R187: what the written limits, policy, trim and layout do to the
tiles at once. -/
def Obligations.TileWritesAct : Prop :=
  -- the limits: every tile in use that is LIT or SUSPECT is evaluated afresh
  (∀ (l : Limit) (d : Half) (s : State), Quiet s → 1 ≤ d.toNat → d.toNat ≤ 255 →
    Runs (.limitWrite l d) s fun t => ∀ i,
      (t.tile i).counter = (s.tile i).counter ∧
      (t.tile i).state =
        if s.tileCount ≤ i.val ∨ (s.tile i).state = .faulted then (s.tile i).state
        else if t.settings.faultLimit ≤ (s.tile i).counter then .faulted
        else if t.settings.suspectLimit ≤ (s.tile i).counter then .suspect else .lit) ∧
  -- the face fault limit: the reason FAULT_LIMIT stands while the limit is reached
  (∀ (d : Half) (s : State), Quiet s → d.toNat ≤ 128 → Runs (.faceFaultLimitWrite d) s fun t =>
    Unchanged [.wires, .link, .settings, .tiles, .faults] s t ∧
    t.faults.faultedCount = s.faults.faultedCount ∧
    t.faults.reasons =
      { s.faults.reasons with
        faultLimit := decide (d.toNat ≠ 0 ∧ d.toNat ≤ s.faults.faultedCount) } ∧
    (s.blanked = false → t.blanked = true →
      t.faults = { s.faults.join (s.faultRecord .faceBlanked none 2) with reasons := t.faults.reasons } ∧
      (s.governor = .running → ∀ i, i.val < s.tileCount →
        (t.tile i).target = 0 ∧ (t.tile i).applied = 0)) ∧
    (s.blanked = true → t.blanked = false → t.faults =
      { s.faults.join (s.faultRecord .faceUnblanked none 2) with reasons := t.faults.reasons }) ∧
    (s.blanked = t.blanked → t.faults.queue = s.faults.queue ∧ t.tiles = s.tiles)) ∧
  -- the policy: a FAULTED tile is darkened or let ramp up again
  (∀ (d : Half) (s : State), Quiet s → d.toNat ≤ 1 → Runs (.tileBlankPolicyWrite d) s fun t =>
    Unchanged [.wires, .link, .settings, .tiles] s t ∧
    ∀ i, (t.tile i).state = (s.tile i).state ∧ (t.tile i).bound = (s.tile i).bound ∧
      (s.governor = .running → i.val < s.tileCount → s.blanked = false →
        (s.tile i).state = .faulted →
        (d = 1 → (t.tile i).target = 0 ∧ (t.tile i).applied = 0) ∧
        (d = 0 → (t.tile i).target = s.gainContext.base (s.tile i)))) ∧
  -- a trim: that tile's bound and target, and its gain cut to the bound
  (∀ (i : TileNo) (d : Half) (s : State), Quiet s → d.toNat ≤ 1024 → Runs (.trimWrite i d) s fun t =>
    Unchanged [.wires, .link, .tiles] s t ∧ (∀ j, j ≠ i → t.tile j = s.tile j) ∧
    (t.tile i).trim = d.toNat ∧ (t.tile i).bound = s.tiles.ceiling * d.toNat / 1024 ∧
    (t.tile i).target = t.gainContext.target i (t.tile i) ∧
    (t.tile i).applied ≤ (t.tile i).bound ∧ (t.tile i).applied ≤ (s.tile i).applied) ∧
  -- the layout, in SETUP only: the geometry recomputes every target
  ∀ (i : Fin 15) (d : Half) (s : State), Quiet s → s.governor = .setup → i.val < 12 →
    layoutInRange i d.toNat = true → Runs (.layoutWrite i d) s fun t =>
      Unchanged [.wires, .link, .settings, .tiles] s t ∧ t.settings.layout = s.settings.layout.store i d ∧
      (i.val < 4 → ∀ j, (t.tile j).target = 0) ∧ (4 ≤ i.val → t.tiles = s.tiles)

/-- R1: the CRC-8, a bit at a time, with a worked value. R172 to R175, R195: the bits of a response, the edges
of the link's lines and the checks of a frame. A frame begins as SVSEL falls, samples SVDI at each rise of
SVCLK and counts every bit while the first 48 enter the request; SVDO carries the response held, a bit at each
fall, and is released after the 48th and while SVSEL is high, when no edge of SVCLK counts. As SVSEL rises the
frame is judged: a check that fails answers by its own outcome and changes nothing else; a frame that passes
is carried out as its command. That this row carries the edges, those of a sound frame too, is the model's
choice (log 19). -/
def Obligations.FrameChecks : Prop :=
  let edge := fun e : LinkEdge => Instr.frameCheckFailure [] e
  let step := fun (c : Byte) (b : Bool) => (c <<< 1) ^^^ (if c.msb = b then 0#8 else 0x07#8)
  (∀ bytes : BitVec 40, crc8 bytes =
    (List.range 40).foldl (fun c i => step c (bytes.getLsbD (39 - i))) 0xFF#8) ∧
  crc8 0x3132333435#40 = 0xF2#8 ∧
  (∀ r : Response,
    let f := r.frame
    f.extractLsb' 44 4 = r.outcome.code ∧ f.getLsbD 43 = r.flags.faultsWaiting ∧
    f.getLsbD 42 = r.flags.faceBlanked ∧ f.getLsbD 41 = r.flags.clockUnset ∧
    f.getLsbD 40 = r.flags.resetSeen ∧ f.extractLsb' 24 16 = r.item ∧ f.extractLsb' 8 16 = r.data ∧
    f.extractLsb' 0 8 = crc8 (f.extractLsb' 8 40)) ∧
  [LinkOutcome.ok, .crc, .framing, .unknown, .noItem, .readOnly, .locked, .range, .busy, .reset].map
    LinkOutcome.code = [0, 1, 2, 3, 4, 5, 6, 7, 8, 9] ∧
  (∀ (es fs : List LinkEdge) (e f : LinkEdge) (s : State), Quiet s →
    Runs (.frameCheckFailure es e) s fun t =>
      exec (.frameCheckFailure (es ++ e :: fs) f) s = exec (.frameCheckFailure fs f) t) ∧
  (∀ s : State, Quiet s → s.wires.frame = none →
    exec (edge .selectFall) s = .next (s.onWires fun _ =>
      { frame := some { bits := 0, request := 0, place := 0 }
        svdo := some (s.link.response.frame.getMsbD 0), shifted := [] }) ∧
    ∀ e, e ≠ .selectFall → exec (edge e) s = .next s) ∧
  (∀ (f : LinkFrame) (s : State), Quiet s → s.wires.frame = some f →
    exec (edge .selectFall) s = .next s ∧
    (∀ d, exec (edge (.clockRise d)) s = .next (s.onWires fun w =>
      { w with
        frame := some { f with
          bits := f.bits + 1
          request := if f.bits < 48 then (f.request ++ BitVec.ofBool d).setWidth 48 else f.request }
        shifted := w.shifted ++ w.svdo.toList })) ∧
    exec (edge .clockFall) s = .next (s.onWires fun w =>
      { w with
        frame := some { f with place := f.place + 1 }
        svdo := if f.place + 1 < 48 then some (s.link.response.frame.getMsbD (f.place + 1)) else none })) ∧
  (∀ (f : LinkFrame) (s : State), Quiet s → s.wires.frame = some f →
    let command := f.request.extractLsb' 40 8
    let item := f.request.extractLsb' 24 16
    let data := f.request.extractLsb' 8 16
    let sound := f.bits = 48 ∧ crc8 (f.request.extractLsb' 8 40) = f.request.extractLsb' 0 8
    let idle := { s.wires with frame := none, svdo := none }
    let refused := fun (o : LinkOutcome) (n : Half) =>
      Runs (edge .selectRise) s fun t => Unchanged [.wires, .link] s t ∧ t.wires = idle ∧
        t.link = { s.link with response := t.link.response, resetMark := false } ∧ Responded s t o n 0
    let carries := fun c : Instr => ∃ t, exec c s = .next t ∧
      exec (edge .selectRise) s = .next (t.onWires fun _ => idle)
    (f.bits ≠ 48 → refused .framing 0) ∧
    (f.bits = 48 → crc8 (f.request.extractLsb' 8 40) ≠ f.request.extractLsb' 0 8 → refused .crc item) ∧
    (sound → command ≠ 0 → command ≠ 1 → command ≠ 2 → command ≠ 3 → refused .unknown item) ∧
    (sound → command = 0 → carries (.nop item data)) ∧ (sound → command = 1 → carries (.read item data)) ∧
    (sound → command = 2 → carries (.write item data)) ∧
    (sound → command = 3 → carries (.takeFault item data))) ∧
  ∀ (f : BitVec 48) (s : State), Quiet s → s.wires.frame = none →
    crc8 (f.extractLsb' 8 40) = f.extractLsb' 0 8 →
    let item := f.extractLsb' 24 16
    let data := f.extractLsb' 8 16
    let whole := Instr.frameCheckFailure (frameEdges f) .selectRise
    (f.extractLsb' 40 8 = 0#8 → exec whole s = exec (.nop item data) s) ∧
    (f.extractLsb' 40 8 = 1#8 → exec whole s = exec (.read item data) s) ∧
    (f.extractLsb' 40 8 = 2#8 → exec whole s = exec (.write item data) s) ∧
    (f.extractLsb' 40 8 = 3#8 → exec whole s = exec (.takeFault item data) s)

/-- R87, R124, R144, R189, R190: CLOSE SETUP. In RUNNING it changes nothing. In SETUP the first check of the
layout that fails is recorded and fails the service; a layout that passes starts RUNNING. A service row with
no request standing is nothing (log 27). -/
def Obligations.CloseSetupValidates : Prop :=
  (∀ l : Layout,
    let misaligned := fun w : LayoutWindow => w.base l % 1024 ≠ 0
    let wraps := fun w : LayoutWindow => 2 ^ 32 < w.base l + w.size l
    let share := fun v w : LayoutWindow => ∃ a, v.holds l a = true ∧ w.holds l a = true
    let before := fun v w : LayoutWindow => v.code.toNat < w.code.toNat
    let aligned := l.columns * l.rows ≤ 128 ∧ ∀ w, ¬ misaligned w
    (l.check = (.tileCount, .none) ↔ 128 < l.columns * l.rows) ∧
    (∀ w, l.check = (.alignment, .one w) ↔
      l.columns * l.rows ≤ 128 ∧ misaligned w ∧ ∀ v, before v w → ¬ misaligned v) ∧
    (∀ w, l.check = (.wrap, .one w) ↔ aligned ∧ wraps w ∧ ∀ v, before v w → ¬ wraps v) ∧
    (0 < l.faceSize → ∀ v w, l.check = (.overlap, .two v w) ↔
      aligned ∧ (∀ u, ¬ wraps u) ∧ before v w ∧ share v w ∧
      ∀ v' w', before v' w' → share v' w' → before v v' ∨ (v = v' ∧ ¬ before w' w)) ∧
    (0 < l.faceSize → (l.check = (.passed, .none) ↔
      aligned ∧ (∀ w, ¬ wraps w) ∧ ∀ v w, before v w → ¬ share v w))) ∧
  (∀ s : State, Called .closeSetup s → s.governor = .running →
    exec .closeSetup s = .next (s.setService .done .none)) ∧
  (∀ s : State, Called .closeSetup s → s.governor = .setup → s.settings.layout.check.1 ≠ .passed →
    Runs .closeSetup s fun t => Follows ((s.onSettings fun g =>
      { g with check := s.settings.layout.check.1, checkWindows := s.settings.layout.check.2 }).setService
        .failed .layoutInvalid) t) ∧
  (∀ s : State, Called .closeSetup s → s.governor = .setup → s.settings.layout.check.1 = .passed →
    Runs .closeSetup s fun t =>
      t.governor = .running ∧ Ended .closeSetup .done .none t ∧
      t.settings = { s.settings with check := .passed, checkWindows := .none } ∧
      t.face.dwell = .met ∧ t.face.stallCount = 0 ∧ t.face.stalled = false ∧
      t.face.showing = s.face.showing ∧ t.face.sequence = s.face.sequence ∧
      (∀ i, (t.tile i).target = t.gainContext.target i (t.tile i) ∧
        (t.tile i).trim = (s.tile i).trim ∧ (t.tile i).bound = (s.tile i).bound) ∧
      t.scan = s.scan ∧ t.faults = s.faults ∧ t.light = s.light) ∧
  ∀ (c : Instr) (v : Service) (s : State), Quiet s →
    (c, v) ∈ [(Instr.closeSetup, Service.closeSetup), (.restart, .restart), (.setClock, .setClock),
      (.openNoticeGate, .openNoticeGate), (.closeNoticeGate, .closeNoticeGate), (.wipeBuffer, .wipeBuffer),
      (.tileTest, .tileTest), (.clearTile, .clearTile), (.blankFace, .blankFace),
      (.unblankFace, .unblankFace), (.captureSnapshot, .captureSnapshot)] →
    (s.link.status.code ≠ v.code ∨ s.link.status.state ≠ .requested) → exec c s = .next s

/-- R22, R32, R67, R89, R125, R143, R160, R181, R184, R191: RESTART returns the governor to SETUP and each
block to what its own rule says. Trims, the held pair, the shadows, the light, the fault queue and the
settings are kept. That an EMPTY slot holds host sequence 0 and cue tag 0 is the model's choice (log 21), and
the mark by which a transaction in progress is no longer governed is its form of R22 (log 26). -/
def Obligations.RestartReturnsToSetup : Prop :=
  ∀ s : State, Called .restart s → Runs .restart s fun t =>
    t.governor = .setup ∧ Ended .restart .done .none t ∧
    Unchanged [.due, .bus, .table, .cues, .face, .tiles, .scan, .faults, .link, .governor] s t ∧
    t.link = { s.link with resetMark := true, resetSeen := true, resetCause := .restart
                           status := t.link.status } ∧
    t.bus = { s.bus with
      upstream := s.bus.upstream.map fun r => { r with governed := false }
      port := s.bus.port.map fun p => if p.source = .forwarded then p else { p with discarded := true }
      writeBackReq := none, wipeReq := none, verifyReq := none, waited := 0, errorMark := false } ∧
    t.table = BufferTable.powerOn ∧
    t.cues = { s.cues with slots := Table.fill 32 SlotRecord.powerOn, queue := [], writeBack := [] } ∧
    t.face = ShowUnit.powerOn ∧
    (t.tiles.ceiling = s.tiles.ceiling ∧ t.tiles.gain = s.tiles.gain) ∧
    (∀ i, t.tile i =
      { s.tile i with
        derate := false, target := 0, applied := 0, state := .lit, counter := 0
        scan := { running := 0xFFFF#16, delivered := 0, broken := false, history := [], silence := 0
                  held := none, last := none } }) ∧
    t.scan = { s.scan with openRefresh := none } ∧
    t.faults = { s.faults with faultedCount := 0, reasons := { supervisor := false, faultLimit := false } }

/-- R33, R34, R101, R183: SET CLOCK, the two notice gate services and CAPTURE SNAPSHOT, each with its
checks. The snapshot copies its twenty items as they stand; that item 19 is the reason set alone is the model's
reading (log 28). -/
def Obligations.ClockGateAndSnapshotServices : Prop :=
  (∀ s : State, Called .setClock s →
    let bad := 1439 < s.p1 ∨ 59 < s.p2 ∨ 6 < s.p3
    (bad → exec .setClock s = .next (s.setService .failed .badParameter)) ∧
    (¬ bad → Runs .setClock s fun t =>
      t.light.clock = { seconds := s.p1 * 60 + s.p2, day := s.p3, isSet := true } ∧
      t.light.ceiling = t.bandCeiling ∧ t.light.gain = t.gainUnder t.bandCeiling ∧
      t.light.tick = s.light.tick ∧ Ended .setClock .done .none t ∧
      Unchanged [.light, .tiles, .link] s t)) ∧
  (∀ s : State, Called .openNoticeGate s →
    (s.governor = .setup → exec .openNoticeGate s = .next (s.setService .failed .notRunning)) ∧
    (s.governor = .running → s.p1 = 0 ∨ 3600 < s.p1 →
      exec .openNoticeGate s = .next (s.setService .failed .badParameter)) ∧
    (s.governor = .running → 1 ≤ s.p1 → s.p1 ≤ 3600 → exec .openNoticeGate s =
      .next ((s.onTable fun b => { b with gate := .opened s.p1 }).setService .done .none))) ∧
  (∀ s : State, Called .closeNoticeGate s → Runs .closeNoticeGate s fun t =>
    t.table.gate = .closed ∧ Ended .closeNoticeGate .done .none t ∧
    (∀ k, t.bufferState k =
      if k = noticeBuffer ∧ s.bufferState k = .filling ∧ s.table.gate ≠ .closed then .wiping
      else s.bufferState k) ∧
    Unchanged [.due, .bus, .table, .cues, .face, .link] s t) ∧
  ∀ s : State, Called .captureSnapshot s → Runs .captureSnapshot s fun t =>
    Unchanged [.link] s t ∧ t.link = { s.link with snapshot := t.link.snapshot, status := t.link.status } ∧
    Ended .captureSnapshot .done .none t ∧ t.link.snapshot.captured = true ∧
    t.link.snapshot.items.cells = snapshotValues s

/-- R39, R151, R154, R155, R163: WIPE BUFFER, TILE TEST, CLEAR TILE, BLANK FACE and UNBLANK FACE, each with
its checks in order. -/
def Obligations.FaceAndTileServices : Prop :=
  -- in SETUP each fails with NOT_RUNNING and changes nothing else
  (∀ (c : Instr) (v : Service) (s : State), Called v s → s.governor = .setup →
    (c, v) ∈ [(Instr.wipeBuffer, Service.wipeBuffer), (.tileTest, .tileTest), (.clearTile, .clearTile),
      (.blankFace, .blankFace), (.unblankFace, .unblankFace)] →
    exec c s = .next (s.setService .failed .notRunning)) ∧
  (∀ s : State, Called .wipeBuffer s → s.governor = .running →
    (7 < s.p1 → exec .wipeBuffer s = .next (s.setService .failed .badParameter)) ∧
    ∀ k : BufferNo, s.p1 = k.val →
      let wipes := s.bufferState k = .free ∨ s.bufferState k = .filling ∨ s.bufferState k = .outOfUse
      (¬ wipes → exec .wipeBuffer s = .next (s.setService .failed .bufferState)) ∧
      (wipes → Runs .wipeBuffer s fun t => Follows ((s.onBuffer k fun r =>
        { r with state := .wiping, slot := none, progress := 0 }).setService .inProgress .none) t)) ∧
  (∀ s : State, Called .tileTest s → s.governor = .running →
    (s.tileCount ≤ s.p1 ∨ s.p2 = 0 ∨ 15 < s.p2 →
      exec .tileTest s = .next (s.setService .failed .badParameter)) ∧
    ∀ i : TileNo, s.p1 = i.val → i.val < s.tileCount → 1 ≤ s.p2 → s.p2 ≤ 15 → exec .tileTest s =
      .next ((s.onTest fun _ =>
        { tile := some i, requested := some s.p2, used := 0, phase := .due, sequence := none
          level := none, wait := 0, named := [], lastResult := none, lastMatched := none
          lastDark := none, outcome := .inProgress }).setService .inProgress .none)) ∧
  (∀ s : State, Called .clearTile s → s.governor = .running →
    (s.tileCount ≤ s.p1 → exec .clearTile s = .next (s.setService .failed .badParameter)) ∧
    ∀ i : TileNo, s.p1 = i.val → i.val < s.tileCount → Runs .clearTile s fun t =>
      (t.tile i).state = .lit ∧ (t.tile i).counter = 0 ∧ (t.tile i).scan = (s.tile i).scan ∧
      (t.tile i).derate = (s.tile i).derate ∧ Ended .clearTile .done .none t ∧
      Unchanged [.tiles, .faults, .link] s t ∧
      ((s.tile i).state ≠ .faulted → t.faults = s.faults ∧ t.tiles.records.set i (s.tile i) = s.tiles.records) ∧
      ((s.tile i).state = .faulted → t.faults.faultedCount = s.faults.faultedCount - 1 ∧
        (s.faults.queue.length < 32 → ∃ rest, t.faults.queue = s.faults.queue ++
          s.faultRecord .tileRecovered (some i) 1 :: rest))) ∧
  (∀ s : State, Called .blankFace s → s.governor = .running → Runs .blankFace s fun t =>
    t.faults.reasons = { s.faults.reasons with supervisor := true } ∧ Ended .blankFace .done .none t ∧
    Unchanged [.tiles, .faults, .link] s t ∧
    (s.blanked = true → t.faults.queue = s.faults.queue ∧ t.tiles = s.tiles) ∧
    (s.blanked = false →
      t.faults = { s.faults.join (s.faultRecord .faceBlanked none 1) with reasons := t.faults.reasons }) ∧
    (s.blanked = false → ∀ i, i.val < s.tileCount → (t.tile i).target = 0 ∧ (t.tile i).applied = 0)) ∧
  ∀ s : State, Called .unblankFace s → s.governor = .running → Runs .unblankFace s fun t =>
    t.faults.reasons = { s.faults.reasons with supervisor := false } ∧ Ended .unblankFace .done .none t ∧
    Unchanged [.tiles, .faults, .link] s t ∧
    (s.faults.reasons.supervisor = false ∨ s.faults.reasons.faultLimit = true →
      t.faults.queue = s.faults.queue ∧ t.tiles = s.tiles) ∧
    (s.faults.reasons = { supervisor := true, faultLimit := false } →
      t.faults = { s.faults.join (s.faultRecord .faceUnblanked none 1) with reasons := t.faults.reasons } ∧
      ∀ i, (t.tile i).target = t.gainContext.target i (t.tile i))

end
end

