-- ==== Sys2Proof/Laws/State.lean ====
section
/-! SUPPORT. What each named update of the state leaves in each block, true by rfl. -/

namespace Sys2Proof.Machine

variable (s : State)


/-! ### onDue -/

@[simp] theorem State.onDue_pending (f : List DueEvent → List DueEvent) : (s.onDue f).pending = s.pending := rfl
@[simp] theorem State.onDue_due (f : List DueEvent → List DueEvent) : (s.onDue f).due = f s.due := rfl
@[simp] theorem State.onDue_lines (f : List DueEvent → List DueEvent) : (s.onDue f).lines = s.lines := rfl
@[simp] theorem State.onDue_bus (f : List DueEvent → List DueEvent) : (s.onDue f).bus = s.bus := rfl
@[simp] theorem State.onDue_table (f : List DueEvent → List DueEvent) : (s.onDue f).table = s.table := rfl
@[simp] theorem State.onDue_cues (f : List DueEvent → List DueEvent) : (s.onDue f).cues = s.cues := rfl
@[simp] theorem State.onDue_face (f : List DueEvent → List DueEvent) : (s.onDue f).face = s.face := rfl
@[simp] theorem State.onDue_light (f : List DueEvent → List DueEvent) : (s.onDue f).light = s.light := rfl
@[simp] theorem State.onDue_tiles (f : List DueEvent → List DueEvent) : (s.onDue f).tiles = s.tiles := rfl
@[simp] theorem State.onDue_scan (f : List DueEvent → List DueEvent) : (s.onDue f).scan = s.scan := rfl
@[simp] theorem State.onDue_faults (f : List DueEvent → List DueEvent) : (s.onDue f).faults = s.faults := rfl
@[simp] theorem State.onDue_test (f : List DueEvent → List DueEvent) : (s.onDue f).test = s.test := rfl
@[simp] theorem State.onDue_wires (f : List DueEvent → List DueEvent) : (s.onDue f).wires = s.wires := rfl
@[simp] theorem State.onDue_link (f : List DueEvent → List DueEvent) : (s.onDue f).link = s.link := rfl
@[simp] theorem State.onDue_settings (f : List DueEvent → List DueEvent) : (s.onDue f).settings = s.settings := rfl
@[simp] theorem State.onDue_governor (f : List DueEvent → List DueEvent) : (s.onDue f).governor = s.governor := rfl

/-! ### onLines -/

@[simp] theorem State.onLines_pending (f : Lines → Lines) : (s.onLines f).pending = s.pending := rfl
@[simp] theorem State.onLines_due (f : Lines → Lines) : (s.onLines f).due = s.due := rfl
@[simp] theorem State.onLines_lines (f : Lines → Lines) : (s.onLines f).lines = f s.lines := rfl
@[simp] theorem State.onLines_bus (f : Lines → Lines) : (s.onLines f).bus = s.bus := rfl
@[simp] theorem State.onLines_table (f : Lines → Lines) : (s.onLines f).table = s.table := rfl
@[simp] theorem State.onLines_cues (f : Lines → Lines) : (s.onLines f).cues = s.cues := rfl
@[simp] theorem State.onLines_face (f : Lines → Lines) : (s.onLines f).face = s.face := rfl
@[simp] theorem State.onLines_light (f : Lines → Lines) : (s.onLines f).light = s.light := rfl
@[simp] theorem State.onLines_tiles (f : Lines → Lines) : (s.onLines f).tiles = s.tiles := rfl
@[simp] theorem State.onLines_scan (f : Lines → Lines) : (s.onLines f).scan = s.scan := rfl
@[simp] theorem State.onLines_faults (f : Lines → Lines) : (s.onLines f).faults = s.faults := rfl
@[simp] theorem State.onLines_test (f : Lines → Lines) : (s.onLines f).test = s.test := rfl
@[simp] theorem State.onLines_wires (f : Lines → Lines) : (s.onLines f).wires = s.wires := rfl
@[simp] theorem State.onLines_link (f : Lines → Lines) : (s.onLines f).link = s.link := rfl
@[simp] theorem State.onLines_settings (f : Lines → Lines) : (s.onLines f).settings = s.settings := rfl
@[simp] theorem State.onLines_governor (f : Lines → Lines) : (s.onLines f).governor = s.governor := rfl

/-! ### onBus -/

@[simp] theorem State.onBus_pending (f : BusState → BusState) : (s.onBus f).pending = s.pending := rfl
@[simp] theorem State.onBus_due (f : BusState → BusState) : (s.onBus f).due = s.due := rfl
@[simp] theorem State.onBus_lines (f : BusState → BusState) : (s.onBus f).lines = s.lines := rfl
@[simp] theorem State.onBus_bus (f : BusState → BusState) : (s.onBus f).bus = f s.bus := rfl
@[simp] theorem State.onBus_table (f : BusState → BusState) : (s.onBus f).table = s.table := rfl
@[simp] theorem State.onBus_cues (f : BusState → BusState) : (s.onBus f).cues = s.cues := rfl
@[simp] theorem State.onBus_face (f : BusState → BusState) : (s.onBus f).face = s.face := rfl
@[simp] theorem State.onBus_light (f : BusState → BusState) : (s.onBus f).light = s.light := rfl
@[simp] theorem State.onBus_tiles (f : BusState → BusState) : (s.onBus f).tiles = s.tiles := rfl
@[simp] theorem State.onBus_scan (f : BusState → BusState) : (s.onBus f).scan = s.scan := rfl
@[simp] theorem State.onBus_faults (f : BusState → BusState) : (s.onBus f).faults = s.faults := rfl
@[simp] theorem State.onBus_test (f : BusState → BusState) : (s.onBus f).test = s.test := rfl
@[simp] theorem State.onBus_wires (f : BusState → BusState) : (s.onBus f).wires = s.wires := rfl
@[simp] theorem State.onBus_link (f : BusState → BusState) : (s.onBus f).link = s.link := rfl
@[simp] theorem State.onBus_settings (f : BusState → BusState) : (s.onBus f).settings = s.settings := rfl
@[simp] theorem State.onBus_governor (f : BusState → BusState) : (s.onBus f).governor = s.governor := rfl

/-! ### onTable -/

@[simp] theorem State.onTable_pending (f : BufferTable → BufferTable) : (s.onTable f).pending = s.pending := rfl
@[simp] theorem State.onTable_due (f : BufferTable → BufferTable) : (s.onTable f).due = s.due := rfl
@[simp] theorem State.onTable_lines (f : BufferTable → BufferTable) : (s.onTable f).lines = s.lines := rfl
@[simp] theorem State.onTable_bus (f : BufferTable → BufferTable) : (s.onTable f).bus = s.bus := rfl
@[simp] theorem State.onTable_table (f : BufferTable → BufferTable) : (s.onTable f).table = f s.table := rfl
@[simp] theorem State.onTable_cues (f : BufferTable → BufferTable) : (s.onTable f).cues = s.cues := rfl
@[simp] theorem State.onTable_face (f : BufferTable → BufferTable) : (s.onTable f).face = s.face := rfl
@[simp] theorem State.onTable_light (f : BufferTable → BufferTable) : (s.onTable f).light = s.light := rfl
@[simp] theorem State.onTable_tiles (f : BufferTable → BufferTable) : (s.onTable f).tiles = s.tiles := rfl
@[simp] theorem State.onTable_scan (f : BufferTable → BufferTable) : (s.onTable f).scan = s.scan := rfl
@[simp] theorem State.onTable_faults (f : BufferTable → BufferTable) : (s.onTable f).faults = s.faults := rfl
@[simp] theorem State.onTable_test (f : BufferTable → BufferTable) : (s.onTable f).test = s.test := rfl
@[simp] theorem State.onTable_wires (f : BufferTable → BufferTable) : (s.onTable f).wires = s.wires := rfl
@[simp] theorem State.onTable_link (f : BufferTable → BufferTable) : (s.onTable f).link = s.link := rfl
@[simp] theorem State.onTable_settings (f : BufferTable → BufferTable) : (s.onTable f).settings = s.settings := rfl
@[simp] theorem State.onTable_governor (f : BufferTable → BufferTable) : (s.onTable f).governor = s.governor := rfl

/-! ### onCues -/

@[simp] theorem State.onCues_pending (f : CueUnit → CueUnit) : (s.onCues f).pending = s.pending := rfl
@[simp] theorem State.onCues_due (f : CueUnit → CueUnit) : (s.onCues f).due = s.due := rfl
@[simp] theorem State.onCues_lines (f : CueUnit → CueUnit) : (s.onCues f).lines = s.lines := rfl
@[simp] theorem State.onCues_bus (f : CueUnit → CueUnit) : (s.onCues f).bus = s.bus := rfl
@[simp] theorem State.onCues_table (f : CueUnit → CueUnit) : (s.onCues f).table = s.table := rfl
@[simp] theorem State.onCues_cues (f : CueUnit → CueUnit) : (s.onCues f).cues = f s.cues := rfl
@[simp] theorem State.onCues_face (f : CueUnit → CueUnit) : (s.onCues f).face = s.face := rfl
@[simp] theorem State.onCues_light (f : CueUnit → CueUnit) : (s.onCues f).light = s.light := rfl
@[simp] theorem State.onCues_tiles (f : CueUnit → CueUnit) : (s.onCues f).tiles = s.tiles := rfl
@[simp] theorem State.onCues_scan (f : CueUnit → CueUnit) : (s.onCues f).scan = s.scan := rfl
@[simp] theorem State.onCues_faults (f : CueUnit → CueUnit) : (s.onCues f).faults = s.faults := rfl
@[simp] theorem State.onCues_test (f : CueUnit → CueUnit) : (s.onCues f).test = s.test := rfl
@[simp] theorem State.onCues_wires (f : CueUnit → CueUnit) : (s.onCues f).wires = s.wires := rfl
@[simp] theorem State.onCues_link (f : CueUnit → CueUnit) : (s.onCues f).link = s.link := rfl
@[simp] theorem State.onCues_settings (f : CueUnit → CueUnit) : (s.onCues f).settings = s.settings := rfl
@[simp] theorem State.onCues_governor (f : CueUnit → CueUnit) : (s.onCues f).governor = s.governor := rfl

/-! ### onFace -/

@[simp] theorem State.onFace_pending (f : ShowUnit → ShowUnit) : (s.onFace f).pending = s.pending := rfl
@[simp] theorem State.onFace_due (f : ShowUnit → ShowUnit) : (s.onFace f).due = s.due := rfl
@[simp] theorem State.onFace_lines (f : ShowUnit → ShowUnit) : (s.onFace f).lines = s.lines := rfl
@[simp] theorem State.onFace_bus (f : ShowUnit → ShowUnit) : (s.onFace f).bus = s.bus := rfl
@[simp] theorem State.onFace_table (f : ShowUnit → ShowUnit) : (s.onFace f).table = s.table := rfl
@[simp] theorem State.onFace_cues (f : ShowUnit → ShowUnit) : (s.onFace f).cues = s.cues := rfl
@[simp] theorem State.onFace_face (f : ShowUnit → ShowUnit) : (s.onFace f).face = f s.face := rfl
@[simp] theorem State.onFace_light (f : ShowUnit → ShowUnit) : (s.onFace f).light = s.light := rfl
@[simp] theorem State.onFace_tiles (f : ShowUnit → ShowUnit) : (s.onFace f).tiles = s.tiles := rfl
@[simp] theorem State.onFace_scan (f : ShowUnit → ShowUnit) : (s.onFace f).scan = s.scan := rfl
@[simp] theorem State.onFace_faults (f : ShowUnit → ShowUnit) : (s.onFace f).faults = s.faults := rfl
@[simp] theorem State.onFace_test (f : ShowUnit → ShowUnit) : (s.onFace f).test = s.test := rfl
@[simp] theorem State.onFace_wires (f : ShowUnit → ShowUnit) : (s.onFace f).wires = s.wires := rfl
@[simp] theorem State.onFace_link (f : ShowUnit → ShowUnit) : (s.onFace f).link = s.link := rfl
@[simp] theorem State.onFace_settings (f : ShowUnit → ShowUnit) : (s.onFace f).settings = s.settings := rfl
@[simp] theorem State.onFace_governor (f : ShowUnit → ShowUnit) : (s.onFace f).governor = s.governor := rfl

/-! ### onLight -/

@[simp] theorem State.onLight_pending (f : LightUnit → LightUnit) : (s.onLight f).pending = s.pending := rfl
@[simp] theorem State.onLight_due (f : LightUnit → LightUnit) : (s.onLight f).due = s.due := rfl
@[simp] theorem State.onLight_lines (f : LightUnit → LightUnit) : (s.onLight f).lines = s.lines := rfl
@[simp] theorem State.onLight_bus (f : LightUnit → LightUnit) : (s.onLight f).bus = s.bus := rfl
@[simp] theorem State.onLight_table (f : LightUnit → LightUnit) : (s.onLight f).table = s.table := rfl
@[simp] theorem State.onLight_cues (f : LightUnit → LightUnit) : (s.onLight f).cues = s.cues := rfl
@[simp] theorem State.onLight_face (f : LightUnit → LightUnit) : (s.onLight f).face = s.face := rfl
@[simp] theorem State.onLight_light (f : LightUnit → LightUnit) : (s.onLight f).light = f s.light := rfl
@[simp] theorem State.onLight_tiles (f : LightUnit → LightUnit) : (s.onLight f).tiles = s.tiles := rfl
@[simp] theorem State.onLight_scan (f : LightUnit → LightUnit) : (s.onLight f).scan = s.scan := rfl
@[simp] theorem State.onLight_faults (f : LightUnit → LightUnit) : (s.onLight f).faults = s.faults := rfl
@[simp] theorem State.onLight_test (f : LightUnit → LightUnit) : (s.onLight f).test = s.test := rfl
@[simp] theorem State.onLight_wires (f : LightUnit → LightUnit) : (s.onLight f).wires = s.wires := rfl
@[simp] theorem State.onLight_link (f : LightUnit → LightUnit) : (s.onLight f).link = s.link := rfl
@[simp] theorem State.onLight_settings (f : LightUnit → LightUnit) : (s.onLight f).settings = s.settings := rfl
@[simp] theorem State.onLight_governor (f : LightUnit → LightUnit) : (s.onLight f).governor = s.governor := rfl

/-! ### onTiles -/

@[simp] theorem State.onTiles_pending (f : TileTable → TileTable) : (s.onTiles f).pending = s.pending := rfl
@[simp] theorem State.onTiles_due (f : TileTable → TileTable) : (s.onTiles f).due = s.due := rfl
@[simp] theorem State.onTiles_lines (f : TileTable → TileTable) : (s.onTiles f).lines = s.lines := rfl
@[simp] theorem State.onTiles_bus (f : TileTable → TileTable) : (s.onTiles f).bus = s.bus := rfl
@[simp] theorem State.onTiles_table (f : TileTable → TileTable) : (s.onTiles f).table = s.table := rfl
@[simp] theorem State.onTiles_cues (f : TileTable → TileTable) : (s.onTiles f).cues = s.cues := rfl
@[simp] theorem State.onTiles_face (f : TileTable → TileTable) : (s.onTiles f).face = s.face := rfl
@[simp] theorem State.onTiles_light (f : TileTable → TileTable) : (s.onTiles f).light = s.light := rfl
@[simp] theorem State.onTiles_tiles (f : TileTable → TileTable) : (s.onTiles f).tiles = f s.tiles := rfl
@[simp] theorem State.onTiles_scan (f : TileTable → TileTable) : (s.onTiles f).scan = s.scan := rfl
@[simp] theorem State.onTiles_faults (f : TileTable → TileTable) : (s.onTiles f).faults = s.faults := rfl
@[simp] theorem State.onTiles_test (f : TileTable → TileTable) : (s.onTiles f).test = s.test := rfl
@[simp] theorem State.onTiles_wires (f : TileTable → TileTable) : (s.onTiles f).wires = s.wires := rfl
@[simp] theorem State.onTiles_link (f : TileTable → TileTable) : (s.onTiles f).link = s.link := rfl
@[simp] theorem State.onTiles_settings (f : TileTable → TileTable) : (s.onTiles f).settings = s.settings := rfl
@[simp] theorem State.onTiles_governor (f : TileTable → TileTable) : (s.onTiles f).governor = s.governor := rfl

/-! ### onScan -/

@[simp] theorem State.onScan_pending (f : ScanUnit → ScanUnit) : (s.onScan f).pending = s.pending := rfl
@[simp] theorem State.onScan_due (f : ScanUnit → ScanUnit) : (s.onScan f).due = s.due := rfl
@[simp] theorem State.onScan_lines (f : ScanUnit → ScanUnit) : (s.onScan f).lines = s.lines := rfl
@[simp] theorem State.onScan_bus (f : ScanUnit → ScanUnit) : (s.onScan f).bus = s.bus := rfl
@[simp] theorem State.onScan_table (f : ScanUnit → ScanUnit) : (s.onScan f).table = s.table := rfl
@[simp] theorem State.onScan_cues (f : ScanUnit → ScanUnit) : (s.onScan f).cues = s.cues := rfl
@[simp] theorem State.onScan_face (f : ScanUnit → ScanUnit) : (s.onScan f).face = s.face := rfl
@[simp] theorem State.onScan_light (f : ScanUnit → ScanUnit) : (s.onScan f).light = s.light := rfl
@[simp] theorem State.onScan_tiles (f : ScanUnit → ScanUnit) : (s.onScan f).tiles = s.tiles := rfl
@[simp] theorem State.onScan_scan (f : ScanUnit → ScanUnit) : (s.onScan f).scan = f s.scan := rfl
@[simp] theorem State.onScan_faults (f : ScanUnit → ScanUnit) : (s.onScan f).faults = s.faults := rfl
@[simp] theorem State.onScan_test (f : ScanUnit → ScanUnit) : (s.onScan f).test = s.test := rfl
@[simp] theorem State.onScan_wires (f : ScanUnit → ScanUnit) : (s.onScan f).wires = s.wires := rfl
@[simp] theorem State.onScan_link (f : ScanUnit → ScanUnit) : (s.onScan f).link = s.link := rfl
@[simp] theorem State.onScan_settings (f : ScanUnit → ScanUnit) : (s.onScan f).settings = s.settings := rfl
@[simp] theorem State.onScan_governor (f : ScanUnit → ScanUnit) : (s.onScan f).governor = s.governor := rfl

/-! ### onFaults -/

@[simp] theorem State.onFaults_pending (f : FaultUnit → FaultUnit) : (s.onFaults f).pending = s.pending := rfl
@[simp] theorem State.onFaults_due (f : FaultUnit → FaultUnit) : (s.onFaults f).due = s.due := rfl
@[simp] theorem State.onFaults_lines (f : FaultUnit → FaultUnit) : (s.onFaults f).lines = s.lines := rfl
@[simp] theorem State.onFaults_bus (f : FaultUnit → FaultUnit) : (s.onFaults f).bus = s.bus := rfl
@[simp] theorem State.onFaults_table (f : FaultUnit → FaultUnit) : (s.onFaults f).table = s.table := rfl
@[simp] theorem State.onFaults_cues (f : FaultUnit → FaultUnit) : (s.onFaults f).cues = s.cues := rfl
@[simp] theorem State.onFaults_face (f : FaultUnit → FaultUnit) : (s.onFaults f).face = s.face := rfl
@[simp] theorem State.onFaults_light (f : FaultUnit → FaultUnit) : (s.onFaults f).light = s.light := rfl
@[simp] theorem State.onFaults_tiles (f : FaultUnit → FaultUnit) : (s.onFaults f).tiles = s.tiles := rfl
@[simp] theorem State.onFaults_scan (f : FaultUnit → FaultUnit) : (s.onFaults f).scan = s.scan := rfl
@[simp] theorem State.onFaults_faults (f : FaultUnit → FaultUnit) : (s.onFaults f).faults = f s.faults := rfl
@[simp] theorem State.onFaults_test (f : FaultUnit → FaultUnit) : (s.onFaults f).test = s.test := rfl
@[simp] theorem State.onFaults_wires (f : FaultUnit → FaultUnit) : (s.onFaults f).wires = s.wires := rfl
@[simp] theorem State.onFaults_link (f : FaultUnit → FaultUnit) : (s.onFaults f).link = s.link := rfl
@[simp] theorem State.onFaults_settings (f : FaultUnit → FaultUnit) : (s.onFaults f).settings = s.settings := rfl
@[simp] theorem State.onFaults_governor (f : FaultUnit → FaultUnit) : (s.onFaults f).governor = s.governor := rfl

/-! ### onTest -/

@[simp] theorem State.onTest_pending (f : TestRecord → TestRecord) : (s.onTest f).pending = s.pending := rfl
@[simp] theorem State.onTest_due (f : TestRecord → TestRecord) : (s.onTest f).due = s.due := rfl
@[simp] theorem State.onTest_lines (f : TestRecord → TestRecord) : (s.onTest f).lines = s.lines := rfl
@[simp] theorem State.onTest_bus (f : TestRecord → TestRecord) : (s.onTest f).bus = s.bus := rfl
@[simp] theorem State.onTest_table (f : TestRecord → TestRecord) : (s.onTest f).table = s.table := rfl
@[simp] theorem State.onTest_cues (f : TestRecord → TestRecord) : (s.onTest f).cues = s.cues := rfl
@[simp] theorem State.onTest_face (f : TestRecord → TestRecord) : (s.onTest f).face = s.face := rfl
@[simp] theorem State.onTest_light (f : TestRecord → TestRecord) : (s.onTest f).light = s.light := rfl
@[simp] theorem State.onTest_tiles (f : TestRecord → TestRecord) : (s.onTest f).tiles = s.tiles := rfl
@[simp] theorem State.onTest_scan (f : TestRecord → TestRecord) : (s.onTest f).scan = s.scan := rfl
@[simp] theorem State.onTest_faults (f : TestRecord → TestRecord) : (s.onTest f).faults = s.faults := rfl
@[simp] theorem State.onTest_test (f : TestRecord → TestRecord) : (s.onTest f).test = f s.test := rfl
@[simp] theorem State.onTest_wires (f : TestRecord → TestRecord) : (s.onTest f).wires = s.wires := rfl
@[simp] theorem State.onTest_link (f : TestRecord → TestRecord) : (s.onTest f).link = s.link := rfl
@[simp] theorem State.onTest_settings (f : TestRecord → TestRecord) : (s.onTest f).settings = s.settings := rfl
@[simp] theorem State.onTest_governor (f : TestRecord → TestRecord) : (s.onTest f).governor = s.governor := rfl

/-! ### onWires -/

@[simp] theorem State.onWires_pending (f : LinkWires → LinkWires) : (s.onWires f).pending = s.pending := rfl
@[simp] theorem State.onWires_due (f : LinkWires → LinkWires) : (s.onWires f).due = s.due := rfl
@[simp] theorem State.onWires_lines (f : LinkWires → LinkWires) : (s.onWires f).lines = s.lines := rfl
@[simp] theorem State.onWires_bus (f : LinkWires → LinkWires) : (s.onWires f).bus = s.bus := rfl
@[simp] theorem State.onWires_table (f : LinkWires → LinkWires) : (s.onWires f).table = s.table := rfl
@[simp] theorem State.onWires_cues (f : LinkWires → LinkWires) : (s.onWires f).cues = s.cues := rfl
@[simp] theorem State.onWires_face (f : LinkWires → LinkWires) : (s.onWires f).face = s.face := rfl
@[simp] theorem State.onWires_light (f : LinkWires → LinkWires) : (s.onWires f).light = s.light := rfl
@[simp] theorem State.onWires_tiles (f : LinkWires → LinkWires) : (s.onWires f).tiles = s.tiles := rfl
@[simp] theorem State.onWires_scan (f : LinkWires → LinkWires) : (s.onWires f).scan = s.scan := rfl
@[simp] theorem State.onWires_faults (f : LinkWires → LinkWires) : (s.onWires f).faults = s.faults := rfl
@[simp] theorem State.onWires_test (f : LinkWires → LinkWires) : (s.onWires f).test = s.test := rfl
@[simp] theorem State.onWires_wires (f : LinkWires → LinkWires) : (s.onWires f).wires = f s.wires := rfl
@[simp] theorem State.onWires_link (f : LinkWires → LinkWires) : (s.onWires f).link = s.link := rfl
@[simp] theorem State.onWires_settings (f : LinkWires → LinkWires) : (s.onWires f).settings = s.settings := rfl
@[simp] theorem State.onWires_governor (f : LinkWires → LinkWires) : (s.onWires f).governor = s.governor := rfl

/-! ### onLink -/

@[simp] theorem State.onLink_pending (f : LinkState → LinkState) : (s.onLink f).pending = s.pending := rfl
@[simp] theorem State.onLink_due (f : LinkState → LinkState) : (s.onLink f).due = s.due := rfl
@[simp] theorem State.onLink_lines (f : LinkState → LinkState) : (s.onLink f).lines = s.lines := rfl
@[simp] theorem State.onLink_bus (f : LinkState → LinkState) : (s.onLink f).bus = s.bus := rfl
@[simp] theorem State.onLink_table (f : LinkState → LinkState) : (s.onLink f).table = s.table := rfl
@[simp] theorem State.onLink_cues (f : LinkState → LinkState) : (s.onLink f).cues = s.cues := rfl
@[simp] theorem State.onLink_face (f : LinkState → LinkState) : (s.onLink f).face = s.face := rfl
@[simp] theorem State.onLink_light (f : LinkState → LinkState) : (s.onLink f).light = s.light := rfl
@[simp] theorem State.onLink_tiles (f : LinkState → LinkState) : (s.onLink f).tiles = s.tiles := rfl
@[simp] theorem State.onLink_scan (f : LinkState → LinkState) : (s.onLink f).scan = s.scan := rfl
@[simp] theorem State.onLink_faults (f : LinkState → LinkState) : (s.onLink f).faults = s.faults := rfl
@[simp] theorem State.onLink_test (f : LinkState → LinkState) : (s.onLink f).test = s.test := rfl
@[simp] theorem State.onLink_wires (f : LinkState → LinkState) : (s.onLink f).wires = s.wires := rfl
@[simp] theorem State.onLink_link (f : LinkState → LinkState) : (s.onLink f).link = f s.link := rfl
@[simp] theorem State.onLink_settings (f : LinkState → LinkState) : (s.onLink f).settings = s.settings := rfl
@[simp] theorem State.onLink_governor (f : LinkState → LinkState) : (s.onLink f).governor = s.governor := rfl

/-! ### onSettings -/

@[simp] theorem State.onSettings_pending (f : Settings → Settings) : (s.onSettings f).pending = s.pending := rfl
@[simp] theorem State.onSettings_due (f : Settings → Settings) : (s.onSettings f).due = s.due := rfl
@[simp] theorem State.onSettings_lines (f : Settings → Settings) : (s.onSettings f).lines = s.lines := rfl
@[simp] theorem State.onSettings_bus (f : Settings → Settings) : (s.onSettings f).bus = s.bus := rfl
@[simp] theorem State.onSettings_table (f : Settings → Settings) : (s.onSettings f).table = s.table := rfl
@[simp] theorem State.onSettings_cues (f : Settings → Settings) : (s.onSettings f).cues = s.cues := rfl
@[simp] theorem State.onSettings_face (f : Settings → Settings) : (s.onSettings f).face = s.face := rfl
@[simp] theorem State.onSettings_light (f : Settings → Settings) : (s.onSettings f).light = s.light := rfl
@[simp] theorem State.onSettings_tiles (f : Settings → Settings) : (s.onSettings f).tiles = s.tiles := rfl
@[simp] theorem State.onSettings_scan (f : Settings → Settings) : (s.onSettings f).scan = s.scan := rfl
@[simp] theorem State.onSettings_faults (f : Settings → Settings) : (s.onSettings f).faults = s.faults := rfl
@[simp] theorem State.onSettings_test (f : Settings → Settings) : (s.onSettings f).test = s.test := rfl
@[simp] theorem State.onSettings_wires (f : Settings → Settings) : (s.onSettings f).wires = s.wires := rfl
@[simp] theorem State.onSettings_link (f : Settings → Settings) : (s.onSettings f).link = s.link := rfl
@[simp] theorem State.onSettings_settings (f : Settings → Settings) : (s.onSettings f).settings = f s.settings := rfl
@[simp] theorem State.onSettings_governor (f : Settings → Settings) : (s.onSettings f).governor = s.governor := rfl

/-! ### withGovernor -/

@[simp] theorem State.withGovernor_pending (x : Governor) : (s.withGovernor x).pending = s.pending := rfl
@[simp] theorem State.withGovernor_due (x : Governor) : (s.withGovernor x).due = s.due := rfl
@[simp] theorem State.withGovernor_lines (x : Governor) : (s.withGovernor x).lines = s.lines := rfl
@[simp] theorem State.withGovernor_bus (x : Governor) : (s.withGovernor x).bus = s.bus := rfl
@[simp] theorem State.withGovernor_table (x : Governor) : (s.withGovernor x).table = s.table := rfl
@[simp] theorem State.withGovernor_cues (x : Governor) : (s.withGovernor x).cues = s.cues := rfl
@[simp] theorem State.withGovernor_face (x : Governor) : (s.withGovernor x).face = s.face := rfl
@[simp] theorem State.withGovernor_light (x : Governor) : (s.withGovernor x).light = s.light := rfl
@[simp] theorem State.withGovernor_tiles (x : Governor) : (s.withGovernor x).tiles = s.tiles := rfl
@[simp] theorem State.withGovernor_scan (x : Governor) : (s.withGovernor x).scan = s.scan := rfl
@[simp] theorem State.withGovernor_faults (x : Governor) : (s.withGovernor x).faults = s.faults := rfl
@[simp] theorem State.withGovernor_test (x : Governor) : (s.withGovernor x).test = s.test := rfl
@[simp] theorem State.withGovernor_wires (x : Governor) : (s.withGovernor x).wires = s.wires := rfl
@[simp] theorem State.withGovernor_link (x : Governor) : (s.withGovernor x).link = s.link := rfl
@[simp] theorem State.withGovernor_settings (x : Governor) : (s.withGovernor x).settings = s.settings := rfl
@[simp] theorem State.withGovernor_governor (x : Governor) : (s.withGovernor x).governor = x := rfl

/-! ### withPending -/

@[simp] theorem State.withPending_pending (x : List Instr) : (s.withPending x).pending = x := rfl
@[simp] theorem State.withPending_due (x : List Instr) : (s.withPending x).due = s.due := rfl
@[simp] theorem State.withPending_lines (x : List Instr) : (s.withPending x).lines = s.lines := rfl
@[simp] theorem State.withPending_bus (x : List Instr) : (s.withPending x).bus = s.bus := rfl
@[simp] theorem State.withPending_table (x : List Instr) : (s.withPending x).table = s.table := rfl
@[simp] theorem State.withPending_cues (x : List Instr) : (s.withPending x).cues = s.cues := rfl
@[simp] theorem State.withPending_face (x : List Instr) : (s.withPending x).face = s.face := rfl
@[simp] theorem State.withPending_light (x : List Instr) : (s.withPending x).light = s.light := rfl
@[simp] theorem State.withPending_tiles (x : List Instr) : (s.withPending x).tiles = s.tiles := rfl
@[simp] theorem State.withPending_scan (x : List Instr) : (s.withPending x).scan = s.scan := rfl
@[simp] theorem State.withPending_faults (x : List Instr) : (s.withPending x).faults = s.faults := rfl
@[simp] theorem State.withPending_test (x : List Instr) : (s.withPending x).test = s.test := rfl
@[simp] theorem State.withPending_wires (x : List Instr) : (s.withPending x).wires = s.wires := rfl
@[simp] theorem State.withPending_link (x : List Instr) : (s.withPending x).link = s.link := rfl
@[simp] theorem State.withPending_settings (x : List Instr) : (s.withPending x).settings = s.settings := rfl
@[simp] theorem State.withPending_governor (x : List Instr) : (s.withPending x).governor = s.governor := rfl

end Sys2Proof.Machine
end

