-- ==== Sys2Proof/Laws/Frame.lean ====
section
/-! SUPPORT. What each shared operation can change, once for each: every block of the state outside the
list named stands as it was. A proof cites these instead of unfolding the operation. -/

namespace Sys2Proof.Machine

set_option Elab.async false
set_option linter.unusedTactic false
set_option linter.unreachableTactic false

def Block.number : Block → Nat
  | .pending => 0 | .due => 1 | .lines => 2 | .bus => 3 | .table => 4 | .cues => 5 | .face => 6
  | .light => 7 | .tiles => 8 | .scan => 9 | .faults => 10 | .test => 11 | .wires => 12
  | .link => 13 | .settings => 14 | .governor => 15

theorem Block.number_inj {a b : Block} (h : a.number = b.number) : a = b := by
  cases a <;> cases b <;> first | rfl | exact absurd h (by decide)

/-- Every block of the second list stands in the first. -/
def covers (xs ys : List Block) : Bool := ys.all fun y => xs.any fun x => x.number == y.number

theorem subset_of_covers {xs ys : List Block} (h : covers xs ys = true) : ys ⊆ xs := by
  intro y hy
  have hy' := List.all_eq_true.mp h y hy
  obtain ⟨x, hx, e⟩ := List.any_eq_true.mp hy'
  have e' : x = y := Block.number_inj (by simpa using e)
  exact e' ▸ hx

theorem covers_of_subset {xs ys : List Block} (h : ys ⊆ xs) : covers xs ys = true :=
  List.all_eq_true.mpr fun y hy => List.any_eq_true.mpr ⟨y, h hy, by simp⟩

theorem Block.Agree.refl (s : State) (b : Block) : b.Agree s s := by cases b <;> rfl

theorem Block.Agree.trans {s t u : State} {b : Block} (h : b.Agree s t) (g : b.Agree t u) : b.Agree s u := by
  cases b <;> exact Eq.trans g h

theorem Unchanged.refl (touched : List Block) (s : State) : Unchanged touched s s :=
  ⟨fun b _ => Block.Agree.refl s b⟩

theorem Unchanged.mono {xs ys : List Block} {s t : State} (h : Unchanged xs s t)
    (sub : covers ys xs = true) : Unchanged ys s t :=
  ⟨fun b hb => h.agree b fun hx => hb (subset_of_covers sub hx)⟩

theorem Unchanged.trans {xs : List Block} {s t u : State} (h : Unchanged xs s t) (g : Unchanged xs t u) :
    Unchanged xs s u := ⟨fun b hb => (h.agree b hb).trans (g.agree b hb)⟩

/-- The last operation of a chain peeled off. -/
theorem Unchanged.step {xs ys : List Block} {s t u : State} (g : Unchanged ys t u) (sub : covers xs ys = true)
    (h : Unchanged xs s t) : Unchanged xs s u := h.trans (g.mono sub)

theorem Unchanged.foldl {α : Type} {xs : List Block} (f : State → α → State)
    (hf : ∀ t a, Unchanged xs t (f t a)) (as : List α) (s : State) : Unchanged xs s (as.foldl f s) := by
  induction as generalizing s with
  | nil => exact Unchanged.refl _ _
  | cons a as ih => exact (hf s a).trans (ih _)


theorem State.onDue_unchanged {xs : List Block} {s t : State} (f : List DueEvent → List DueEvent) (sub : covers xs [.due] = true)
    (h : Unchanged xs s t) : Unchanged xs s (t.onDue f) :=
  Unchanged.step ⟨by intro b hb; cases b <;> first | rfl | exact absurd (List.Mem.head _) hb⟩ sub h

theorem State.onLines_unchanged {xs : List Block} {s t : State} (f : Lines → Lines) (sub : covers xs [.lines] = true)
    (h : Unchanged xs s t) : Unchanged xs s (t.onLines f) :=
  Unchanged.step ⟨by intro b hb; cases b <;> first | rfl | exact absurd (List.Mem.head _) hb⟩ sub h

theorem State.onBus_unchanged {xs : List Block} {s t : State} (f : BusState → BusState) (sub : covers xs [.bus] = true)
    (h : Unchanged xs s t) : Unchanged xs s (t.onBus f) :=
  Unchanged.step ⟨by intro b hb; cases b <;> first | rfl | exact absurd (List.Mem.head _) hb⟩ sub h

theorem State.onTable_unchanged {xs : List Block} {s t : State} (f : BufferTable → BufferTable) (sub : covers xs [.table] = true)
    (h : Unchanged xs s t) : Unchanged xs s (t.onTable f) :=
  Unchanged.step ⟨by intro b hb; cases b <;> first | rfl | exact absurd (List.Mem.head _) hb⟩ sub h

theorem State.onCues_unchanged {xs : List Block} {s t : State} (f : CueUnit → CueUnit) (sub : covers xs [.cues] = true)
    (h : Unchanged xs s t) : Unchanged xs s (t.onCues f) :=
  Unchanged.step ⟨by intro b hb; cases b <;> first | rfl | exact absurd (List.Mem.head _) hb⟩ sub h

theorem State.onFace_unchanged {xs : List Block} {s t : State} (f : ShowUnit → ShowUnit) (sub : covers xs [.face] = true)
    (h : Unchanged xs s t) : Unchanged xs s (t.onFace f) :=
  Unchanged.step ⟨by intro b hb; cases b <;> first | rfl | exact absurd (List.Mem.head _) hb⟩ sub h

theorem State.onLight_unchanged {xs : List Block} {s t : State} (f : LightUnit → LightUnit) (sub : covers xs [.light] = true)
    (h : Unchanged xs s t) : Unchanged xs s (t.onLight f) :=
  Unchanged.step ⟨by intro b hb; cases b <;> first | rfl | exact absurd (List.Mem.head _) hb⟩ sub h

theorem State.onTiles_unchanged {xs : List Block} {s t : State} (f : TileTable → TileTable) (sub : covers xs [.tiles] = true)
    (h : Unchanged xs s t) : Unchanged xs s (t.onTiles f) :=
  Unchanged.step ⟨by intro b hb; cases b <;> first | rfl | exact absurd (List.Mem.head _) hb⟩ sub h

theorem State.onScan_unchanged {xs : List Block} {s t : State} (f : ScanUnit → ScanUnit) (sub : covers xs [.scan] = true)
    (h : Unchanged xs s t) : Unchanged xs s (t.onScan f) :=
  Unchanged.step ⟨by intro b hb; cases b <;> first | rfl | exact absurd (List.Mem.head _) hb⟩ sub h

theorem State.onFaults_unchanged {xs : List Block} {s t : State} (f : FaultUnit → FaultUnit) (sub : covers xs [.faults] = true)
    (h : Unchanged xs s t) : Unchanged xs s (t.onFaults f) :=
  Unchanged.step ⟨by intro b hb; cases b <;> first | rfl | exact absurd (List.Mem.head _) hb⟩ sub h

theorem State.onTest_unchanged {xs : List Block} {s t : State} (f : TestRecord → TestRecord) (sub : covers xs [.test] = true)
    (h : Unchanged xs s t) : Unchanged xs s (t.onTest f) :=
  Unchanged.step ⟨by intro b hb; cases b <;> first | rfl | exact absurd (List.Mem.head _) hb⟩ sub h

theorem State.onWires_unchanged {xs : List Block} {s t : State} (f : LinkWires → LinkWires) (sub : covers xs [.wires] = true)
    (h : Unchanged xs s t) : Unchanged xs s (t.onWires f) :=
  Unchanged.step ⟨by intro b hb; cases b <;> first | rfl | exact absurd (List.Mem.head _) hb⟩ sub h

theorem State.onLink_unchanged {xs : List Block} {s t : State} (f : LinkState → LinkState) (sub : covers xs [.link] = true)
    (h : Unchanged xs s t) : Unchanged xs s (t.onLink f) :=
  Unchanged.step ⟨by intro b hb; cases b <;> first | rfl | exact absurd (List.Mem.head _) hb⟩ sub h

theorem State.onSettings_unchanged {xs : List Block} {s t : State} (f : Settings → Settings) (sub : covers xs [.settings] = true)
    (h : Unchanged xs s t) : Unchanged xs s (t.onSettings f) :=
  Unchanged.step ⟨by intro b hb; cases b <;> first | rfl | exact absurd (List.Mem.head _) hb⟩ sub h

theorem State.withGovernor_unchanged {xs : List Block} {s t : State} (x : Governor) (sub : covers xs [.governor] = true)
    (h : Unchanged xs s t) : Unchanged xs s (t.withGovernor x) :=
  Unchanged.step ⟨by intro b hb; cases b <;> first | rfl | exact absurd (List.Mem.head _) hb⟩ sub h

theorem State.withPending_unchanged {xs : List Block} {s t : State} (x : List Instr) (sub : covers xs [.pending] = true)
    (h : Unchanged xs s t) : Unchanged xs s (t.withPending x) :=
  Unchanged.step ⟨by intro b hb; cases b <;> first | rfl | exact absurd (List.Mem.head _) hb⟩ sub h

theorem State.onBuffer_unchanged {xs : List Block} {s u : State} (k : BufferNo) (f : BufferRecord → BufferRecord)
    (sub : covers xs [.table] = true) (h : Unchanged xs s u) : Unchanged xs s (u.onBuffer k f) := by
  refine Unchanged.step (ys := [.table]) ?_ sub h
  clear h sub
  unfold State.onBuffer
  repeat' (first
    | with_reducible exact Unchanged.refl _ _
    | with_reducible apply State.onTable_unchanged
    | decide)

theorem State.onSlot_unchanged {xs : List Block} {s u : State} (n : SlotNo) (f : SlotRecord → SlotRecord)
    (sub : covers xs [.cues] = true) (h : Unchanged xs s u) : Unchanged xs s (u.onSlot n f) := by
  refine Unchanged.step (ys := [.cues]) ?_ sub h
  clear h sub
  unfold State.onSlot
  repeat' (first
    | with_reducible exact Unchanged.refl _ _
    | with_reducible apply State.onCues_unchanged
    | decide)

theorem State.onTile_unchanged {xs : List Block} {s u : State} (i : TileNo) (f : TileRecord → TileRecord)
    (sub : covers xs [.tiles] = true) (h : Unchanged xs s u) : Unchanged xs s (u.onTile i f) := by
  refine Unchanged.step (ys := [.tiles]) ?_ sub h
  clear h sub
  unfold State.onTile
  repeat' (first
    | with_reducible exact Unchanged.refl _ _
    | with_reducible apply State.onTiles_unchanged
    | decide)

theorem State.onTileScan_unchanged {xs : List Block} {s u : State} (i : TileNo) (f : TileScan → TileScan)
    (sub : covers xs [.tiles] = true) (h : Unchanged xs s u) : Unchanged xs s (u.onTileScan i f) := by
  refine Unchanged.step (ys := [.tiles]) ?_ sub h
  clear h sub
  unfold State.onTileScan
  repeat' (first
    | with_reducible exact Unchanged.refl _ _
    | with_reducible apply State.onTile_unchanged
    | decide)

theorem State.addDue_unchanged {xs : List Block} {s u : State} (e : DueEvent)
    (sub : covers xs [.due] = true) (h : Unchanged xs s u) : Unchanged xs s (u.addDue e) := by
  refine Unchanged.step (ys := [.due]) ?_ sub h
  clear h sub
  unfold State.addDue
  repeat' (first
    | with_reducible exact Unchanged.refl _ _
    | with_reducible apply State.onDue_unchanged
    | decide)

theorem State.addDues_unchanged {xs : List Block} {s u : State} (new : List DueEvent)
    (sub : covers xs [.due] = true) (h : Unchanged xs s u) : Unchanged xs s (u.addDues new) := by
  refine Unchanged.step (ys := [.due]) ?_ sub h
  clear h sub
  unfold State.addDues
  repeat' (first
    | with_reducible exact Unchanged.refl _ _
    | with_reducible refine Unchanged.trans ?_ (Unchanged.foldl _ (fun t a => by apply State.onBuffer_unchanged; decide; exact Unchanged.refl _ _) _ _)
    | with_reducible apply State.onDue_unchanged
    | decide)

theorem State.addDuesFirst_unchanged {xs : List Block} {s u : State} (new : List DueEvent)
    (sub : covers xs [.due] = true) (h : Unchanged xs s u) : Unchanged xs s (u.addDuesFirst new) := by
  refine Unchanged.step (ys := [.due]) ?_ sub h
  clear h sub
  unfold State.addDuesFirst
  repeat' (first
    | with_reducible exact Unchanged.refl _ _
    | with_reducible refine Unchanged.trans ?_ (Unchanged.foldl _ (fun t a => by apply State.onBuffer_unchanged; decide; exact Unchanged.refl _ _) _ _)
    | with_reducible apply State.onDue_unchanged
    | decide)

theorem State.dropDue_unchanged {xs : List Block} {s u : State} (e : DueEvent)
    (sub : covers xs [.due] = true) (h : Unchanged xs s u) : Unchanged xs s (u.dropDue e) := by
  refine Unchanged.step (ys := [.due]) ?_ sub h
  clear h sub
  unfold State.dropDue
  repeat' (first
    | with_reducible exact Unchanged.refl _ _
    | with_reducible apply State.onDue_unchanged
    | decide)

theorem State.listSlot_unchanged {xs : List Block} {s u : State} (n : SlotNo)
    (sub : covers xs [.cues] = true) (h : Unchanged xs s u) : Unchanged xs s (u.listSlot n) := by
  refine Unchanged.step (ys := [.cues]) ?_ sub h
  clear h sub
  unfold State.listSlot
  repeat' (first
    | with_reducible exact Unchanged.refl _ _
    | with_reducible apply State.onCues_unchanged
    | with_reducible apply State.onSlot_unchanged
    | decide
    | split)

theorem State.setOutcome_unchanged {xs : List Block} {s u : State} (n : SlotNo) (f : SlotRecord → SlotRecord)
    (sub : covers xs [.cues] = true) (h : Unchanged xs s u) : Unchanged xs s (u.setOutcome n f) := by
  refine Unchanged.step (ys := [.cues]) ?_ sub h
  clear h sub
  unfold State.setOutcome
  repeat' (first
    | with_reducible exact Unchanged.refl _ _
    | with_reducible apply State.onSlot_unchanged
    | with_reducible apply State.listSlot_unchanged
    | decide)

theorem State.closeSlot_unchanged {xs : List Block} {s u : State} (n : SlotNo) (o : CueOutcome) (reason : Option Reason)
    (sub : covers xs [.cues] = true) (h : Unchanged xs s u) : Unchanged xs s (u.closeSlot n o reason) := by
  refine Unchanged.step (ys := [.cues]) ?_ sub h
  clear h sub
  unfold State.closeSlot
  repeat' (first
    | with_reducible exact Unchanged.refl _ _
    | with_reducible apply State.setOutcome_unchanged
    | decide)

theorem State.setService_unchanged {xs : List Block} {s u : State} (st : ServiceState) (e : ServiceError)
    (sub : covers xs [.link] = true) (h : Unchanged xs s u) : Unchanged xs s (u.setService st e) := by
  refine Unchanged.step (ys := [.link]) ?_ sub h
  clear h sub
  unfold State.setService
  repeat' (first
    | with_reducible exact Unchanged.refl _ _
    | with_reducible apply State.onLink_unchanged
    | decide)

theorem State.retargetTile_unchanged {xs : List Block} {s u : State} (i : TileNo)
    (sub : covers xs [.tiles] = true) (h : Unchanged xs s u) : Unchanged xs s (u.retargetTile i) := by
  refine Unchanged.step (ys := [.tiles]) ?_ sub h
  clear h sub
  unfold State.retargetTile
  repeat' (first
    | with_reducible exact Unchanged.refl _ _
    | with_reducible apply State.onTile_unchanged
    | decide)

theorem State.retargetAll_unchanged {xs : List Block} {s u : State}
    (sub : covers xs [.tiles] = true) (h : Unchanged xs s u) : Unchanged xs s (u.retargetAll) := by
  refine Unchanged.step (ys := [.tiles]) ?_ sub h
  clear h sub
  unfold State.retargetAll
  dsimp only
  repeat' (first
    | with_reducible exact Unchanged.refl _ _
    | with_reducible apply State.onTiles_unchanged
    | decide)

theorem State.reboundTile_unchanged {xs : List Block} {s u : State} (i : TileNo)
    (sub : covers xs [.tiles] = true) (h : Unchanged xs s u) : Unchanged xs s (u.reboundTile i) := by
  refine Unchanged.step (ys := [.tiles]) ?_ sub h
  clear h sub
  unfold State.reboundTile
  repeat' (first
    | with_reducible exact Unchanged.refl _ _
    | with_reducible apply State.onTile_unchanged
    | decide)

theorem State.handPair_unchanged {xs : List Block} {s u : State} (c fg : Nat)
    (sub : covers xs [.tiles] = true) (h : Unchanged xs s u) : Unchanged xs s (u.handPair c fg) := by
  refine Unchanged.step (ys := [.tiles]) ?_ sub h
  clear h sub
  unfold State.handPair
  dsimp only
  repeat' (first
    | with_reducible exact Unchanged.refl _ _
    | with_reducible apply State.onTiles_unchanged
    | decide)

theorem State.setTrim_unchanged {xs : List Block} {s u : State} (i : TileNo) (v : Nat)
    (sub : covers xs [.tiles] = true) (h : Unchanged xs s u) : Unchanged xs s (u.setTrim i v) := by
  refine Unchanged.step (ys := [.tiles]) ?_ sub h
  clear h sub
  unfold State.setTrim
  repeat' (first
    | with_reducible exact Unchanged.refl _ _
    | with_reducible apply State.onTile_unchanged
    | with_reducible apply State.reboundTile_unchanged
    | decide)

theorem State.setDerate_unchanged {xs : List Block} {s u : State} (i : TileNo) (b : Bool)
    (sub : covers xs [.tiles] = true) (h : Unchanged xs s u) : Unchanged xs s (u.setDerate i b) := by
  refine Unchanged.step (ys := [.tiles]) ?_ sub h
  clear h sub
  unfold State.setDerate
  repeat' (first
    | with_reducible exact Unchanged.refl _ _
    | with_reducible apply State.onTile_unchanged
    | with_reducible apply State.retargetTile_unchanged
    | decide
    | split)

theorem State.rampAll_unchanged {xs : List Block} {s u : State}
    (sub : covers xs [.tiles] = true) (h : Unchanged xs s u) : Unchanged xs s (u.rampAll) := by
  refine Unchanged.step (ys := [.tiles]) ?_ sub h
  clear h sub
  unfold State.rampAll
  dsimp only
  repeat' (first
    | with_reducible exact Unchanged.refl _ _
    | with_reducible apply State.onTiles_unchanged
    | decide)

theorem State.offer_unchanged {xs : List Block} {s u : State} (k : FaultKind) (tile : Option TileNo) (detail : Half)
    (sub : covers xs [.faults] = true) (h : Unchanged xs s u) : Unchanged xs s (u.offer k tile detail) := by
  refine Unchanged.step (ys := [.faults]) ?_ sub h
  clear h sub
  unfold State.offer
  repeat' (first
    | with_reducible exact Unchanged.refl _ _
    | with_reducible apply State.onFaults_unchanged
    | decide)

theorem State.putReason_unchanged {xs : List Block} {s u : State} (x : BlankReason) (b : Bool)
    (sub : covers xs [.faults] = true) (h : Unchanged xs s u) : Unchanged xs s (u.putReason x b) := by
  refine Unchanged.step (ys := [.faults]) ?_ sub h
  clear h sub
  unfold State.putReason
  repeat' (first
    | with_reducible exact Unchanged.refl _ _
    | with_reducible apply State.onFaults_unchanged
    | decide)

theorem State.addReason_unchanged {xs : List Block} {s u : State} (x : BlankReason)
    (sub : covers xs [.tiles, .faults] = true) (h : Unchanged xs s u) : Unchanged xs s (u.addReason x) := by
  refine Unchanged.step (ys := [.tiles, .faults]) ?_ sub h
  clear h sub
  unfold State.addReason
  repeat' (first
    | with_reducible exact Unchanged.refl _ _
    | with_reducible apply State.retargetAll_unchanged
    | with_reducible apply State.offer_unchanged
    | with_reducible apply State.putReason_unchanged
    | decide
    | split)

theorem State.removeReason_unchanged {xs : List Block} {s u : State} (x : BlankReason)
    (sub : covers xs [.tiles, .faults] = true) (h : Unchanged xs s u) : Unchanged xs s (u.removeReason x) := by
  refine Unchanged.step (ys := [.tiles, .faults]) ?_ sub h
  clear h sub
  unfold State.removeReason
  repeat' (first
    | with_reducible exact Unchanged.refl _ _
    | with_reducible apply State.retargetAll_unchanged
    | with_reducible apply State.offer_unchanged
    | with_reducible apply State.putReason_unchanged
    | decide
    | split)

theorem State.faceLimitCheck_unchanged {xs : List Block} {s u : State}
    (sub : covers xs [.tiles, .faults] = true) (h : Unchanged xs s u) : Unchanged xs s (u.faceLimitCheck) := by
  refine Unchanged.step (ys := [.tiles, .faults]) ?_ sub h
  clear h sub
  unfold State.faceLimitCheck
  repeat' (first
    | with_reducible exact Unchanged.refl _ _
    | with_reducible apply State.addReason_unchanged
    | with_reducible apply State.removeReason_unchanged
    | decide
    | split)

theorem State.enterFaulted_unchanged {xs : List Block} {s u : State} (i : TileNo)
    (sub : covers xs [.tiles, .faults] = true) (h : Unchanged xs s u) : Unchanged xs s (u.enterFaulted i) := by
  refine Unchanged.step (ys := [.tiles, .faults]) ?_ sub h
  clear h sub
  unfold State.enterFaulted
  dsimp only
  repeat' (first
    | with_reducible exact Unchanged.refl _ _
    | with_reducible apply State.onFaults_unchanged
    | with_reducible apply State.onTile_unchanged
    | with_reducible apply State.retargetTile_unchanged
    | with_reducible apply State.offer_unchanged
    | with_reducible apply State.faceLimitCheck_unchanged
    | decide)

theorem State.leaveFaulted_unchanged {xs : List Block} {s u : State} (i : TileNo) (detail : Half)
    (sub : covers xs [.tiles, .faults] = true) (h : Unchanged xs s u) : Unchanged xs s (u.leaveFaulted i detail) := by
  refine Unchanged.step (ys := [.tiles, .faults]) ?_ sub h
  clear h sub
  unfold State.leaveFaulted
  dsimp only
  repeat' (first
    | with_reducible exact Unchanged.refl _ _
    | with_reducible apply State.onFaults_unchanged
    | with_reducible apply State.onTile_unchanged
    | with_reducible apply State.retargetTile_unchanged
    | with_reducible apply State.offer_unchanged
    | with_reducible apply State.faceLimitCheck_unchanged
    | decide)

theorem State.evaluateTile_unchanged {xs : List Block} {s u : State} (i : TileNo)
    (sub : covers xs [.tiles, .faults] = true) (h : Unchanged xs s u) : Unchanged xs s (u.evaluateTile i) := by
  refine Unchanged.step (ys := [.tiles, .faults]) ?_ sub h
  clear h sub
  unfold State.evaluateTile
  dsimp only
  repeat' (first
    | with_reducible exact Unchanged.refl _ _
    | with_reducible apply State.onTile_unchanged
    | with_reducible apply State.offer_unchanged
    | with_reducible apply State.enterFaulted_unchanged
    | decide
    | split)

theorem State.evaluateTiles_unchanged {xs : List Block} {s u : State}
    (sub : covers xs [.tiles, .faults] = true) (h : Unchanged xs s u) : Unchanged xs s (u.evaluateTiles) := by
  refine Unchanged.step (ys := [.tiles, .faults]) ?_ sub h
  clear h sub
  unfold State.evaluateTiles
  repeat' (first
    | with_reducible exact Unchanged.refl _ _
    | with_reducible refine Unchanged.trans ?_ (Unchanged.foldl _ (fun t a => by apply State.evaluateTile_unchanged; decide; exact Unchanged.refl _ _) _ _)
    | with_reducible apply State.evaluateTile_unchanged
    | decide)

theorem State.tileEvent_unchanged {xs : List Block} {s u : State} (i : TileNo) (e : TileEvent)
    (sub : covers xs [.tiles, .faults] = true) (h : Unchanged xs s u) : Unchanged xs s (u.tileEvent i e) := by
  refine Unchanged.step (ys := [.tiles, .faults]) ?_ sub h
  clear h sub
  unfold State.tileEvent
  repeat' (first
    | with_reducible exact Unchanged.refl _ _
    | with_reducible apply State.onTile_unchanged
    | with_reducible apply State.evaluateTile_unchanged
    | decide
    | split)

theorem State.goodReport_unchanged {xs : List Block} {s u : State} (i : TileNo)
    (sub : covers xs [.tiles, .faults] = true) (h : Unchanged xs s u) : Unchanged xs s (u.goodReport i) := by
  refine Unchanged.step (ys := [.tiles, .faults]) ?_ sub h
  clear h sub
  unfold State.goodReport
  repeat' (first
    | with_reducible exact Unchanged.refl _ _
    | with_reducible apply State.onTile_unchanged
    | with_reducible apply State.evaluateTile_unchanged
    | decide
    | split)

theorem State.clearTile_unchanged {xs : List Block} {s u : State} (i : TileNo)
    (sub : covers xs [.tiles, .faults] = true) (h : Unchanged xs s u) : Unchanged xs s (u.clearTile i) := by
  refine Unchanged.step (ys := [.tiles, .faults]) ?_ sub h
  clear h sub
  unfold State.clearTile
  repeat' (first
    | with_reducible exact Unchanged.refl _ _
    | with_reducible apply State.onTile_unchanged
    | with_reducible apply State.leaveFaulted_unchanged
    | decide
    | split)

theorem State.tilePassed_unchanged {xs : List Block} {s u : State} (i : TileNo)
    (sub : covers xs [.tiles, .faults] = true) (h : Unchanged xs s u) : Unchanged xs s (u.tilePassed i) := by
  refine Unchanged.step (ys := [.tiles, .faults]) ?_ sub h
  clear h sub
  unfold State.tilePassed
  repeat' (first
    | with_reducible exact Unchanged.refl _ _
    | with_reducible apply State.leaveFaulted_unchanged
    | decide
    | split)

theorem State.tileFailed_unchanged {xs : List Block} {s u : State} (i : TileNo)
    (sub : covers xs [.tiles, .faults] = true) (h : Unchanged xs s u) : Unchanged xs s (u.tileFailed i) := by
  refine Unchanged.step (ys := [.tiles, .faults]) ?_ sub h
  clear h sub
  unfold State.tileFailed
  dsimp only
  repeat' (first
    | with_reducible exact Unchanged.refl _ _
    | with_reducible apply State.onTile_unchanged
    | with_reducible apply State.enterFaulted_unchanged
    | decide
    | split)

theorem State.onBuffers_unchanged {xs : List Block} {s u : State} (ks : List BufferNo) (f : BufferRecord → BufferRecord)
    (sub : covers xs [.table] = true) (h : Unchanged xs s u) : Unchanged xs s (u.onBuffers ks f) := by
  refine Unchanged.step (ys := [.table]) ?_ sub h
  clear h sub
  unfold State.onBuffers
  repeat' (first
    | with_reducible exact Unchanged.refl _ _
    | with_reducible refine Unchanged.trans ?_ (Unchanged.foldl _ (fun t a => by apply State.onBuffer_unchanged; decide; exact Unchanged.refl _ _) _ _)
    | with_reducible apply State.onBuffer_unchanged
    | decide)

theorem State.stopVerify_unchanged {xs : List Block} {s u : State}
    (sub : covers xs [.bus, .table] = true) (h : Unchanged xs s u) : Unchanged xs s (u.stopVerify) := by
  refine Unchanged.step (ys := [.bus, .table]) ?_ sub h
  clear h sub
  unfold State.stopVerify
  repeat' (first
    | with_reducible exact Unchanged.refl _ _
    | with_reducible apply State.onBus_unchanged
    | with_reducible apply State.onTable_unchanged
    | decide)

theorem State.abortVerify_unchanged {xs : List Block} {s u : State} (k : BufferNo)
    (sub : covers xs [.bus, .table] = true) (h : Unchanged xs s u) : Unchanged xs s (u.abortVerify k) := by
  refine Unchanged.step (ys := [.bus, .table]) ?_ sub h
  clear h sub
  unfold State.abortVerify
  repeat' (first
    | with_reducible exact Unchanged.refl _ _
    | with_reducible apply State.stopVerify_unchanged
    | decide
    | split)

theorem State.releaseBuffer_unchanged {xs : List Block} {s u : State} (k : BufferNo)
    (sub : covers xs [.bus, .table] = true) (h : Unchanged xs s u) : Unchanged xs s (u.releaseBuffer k) := by
  refine Unchanged.step (ys := [.bus, .table]) ?_ sub h
  clear h sub
  unfold State.releaseBuffer
  repeat' (first
    | with_reducible exact Unchanged.refl _ _
    | with_reducible apply State.onBuffer_unchanged
    | with_reducible apply State.abortVerify_unchanged
    | decide
    | split)

theorem State.returnBuffer_unchanged {xs : List Block} {s u : State} (k : BufferNo)
    (sub : covers xs [.table] = true) (h : Unchanged xs s u) : Unchanged xs s (u.returnBuffer k) := by
  refine Unchanged.step (ys := [.table]) ?_ sub h
  clear h sub
  unfold State.returnBuffer
  repeat' (first
    | with_reducible exact Unchanged.refl _ _
    | with_reducible apply State.onBuffer_unchanged
    | decide
    | split)

theorem State.freeRetired_unchanged {xs : List Block} {s u : State} (n : SlotNo)
    (sub : covers xs [.table] = true) (h : Unchanged xs s u) : Unchanged xs s (u.freeRetired n) := by
  refine Unchanged.step (ys := [.table]) ?_ sub h
  clear h sub
  unfold State.freeRetired
  repeat' (first
    | with_reducible exact Unchanged.refl _ _
    | with_reducible apply State.onTable_unchanged
    | decide
    | split)

theorem State.setGate_unchanged {xs : List Block} {s u : State} (g : Gate)
    (sub : covers xs [.table] = true) (h : Unchanged xs s u) : Unchanged xs s (u.setGate g) := by
  refine Unchanged.step (ys := [.table]) ?_ sub h
  clear h sub
  unfold State.setGate
  repeat' (first
    | with_reducible exact Unchanged.refl _ _
    | with_reducible apply State.onTable_unchanged
    | decide)

theorem State.closeGate_unchanged {xs : List Block} {s u : State}
    (sub : covers xs [.table] = true) (h : Unchanged xs s u) : Unchanged xs s (u.closeGate) := by
  refine Unchanged.step (ys := [.table]) ?_ sub h
  clear h sub
  unfold State.closeGate
  repeat' (first
    | with_reducible exact Unchanged.refl _ _
    | with_reducible apply State.onBuffer_unchanged
    | with_reducible apply State.setGate_unchanged
    | decide
    | split)

theorem State.wipeChoice_unchanged {xs : List Block} {s u : State}
    (sub : covers xs [.table] = true) (h : Unchanged xs s u) : Unchanged xs s (u.wipeChoice) := by
  refine Unchanged.step (ys := [.table]) ?_ sub h
  clear h sub
  unfold State.wipeChoice
  repeat' (first
    | with_reducible exact Unchanged.refl _ _
    | with_reducible apply State.onTable_unchanged
    | with_reducible apply State.onBuffer_unchanged
    | decide
    | split)

theorem State.verifyChoice_unchanged {xs : List Block} {s u : State}
    (sub : covers xs [.table] = true) (h : Unchanged xs s u) : Unchanged xs s (u.verifyChoice) := by
  refine Unchanged.step (ys := [.table]) ?_ sub h
  clear h sub
  unfold State.verifyChoice
  repeat' (first
    | with_reducible exact Unchanged.refl _ _
    | with_reducible apply State.onTable_unchanged
    | decide
    | split)

theorem State.takeCueWord_unchanged {xs : List Block} {s u : State} (n : SlotNo) (word : Nat) (d : DataWord)
    (sub : covers xs [.cues] = true) (h : Unchanged xs s u) : Unchanged xs s (u.takeCueWord n word d) := by
  refine Unchanged.step (ys := [.cues]) ?_ sub h
  clear h sub
  unfold State.takeCueWord
  repeat' (first
    | with_reducible exact Unchanged.refl _ _
    | with_reducible apply State.onCues_unchanged
    | decide
    | split)

theorem State.dequeue_unchanged {xs : List Block} {s u : State} (n : SlotNo)
    (sub : covers xs [.cues] = true) (h : Unchanged xs s u) : Unchanged xs s (u.dequeue n) := by
  refine Unchanged.step (ys := [.cues]) ?_ sub h
  clear h sub
  unfold State.dequeue
  repeat' (first
    | with_reducible exact Unchanged.refl _ _
    | with_reducible apply State.onCues_unchanged
    | decide)

theorem State.onEntry_unchanged {xs : List Block} {s u : State} (n : SlotNo) (f : QueueEntry → QueueEntry)
    (sub : covers xs [.cues] = true) (h : Unchanged xs s u) : Unchanged xs s (u.onEntry n f) := by
  refine Unchanged.step (ys := [.cues]) ?_ sub h
  clear h sub
  unfold State.onEntry
  repeat' (first
    | with_reducible exact Unchanged.refl _ _
    | with_reducible apply State.onCues_unchanged
    | decide
    | split)

theorem State.releaseEntryBuffer_unchanged {xs : List Block} {s u : State} (e : QueueEntry)
    (sub : covers xs [.bus, .table] = true) (h : Unchanged xs s u) : Unchanged xs s (u.releaseEntryBuffer e) := by
  refine Unchanged.step (ys := [.bus, .table]) ?_ sub h
  clear h sub
  unfold State.releaseEntryBuffer
  repeat' (first
    | with_reducible exact Unchanged.refl _ _
    | with_reducible apply State.releaseBuffer_unchanged
    | decide
    | split)

theorem State.endQueued_unchanged {xs : List Block} {s u : State} (e : QueueEntry) (o : CueOutcome)
    (sub : covers xs [.bus, .table, .cues] = true) (h : Unchanged xs s u) : Unchanged xs s (u.endQueued e o) := by
  refine Unchanged.step (ys := [.bus, .table, .cues]) ?_ sub h
  clear h sub
  unfold State.endQueued
  repeat' (first
    | with_reducible exact Unchanged.refl _ _
    | with_reducible apply State.closeSlot_unchanged
    | with_reducible apply State.dequeue_unchanged
    | with_reducible apply State.releaseEntryBuffer_unchanged
    | decide)

theorem State.rejectQueued_unchanged {xs : List Block} {s u : State} (n : SlotNo) (reason : Reason)
    (sub : covers xs [.cues] = true) (h : Unchanged xs s u) : Unchanged xs s (u.rejectQueued n reason) := by
  refine Unchanged.step (ys := [.cues]) ?_ sub h
  clear h sub
  unfold State.rejectQueued
  repeat' (first
    | with_reducible exact Unchanged.refl _ _
    | with_reducible apply State.closeSlot_unchanged
    | with_reducible apply State.dequeue_unchanged
    | decide)

theorem State.rejectCommit_unchanged {xs : List Block} {s u : State} (n : SlotNo) (kind : Option CueKind) (k : BufferNo) (w7 : Word) (reason : Reason)
    (sub : covers xs [.cues] = true) (h : Unchanged xs s u) : Unchanged xs s (u.rejectCommit n kind k w7 reason) := by
  refine Unchanged.step (ys := [.cues]) ?_ sub h
  clear h sub
  unfold State.rejectCommit
  repeat' (first
    | with_reducible exact Unchanged.refl _ _
    | with_reducible apply State.onSlot_unchanged
    | with_reducible apply State.closeSlot_unchanged
    | decide)

theorem State.handBuffer_unchanged {xs : List Block} {s u : State} (e : QueueEntry)
    (sub : covers xs [.table] = true) (h : Unchanged xs s u) : Unchanged xs s (u.handBuffer e) := by
  refine Unchanged.step (ys := [.table]) ?_ sub h
  clear h sub
  unfold State.handBuffer
  repeat' (first
    | with_reducible exact Unchanged.refl _ _
    | with_reducible apply State.onBuffer_unchanged
    | decide
    | split)

theorem State.noticeTakesVerify_unchanged {xs : List Block} {s u : State} (e : QueueEntry)
    (sub : covers xs [.bus, .table] = true) (h : Unchanged xs s u) : Unchanged xs s (u.noticeTakesVerify e) := by
  refine Unchanged.step (ys := [.bus, .table]) ?_ sub h
  clear h sub
  unfold State.noticeTakesVerify
  repeat' (first
    | with_reducible exact Unchanged.refl _ _
    | with_reducible apply State.stopVerify_unchanged
    | decide
    | split)

theorem State.acceptCue_unchanged {xs : List Block} {s u : State} (n : SlotNo) (kind : CueKind) (k : BufferNo) (w7 : Word)
    (sub : covers xs [.bus, .table, .cues] = true) (h : Unchanged xs s u) : Unchanged xs s (u.acceptCue n kind k w7) := by
  refine Unchanged.step (ys := [.bus, .table, .cues]) ?_ sub h
  clear h sub
  unfold State.acceptCue
  dsimp only
  repeat' (first
    | with_reducible exact Unchanged.refl _ _
    | with_reducible apply State.onCues_unchanged
    | with_reducible apply State.onSlot_unchanged
    | with_reducible apply State.handBuffer_unchanged
    | with_reducible apply State.noticeTakesVerify_unchanged
    | decide)

theorem State.handNoticeEnd_unchanged {xs : List Block} {s u : State}
    (sub : covers xs [.face] = true) (h : Unchanged xs s u) : Unchanged xs s (u.handNoticeEnd) := by
  refine Unchanged.step (ys := [.face]) ?_ sub h
  clear h sub
  unfold State.handNoticeEnd
  repeat' (first
    | with_reducible exact Unchanged.refl _ _
    | with_reducible apply State.onFace_unchanged
    | decide
    | split)

theorem State.acceptWithdraw_unchanged {xs : List Block} {s u : State} (n : SlotNo) (k : BufferNo) (w7 : Word)
    (sub : covers xs [.bus, .table, .cues, .face] = true) (h : Unchanged xs s u) : Unchanged xs s (u.acceptWithdraw n k w7) := by
  refine Unchanged.step (ys := [.bus, .table, .cues, .face]) ?_ sub h
  clear h sub
  unfold State.acceptWithdraw
  dsimp only
  repeat' (first
    | with_reducible exact Unchanged.refl _ _
    | with_reducible apply State.onSlot_unchanged
    | with_reducible apply State.closeSlot_unchanged
    | with_reducible apply State.endQueued_unchanged
    | with_reducible apply State.handNoticeEnd_unchanged
    | decide
    | split)

theorem State.judgeCommit_unchanged {xs : List Block} {s u : State} (n : SlotNo) (w7 : Word)
    (sub : covers xs [.bus, .table, .cues, .face] = true) (h : Unchanged xs s u) : Unchanged xs s (u.judgeCommit n w7) := by
  refine Unchanged.step (ys := [.bus, .table, .cues, .face]) ?_ sub h
  clear h sub
  unfold State.judgeCommit
  dsimp only
  repeat' (first
    | with_reducible exact Unchanged.refl _ _
    | with_reducible apply State.rejectCommit_unchanged
    | with_reducible apply State.acceptCue_unchanged
    | with_reducible apply State.acceptWithdraw_unchanged
    | decide
    | split)

theorem State.judgeNoted_unchanged {xs : List Block} {s u : State} (w : NotedWord 32)
    (sub : covers xs [.bus, .table, .cues, .face] = true) (h : Unchanged xs s u) : Unchanged xs s (u.judgeNoted w) := by
  refine Unchanged.step (ys := [.bus, .table, .cues, .face]) ?_ sub h
  clear h sub
  unfold State.judgeNoted
  repeat' (first
    | with_reducible exact Unchanged.refl _ _
    | with_reducible apply State.judgeCommit_unchanged
    | decide
    | split)

theorem State.dropNotedCues_unchanged {xs : List Block} {s u : State}
    (sub : covers xs [.cues] = true) (h : Unchanged xs s u) : Unchanged xs s (u.dropNotedCues) := by
  refine Unchanged.step (ys := [.cues]) ?_ sub h
  clear h sub
  unfold State.dropNotedCues
  repeat' (first
    | with_reducible exact Unchanged.refl _ _
    | with_reducible apply State.onCues_unchanged
    | decide)

theorem State.judgeCommits_unchanged {xs : List Block} {s u : State}
    (sub : covers xs [.bus, .table, .cues, .face] = true) (h : Unchanged xs s u) : Unchanged xs s (u.judgeCommits) := by
  refine Unchanged.step (ys := [.bus, .table, .cues, .face]) ?_ sub h
  clear h sub
  unfold State.judgeCommits
  repeat' (first
    | with_reducible exact Unchanged.refl _ _
    | with_reducible refine Unchanged.trans ?_ (Unchanged.foldl _ (fun t a => by apply State.judgeNoted_unchanged; decide; exact Unchanged.refl _ _) _ _)
    | with_reducible apply State.judgeNoted_unchanged
    | with_reducible apply State.dropNotedCues_unchanged
    | decide)

theorem State.cancelQueue_unchanged {xs : List Block} {s u : State}
    (sub : covers xs [.bus, .table, .cues] = true) (h : Unchanged xs s u) : Unchanged xs s (u.cancelQueue) := by
  refine Unchanged.step (ys := [.bus, .table, .cues]) ?_ sub h
  clear h sub
  unfold State.cancelQueue
  repeat' (first
    | with_reducible exact Unchanged.refl _ _
    | with_reducible refine Unchanged.trans ?_ (Unchanged.foldl _ (fun t a => by apply State.endQueued_unchanged; decide; exact Unchanged.refl _ _) _ _)
    | with_reducible apply State.endQueued_unchanged
    | decide)

theorem State.prepare_unchanged {xs : List Block} {s u : State}
    (sub : covers xs [.bus, .table] = true) (h : Unchanged xs s u) : Unchanged xs s (u.prepare) := by
  refine Unchanged.step (ys := [.bus, .table]) ?_ sub h
  clear h sub
  unfold State.prepare
  dsimp only
  repeat' (first
    | with_reducible exact Unchanged.refl _ _
    | with_reducible apply State.onBus_unchanged
    | with_reducible apply State.wipeChoice_unchanged
    | with_reducible apply State.verifyChoice_unchanged
    | decide)

theorem State.grantWriteBack_unchanged {xs : List Block} {s u : State} (r : OwnRequest)
    (sub : covers xs [.bus, .cues] = true) (h : Unchanged xs s u) : Unchanged xs s (u.grantWriteBack r) := by
  refine Unchanged.step (ys := [.bus, .cues]) ?_ sub h
  clear h sub
  unfold State.grantWriteBack
  dsimp only
  repeat' (first
    | with_reducible exact Unchanged.refl _ _
    | with_reducible apply State.onBus_unchanged
    | with_reducible apply State.onCues_unchanged
    | with_reducible apply State.onSlot_unchanged
    | decide
    | split)

theorem State.grantOwn_unchanged {xs : List Block} {s u : State}
    (sub : covers xs [.bus, .cues] = true) (h : Unchanged xs s u) : Unchanged xs s (u.grantOwn) := by
  refine Unchanged.step (ys := [.bus, .cues]) ?_ sub h
  clear h sub
  unfold State.grantOwn
  repeat' (first
    | with_reducible exact Unchanged.refl _ _
    | with_reducible apply State.onBus_unchanged
    | with_reducible apply State.grantWriteBack_unchanged
    | decide
    | split)

theorem State.arbitrate_unchanged {xs : List Block} {s u : State}
    (sub : covers xs [.due, .bus, .cues] = true) (h : Unchanged xs s u) : Unchanged xs s (u.arbitrate) := by
  refine Unchanged.step (ys := [.due, .bus, .cues]) ?_ sub h
  clear h sub
  unfold State.arbitrate
  repeat' (first
    | with_reducible exact Unchanged.refl _ _
    | with_reducible apply State.addDue_unchanged
    | with_reducible apply State.grantOwn_unchanged
    | decide
    | split)

theorem State.settlePair_unchanged {xs : List Block} {s u : State} (before : Option SlotNo)
    (sub : covers xs [.due, .face] = true) (h : Unchanged xs s u) : Unchanged xs s (u.settlePair before) := by
  refine Unchanged.step (ys := [.due, .face]) ?_ sub h
  clear h sub
  unfold State.settlePair
  dsimp only
  repeat' (first
    | with_reducible exact Unchanged.refl _ _
    | with_reducible apply State.onFace_unchanged
    | with_reducible apply State.dropDue_unchanged
    | decide
    | split)

theorem State.after_unchanged {xs : List Block} {s u : State} (before : State)
    (sub : covers xs [.due, .bus, .table, .cues, .face] = true) (h : Unchanged xs s u) : Unchanged xs s (State.after before u) := by
  refine Unchanged.step (ys := [.due, .bus, .table, .cues, .face]) ?_ sub h
  clear h sub
  unfold State.after
  repeat' (first
    | with_reducible exact Unchanged.refl _ _
    | with_reducible apply State.prepare_unchanged
    | with_reducible apply State.arbitrate_unchanged
    | with_reducible apply State.settlePair_unchanged
    | decide)

theorem Unchanged.event {s t : State} {f : State → State} {xs : List Block} (h : Unchanged xs s t)
    (hf : Unchanged xs t (f t)) (sub : covers xs [.due, .bus, .table, .cues, .face] = true) :
    Unchanged xs s (t.event f) :=
  h.trans (State.after_unchanged t sub hf)

theorem State.freePort_unchanged {xs : List Block} {s u : State}
    (sub : covers xs [.bus] = true) (h : Unchanged xs s u) : Unchanged xs s (u.freePort) := by
  refine Unchanged.step (ys := [.bus]) ?_ sub h
  clear h sub
  unfold State.freePort
  repeat' (first
    | with_reducible exact Unchanged.refl _ _
    | with_reducible apply State.onBus_unchanged
    | decide)

theorem State.emptySlot_unchanged {xs : List Block} {s u : State} (n : SlotNo)
    (sub : covers xs [.table, .cues] = true) (h : Unchanged xs s u) : Unchanged xs s (u.emptySlot n) := by
  refine Unchanged.step (ys := [.table, .cues]) ?_ sub h
  clear h sub
  unfold State.emptySlot
  repeat' (first
    | with_reducible exact Unchanged.refl _ _
    | with_reducible apply State.onSlot_unchanged
    | with_reducible apply State.freeRetired_unchanged
    | decide
    | split)

theorem State.endWriteBack_unchanged {xs : List Block} {s u : State} (p : Burst) (st : MemStatus)
    (sub : covers xs [.table, .cues, .faults] = true) (h : Unchanged xs s u) : Unchanged xs s (u.endWriteBack p st) := by
  refine Unchanged.step (ys := [.table, .cues, .faults]) ?_ sub h
  clear h sub
  unfold State.endWriteBack
  dsimp only
  repeat' (first
    | with_reducible exact Unchanged.refl _ _
    | with_reducible apply State.offer_unchanged
    | with_reducible apply State.emptySlot_unchanged
    | decide
    | split)

theorem State.endWipeService_unchanged {xs : List Block} {s u : State} (k : BufferNo) (st : ServiceState) (e : ServiceError)
    (sub : covers xs [.link] = true) (h : Unchanged xs s u) : Unchanged xs s (u.endWipeService k st e) := by
  refine Unchanged.step (ys := [.link]) ?_ sub h
  clear h sub
  unfold State.endWipeService
  repeat' (first
    | with_reducible exact Unchanged.refl _ _
    | with_reducible apply State.setService_unchanged
    | decide
    | split)

theorem State.endSweep_unchanged {xs : List Block} {s u : State}
    (sub : covers xs [.table] = true) (h : Unchanged xs s u) : Unchanged xs s (u.endSweep) := by
  refine Unchanged.step (ys := [.table]) ?_ sub h
  clear h sub
  unfold State.endSweep
  repeat' (first
    | with_reducible exact Unchanged.refl _ _
    | with_reducible apply State.onTable_unchanged
    | decide)

theorem State.endWipe_unchanged {xs : List Block} {s u : State} (st : MemStatus)
    (sub : covers xs [.table, .faults, .link] = true) (h : Unchanged xs s u) : Unchanged xs s (u.endWipe st) := by
  refine Unchanged.step (ys := [.table, .faults, .link]) ?_ sub h
  clear h sub
  unfold State.endWipe
  dsimp only
  repeat' (first
    | with_reducible exact Unchanged.refl _ _
    | with_reducible apply State.onBuffer_unchanged
    | with_reducible apply State.offer_unchanged
    | with_reducible apply State.endWipeService_unchanged
    | with_reducible apply State.endSweep_unchanged
    | decide
    | split)

theorem State.rejectVerify_unchanged {xs : List Block} {s u : State} (k : BufferNo) (crc : Option Half) (reason : Reason)
    (sub : covers xs [.table, .cues] = true) (h : Unchanged xs s u) : Unchanged xs s (u.rejectVerify k crc reason) := by
  refine Unchanged.step (ys := [.table, .cues]) ?_ sub h
  clear h sub
  unfold State.rejectVerify
  dsimp only
  repeat' (first
    | with_reducible exact Unchanged.refl _ _
    | with_reducible apply State.onTable_unchanged
    | with_reducible apply State.onBuffer_unchanged
    | with_reducible apply State.returnBuffer_unchanged
    | with_reducible apply State.rejectQueued_unchanged
    | decide
    | split)

theorem State.finishVerify_unchanged {xs : List Block} {s u : State} (w : VerifyWork)
    (sub : covers xs [.table, .cues] = true) (h : Unchanged xs s u) : Unchanged xs s (u.finishVerify w) := by
  refine Unchanged.step (ys := [.table, .cues]) ?_ sub h
  clear h sub
  unfold State.finishVerify
  repeat' (first
    | with_reducible exact Unchanged.refl _ _
    | with_reducible apply State.onTable_unchanged
    | with_reducible apply State.onBuffer_unchanged
    | with_reducible apply State.rejectVerify_unchanged
    | decide
    | split)

theorem State.endVerify_unchanged {xs : List Block} {s u : State} (st : MemStatus) (ws : List Word)
    (sub : covers xs [.table, .cues] = true) (h : Unchanged xs s u) : Unchanged xs s (u.endVerify st ws) := by
  refine Unchanged.step (ys := [.table, .cues]) ?_ sub h
  clear h sub
  unfold State.endVerify
  dsimp only
  repeat' (first
    | with_reducible exact Unchanged.refl _ _
    | with_reducible apply State.onTable_unchanged
    | with_reducible apply State.rejectVerify_unchanged
    | with_reducible apply State.finishVerify_unchanged
    | decide
    | split)

theorem Unchanged.ownBurstEnd {xs : List Block} {s u : State} {e : Engine} {f : State → Burst → State}
    (sub : covers xs [.due, .bus, .table, .cues, .face] = true) (h : Unchanged xs s u)
    (hf : ∀ t p, Unchanged xs t (f t p)) : Unchanged xs s (u.ownBurstEnd e f) := by
  have bus : covers xs [.bus] = true := by
    have := subset_of_covers sub
    exact covers_of_subset fun x hx => this (by simp at hx; simp [hx])
  unfold State.ownBurstEnd
  split
  · exact h
  · refine Unchanged.event h ?_ sub
    split
    · exact State.freePort_unchanged bus (Unchanged.refl _ _)
    · exact Unchanged.trans (State.freePort_unchanged bus (Unchanged.refl _ _)) (hf _ _)

theorem State.showFirst_unchanged {xs : List Block} {s u : State} (e : QueueEntry)
    (sub : covers xs [.cues, .face] = true) (h : Unchanged xs s u) : Unchanged xs s (u.showFirst e) := by
  refine Unchanged.step (ys := [.cues, .face]) ?_ sub h
  clear h sub
  unfold State.showFirst
  dsimp only
  repeat' (first
    | with_reducible exact Unchanged.refl _ _
    | with_reducible apply State.onFace_unchanged
    | with_reducible apply State.setOutcome_unchanged
    | decide
    | split)

theorem State.setInterim_unchanged {xs : List Block} {s u : State} (n : SlotNo) (o : CueOutcome)
    (sub : covers xs [.cues] = true) (h : Unchanged xs s u) : Unchanged xs s (u.setInterim n o) := by
  refine Unchanged.step (ys := [.cues]) ?_ sub h
  clear h sub
  unfold State.setInterim
  repeat' (first
    | with_reducible exact Unchanged.refl _ _
    | with_reducible apply State.setOutcome_unchanged
    | decide)

theorem State.retireShowing_unchanged {xs : List Block} {s u : State}
    (sub : covers xs [.table, .cues] = true) (h : Unchanged xs s u) : Unchanged xs s (u.retireShowing) := by
  refine Unchanged.step (ys := [.table, .cues]) ?_ sub h
  clear h sub
  unfold State.retireShowing
  repeat' (first
    | with_reducible exact Unchanged.refl _ _
    | with_reducible apply State.onBuffer_unchanged
    | with_reducible apply State.closeSlot_unchanged
    | decide
    | split)

theorem State.bufferToShowing_unchanged {xs : List Block} {s u : State} (b : Option BufferNo)
    (sub : covers xs [.table] = true) (h : Unchanged xs s u) : Unchanged xs s (u.bufferToShowing b) := by
  refine Unchanged.step (ys := [.table]) ?_ sub h
  clear h sub
  unfold State.bufferToShowing
  repeat' (first
    | with_reducible exact Unchanged.refl _ _
    | with_reducible apply State.onBuffer_unchanged
    | decide
    | split)

theorem State.swapIn_unchanged {xs : List Block} {s u : State} (e : QueueEntry)
    (sub : covers xs [.table, .cues, .face] = true) (h : Unchanged xs s u) : Unchanged xs s (u.swapIn e) := by
  refine Unchanged.step (ys := [.table, .cues, .face]) ?_ sub h
  clear h sub
  unfold State.swapIn
  dsimp only
  repeat' (first
    | with_reducible exact Unchanged.refl _ _
    | with_reducible apply State.onFace_unchanged
    | with_reducible apply State.dequeue_unchanged
    | with_reducible apply State.showFirst_unchanged
    | with_reducible apply State.bufferToShowing_unchanged
    | decide)

theorem State.suspendShowing_unchanged {xs : List Block} {s u : State}
    (sub : covers xs [.table, .cues] = true) (h : Unchanged xs s u) : Unchanged xs s (u.suspendShowing) := by
  refine Unchanged.step (ys := [.table, .cues]) ?_ sub h
  clear h sub
  unfold State.suspendShowing
  repeat' (first
    | with_reducible exact Unchanged.refl _ _
    | with_reducible apply State.onBuffer_unchanged
    | with_reducible apply State.setInterim_unchanged
    | decide
    | split)

theorem State.preempt_unchanged {xs : List Block} {s u : State} (e : QueueEntry)
    (sub : covers xs [.table, .cues, .face] = true) (h : Unchanged xs s u) : Unchanged xs s (u.preempt e) := by
  refine Unchanged.step (ys := [.table, .cues, .face]) ?_ sub h
  clear h sub
  unfold State.preempt
  dsimp only
  repeat' (first
    | with_reducible exact Unchanged.refl _ _
    | with_reducible apply State.onFace_unchanged
    | with_reducible apply State.dequeue_unchanged
    | with_reducible apply State.showFirst_unchanged
    | with_reducible apply State.bufferToShowing_unchanged
    | with_reducible apply State.suspendShowing_unchanged
    | decide)

theorem State.closeNotice_unchanged {xs : List Block} {s u : State}
    (sub : covers xs [.table, .cues, .face] = true) (h : Unchanged xs s u) : Unchanged xs s (u.closeNotice) := by
  refine Unchanged.step (ys := [.table, .cues, .face]) ?_ sub h
  clear h sub
  unfold State.closeNotice
  dsimp only
  repeat' (first
    | with_reducible exact Unchanged.refl _ _
    | with_reducible apply State.onFace_unchanged
    | with_reducible apply State.onBuffer_unchanged
    | with_reducible apply State.closeSlot_unchanged
    | decide
    | split)

theorem State.resume_unchanged {xs : List Block} {s u : State} (sel : Showing) (n : SlotNo) (c : Fin 4)
    (sub : covers xs [.cues, .face] = true) (h : Unchanged xs s u) : Unchanged xs s (u.resume sel n c) := by
  refine Unchanged.step (ys := [.cues, .face]) ?_ sub h
  clear h sub
  unfold State.resume
  dsimp only
  repeat' (first
    | with_reducible exact Unchanged.refl _ _
    | with_reducible apply State.onFace_unchanged
    | with_reducible apply State.setInterim_unchanged
    | decide)

theorem State.goBlack_unchanged {xs : List Block} {s u : State}
    (sub : covers xs [.face] = true) (h : Unchanged xs s u) : Unchanged xs s (u.goBlack) := by
  refine Unchanged.step (ys := [.face]) ?_ sub h
  clear h sub
  unfold State.goBlack
  repeat' (first
    | with_reducible exact Unchanged.refl _ _
    | with_reducible apply State.onFace_unchanged
    | decide)

theorem State.endNotice_unchanged {xs : List Block} {s u : State}
    (sub : covers xs [.table, .cues, .face] = true) (h : Unchanged xs s u) : Unchanged xs s (u.endNotice) := by
  refine Unchanged.step (ys := [.table, .cues, .face]) ?_ sub h
  clear h sub
  unfold State.endNotice
  dsimp only
  repeat' (first
    | with_reducible exact Unchanged.refl _ _
    | with_reducible apply State.onBuffer_unchanged
    | with_reducible apply State.swapIn_unchanged
    | with_reducible apply State.closeNotice_unchanged
    | with_reducible apply State.resume_unchanged
    | with_reducible apply State.goBlack_unchanged
    | decide
    | split)

theorem State.showDecision_unchanged {xs : List Block} {s u : State}
    (sub : covers xs [.table, .cues, .face] = true) (h : Unchanged xs s u) : Unchanged xs s (u.showDecision) := by
  refine Unchanged.step (ys := [.table, .cues, .face]) ?_ sub h
  clear h sub
  unfold State.showDecision
  repeat' (first
    | with_reducible exact Unchanged.refl _ _
    | with_reducible apply State.retireShowing_unchanged
    | with_reducible apply State.swapIn_unchanged
    | with_reducible apply State.preempt_unchanged
    | with_reducible apply State.endNotice_unchanged
    | decide
    | split)

theorem State.advanceSequence_unchanged {xs : List Block} {s u : State}
    (sub : covers xs [.face] = true) (h : Unchanged xs s u) : Unchanged xs s (u.advanceSequence) := by
  refine Unchanged.step (ys := [.face]) ?_ sub h
  clear h sub
  unfold State.advanceSequence
  repeat' (first
    | with_reducible exact Unchanged.refl _ _
    | with_reducible apply State.onFace_unchanged
    | decide)

theorem State.resumeScan_unchanged {xs : List Block} {s u : State}
    (sub : covers xs [.face, .faults] = true) (h : Unchanged xs s u) : Unchanged xs s (u.resumeScan) := by
  refine Unchanged.step (ys := [.face, .faults]) ?_ sub h
  clear h sub
  unfold State.resumeScan
  dsimp only
  repeat' (first
    | with_reducible exact Unchanged.refl _ _
    | with_reducible apply State.onFace_unchanged
    | with_reducible apply State.offer_unchanged
    | decide
    | split)

theorem State.showRefreshStart_unchanged {xs : List Block} {s u : State}
    (sub : covers xs [.due, .table, .cues, .face, .faults] = true) (h : Unchanged xs s u) : Unchanged xs s (u.showRefreshStart) := by
  refine Unchanged.step (ys := [.due, .table, .cues, .face, .faults]) ?_ sub h
  clear h sub
  unfold State.showRefreshStart
  dsimp only
  repeat' (first
    | with_reducible exact Unchanged.refl _ _
    | with_reducible apply State.settlePair_unchanged
    | with_reducible apply State.showDecision_unchanged
    | with_reducible apply State.advanceSequence_unchanged
    | with_reducible apply State.resumeScan_unchanged
    | decide)

theorem State.endTest_unchanged {xs : List Block} {s u : State} (i : TileNo) (passed : Bool)
    (sub : covers xs [.tiles, .faults, .test, .link] = true) (h : Unchanged xs s u) : Unchanged xs s (u.endTest i passed) := by
  refine Unchanged.step (ys := [.tiles, .faults, .test, .link]) ?_ sub h
  clear h sub
  unfold State.endTest
  repeat' (first
    | with_reducible exact Unchanged.refl _ _
    | with_reducible apply State.onTest_unchanged
    | with_reducible apply State.setService_unchanged
    | with_reducible apply State.tilePassed_unchanged
    | with_reducible apply State.tileFailed_unchanged
    | decide
    | split)

theorem State.stallTest_unchanged {xs : List Block} {s u : State}
    (sub : covers xs [.test, .link] = true) (h : Unchanged xs s u) : Unchanged xs s (u.stallTest) := by
  refine Unchanged.step (ys := [.test, .link]) ?_ sub h
  clear h sub
  unfold State.stallTest
  repeat' (first
    | with_reducible exact Unchanged.refl _ _
    | with_reducible apply State.onTest_unchanged
    | with_reducible apply State.setService_unchanged
    | decide
    | split)

theorem State.endAttempt_unchanged {xs : List Block} {s u : State} (r : AttemptResult)
    (sub : covers xs [.tiles, .faults, .test, .link] = true) (h : Unchanged xs s u) : Unchanged xs s (u.endAttempt r) := by
  refine Unchanged.step (ys := [.tiles, .faults, .test, .link]) ?_ sub h
  clear h sub
  unfold State.endAttempt
  dsimp only
  repeat' (first
    | with_reducible exact Unchanged.refl _ _
    | with_reducible apply State.onTest_unchanged
    | with_reducible apply State.endTest_unchanged
    | decide
    | split)

theorem State.testReport_unchanged {xs : List Block} {s u : State} (seq : Byte) (c : Comparison) (dark : BitVec 12)
    (sub : covers xs [.tiles, .faults, .test, .link] = true) (h : Unchanged xs s u) : Unchanged xs s (u.testReport seq c dark) := by
  refine Unchanged.step (ys := [.tiles, .faults, .test, .link]) ?_ sub h
  clear h sub
  unfold State.testReport
  repeat' (first
    | with_reducible exact Unchanged.refl _ _
    | with_reducible apply State.onTest_unchanged
    | with_reducible apply State.endAttempt_unchanged
    | decide
    | split)

theorem State.beginAttempt_unchanged {xs : List Block} {s u : State}
    (sub : covers xs [.test] = true) (h : Unchanged xs s u) : Unchanged xs s (u.beginAttempt) := by
  refine Unchanged.step (ys := [.test]) ?_ sub h
  clear h sub
  unfold State.beginAttempt
  repeat' (first
    | with_reducible exact Unchanged.refl _ _
    | with_reducible apply State.onTest_unchanged
    | decide
    | split)

theorem State.testStep_unchanged {xs : List Block} {s u : State}
    (sub : covers xs [.tiles, .faults, .test, .link] = true) (h : Unchanged xs s u) : Unchanged xs s (u.testStep) := by
  refine Unchanged.step (ys := [.tiles, .faults, .test, .link]) ?_ sub h
  clear h sub
  unfold State.testStep
  dsimp only
  repeat' (first
    | with_reducible exact Unchanged.refl _ _
    | with_reducible apply State.onTest_unchanged
    | with_reducible apply State.endAttempt_unchanged
    | with_reducible apply State.beginAttempt_unchanged
    | decide
    | split)

theorem State.endWait_unchanged {xs : List Block} {s u : State}
    (sub : covers xs [.tiles, .faults, .test, .link] = true) (h : Unchanged xs s u) : Unchanged xs s (u.endWait) := by
  refine Unchanged.step (ys := [.tiles, .faults, .test, .link]) ?_ sub h
  clear h sub
  unfold State.endWait
  repeat' (first
    | with_reducible exact Unchanged.refl _ _
    | with_reducible apply State.endAttempt_unchanged
    | with_reducible apply State.beginAttempt_unchanged
    | decide
    | split)

theorem State.countWord_unchanged {xs : List Block} {s u : State} (offset : Nat) (w : Word)
    (sub : covers xs [.tiles] = true) (h : Unchanged xs s u) : Unchanged xs s (u.countWord offset w) := by
  refine Unchanged.step (ys := [.tiles]) ?_ sub h
  clear h sub
  unfold State.countWord
  repeat' (first
    | with_reducible exact Unchanged.refl _ _
    | with_reducible apply State.onTileScan_unchanged
    | decide)

theorem State.closeRefresh_unchanged {xs : List Block} {s u : State}
    (sub : covers xs [.tiles, .scan] = true) (h : Unchanged xs s u) : Unchanged xs s (u.closeRefresh) := by
  refine Unchanged.step (ys := [.tiles, .scan]) ?_ sub h
  clear h sub
  unfold State.closeRefresh
  dsimp only
  repeat' (first
    | with_reducible exact Unchanged.refl _ _
    | with_reducible apply State.onTiles_unchanged
    | with_reducible apply State.onScan_unchanged
    | decide)

theorem State.takeReportWord_unchanged {xs : List Block} {s u : State} (i : TileNo) (word : Nat) (d : DataWord)
    (sub : covers xs [.scan] = true) (h : Unchanged xs s u) : Unchanged xs s (u.takeReportWord i word d) := by
  refine Unchanged.step (ys := [.scan]) ?_ sub h
  clear h sub
  unfold State.takeReportWord
  repeat' (first
    | with_reducible exact Unchanged.refl _ _
    | with_reducible apply State.onScan_unchanged
    | decide
    | split)

theorem State.fileReport_unchanged {xs : List Block} {s u : State} (i : TileNo) (r : Report) (c : Comparison)
    (sub : covers xs [.tiles] = true) (h : Unchanged xs s u) : Unchanged xs s (u.fileReport i r c) := by
  refine Unchanged.step (ys := [.tiles]) ?_ sub h
  clear h sub
  unfold State.fileReport
  repeat' (first
    | with_reducible exact Unchanged.refl _ _
    | with_reducible apply State.onTileScan_unchanged
    | decide)

theorem State.handOvertemp_unchanged {xs : List Block} {s u : State} (i : TileNo) (r : Report)
    (sub : covers xs [.tiles, .faults] = true) (h : Unchanged xs s u) : Unchanged xs s (u.handOvertemp i r) := by
  refine Unchanged.step (ys := [.tiles, .faults]) ?_ sub h
  clear h sub
  unfold State.handOvertemp
  dsimp only
  repeat' (first
    | with_reducible exact Unchanged.refl _ _
    | with_reducible apply State.setDerate_unchanged
    | with_reducible apply State.offer_unchanged
    | decide
    | split)

theorem State.handEvents_unchanged {xs : List Block} {s u : State} (i : TileNo) (r : Report) (c : Comparison)
    (sub : covers xs [.tiles, .faults] = true) (h : Unchanged xs s u) : Unchanged xs s (u.handEvents i r c) := by
  refine Unchanged.step (ys := [.tiles, .faults]) ?_ sub h
  clear h sub
  unfold State.handEvents
  dsimp only
  repeat' (first
    | with_reducible exact Unchanged.refl _ _
    | with_reducible refine Unchanged.trans ?_ (Unchanged.foldl _ (fun t a => by apply State.tileEvent_unchanged; decide; exact Unchanged.refl _ _) _ _)
    | with_reducible apply State.tileEvent_unchanged
    | with_reducible apply State.goodReport_unchanged
    | decide
    | split)

theorem State.judgeReport_unchanged {xs : List Block} {s u : State} (i : TileNo) (r : Report)
    (sub : covers xs [.tiles, .faults, .test, .link] = true) (h : Unchanged xs s u) : Unchanged xs s (u.judgeReport i r) := by
  refine Unchanged.step (ys := [.tiles, .faults, .test, .link]) ?_ sub h
  clear h sub
  unfold State.judgeReport
  dsimp only
  repeat' (first
    | with_reducible exact Unchanged.refl _ _
    | with_reducible apply State.testReport_unchanged
    | with_reducible apply State.fileReport_unchanged
    | with_reducible apply State.handOvertemp_unchanged
    | with_reducible apply State.handEvents_unchanged
    | decide
    | split)

theorem State.makeReport_unchanged {xs : List Block} {s u : State} (i : TileNo) (w3 : Word)
    (sub : covers xs [.tiles, .faults, .test, .link] = true) (h : Unchanged xs s u) : Unchanged xs s (u.makeReport i w3) := by
  refine Unchanged.step (ys := [.tiles, .faults, .test, .link]) ?_ sub h
  clear h sub
  unfold State.makeReport
  dsimp only
  repeat' (first
    | with_reducible exact Unchanged.refl _ _
    | with_reducible apply State.onTileScan_unchanged
    | with_reducible apply State.offer_unchanged
    | with_reducible apply State.judgeReport_unchanged
    | decide
    | split)

theorem State.reportNoted_unchanged {xs : List Block} {s u : State} (w : NotedWord 128)
    (sub : covers xs [.tiles, .faults, .test, .link] = true) (h : Unchanged xs s u) : Unchanged xs s (u.reportNoted w) := by
  refine Unchanged.step (ys := [.tiles, .faults, .test, .link]) ?_ sub h
  clear h sub
  unfold State.reportNoted
  repeat' (first
    | with_reducible exact Unchanged.refl _ _
    | with_reducible apply State.makeReport_unchanged
    | decide
    | split)

theorem State.dropNotedReports_unchanged {xs : List Block} {s u : State}
    (sub : covers xs [.scan] = true) (h : Unchanged xs s u) : Unchanged xs s (u.dropNotedReports) := by
  refine Unchanged.step (ys := [.scan]) ?_ sub h
  clear h sub
  unfold State.dropNotedReports
  repeat' (first
    | with_reducible exact Unchanged.refl _ _
    | with_reducible apply State.onScan_unchanged
    | decide)

theorem State.makeReports_unchanged {xs : List Block} {s u : State}
    (sub : covers xs [.tiles, .scan, .faults, .test, .link] = true) (h : Unchanged xs s u) : Unchanged xs s (u.makeReports) := by
  refine Unchanged.step (ys := [.tiles, .scan, .faults, .test, .link]) ?_ sub h
  clear h sub
  unfold State.makeReports
  repeat' (first
    | with_reducible exact Unchanged.refl _ _
    | with_reducible refine Unchanged.trans ?_ (Unchanged.foldl _ (fun t a => by apply State.reportNoted_unchanged; decide; exact Unchanged.refl _ _) _ _)
    | with_reducible apply State.reportNoted_unchanged
    | with_reducible apply State.dropNotedReports_unchanged
    | decide)

theorem State.judgeHeld_unchanged {xs : List Block} {s u : State} (i : TileNo)
    (sub : covers xs [.tiles, .faults, .test, .link] = true) (h : Unchanged xs s u) : Unchanged xs s (u.judgeHeld i) := by
  refine Unchanged.step (ys := [.tiles, .faults, .test, .link]) ?_ sub h
  clear h sub
  unfold State.judgeHeld
  repeat' (first
    | with_reducible exact Unchanged.refl _ _
    | with_reducible apply State.onTileScan_unchanged
    | with_reducible apply State.judgeReport_unchanged
    | decide
    | split)

theorem State.judgeHeldReports_unchanged {xs : List Block} {s u : State}
    (sub : covers xs [.tiles, .faults, .test, .link] = true) (h : Unchanged xs s u) : Unchanged xs s (u.judgeHeldReports) := by
  refine Unchanged.step (ys := [.tiles, .faults, .test, .link]) ?_ sub h
  clear h sub
  unfold State.judgeHeldReports
  repeat' (first
    | with_reducible exact Unchanged.refl _ _
    | with_reducible refine Unchanged.trans ?_ (Unchanged.foldl _ (fun t a => by apply State.judgeHeld_unchanged; decide; exact Unchanged.refl _ _) _ _)
    | with_reducible apply State.judgeHeld_unchanged
    | decide)

theorem State.silenceSteps_unchanged {xs : List Block} {s u : State}
    (sub : covers xs [.tiles] = true) (h : Unchanged xs s u) : Unchanged xs s (u.silenceSteps) := by
  refine Unchanged.step (ys := [.tiles]) ?_ sub h
  clear h sub
  unfold State.silenceSteps
  dsimp only
  repeat' (first
    | with_reducible exact Unchanged.refl _ _
    | with_reducible apply State.onTiles_unchanged
    | decide
    | split)

theorem State.fallSilent_unchanged {xs : List Block} {s u : State} (i : TileNo)
    (sub : covers xs [.tiles, .faults] = true) (h : Unchanged xs s u) : Unchanged xs s (u.fallSilent i) := by
  refine Unchanged.step (ys := [.tiles, .faults]) ?_ sub h
  clear h sub
  unfold State.fallSilent
  repeat' (first
    | with_reducible exact Unchanged.refl _ _
    | with_reducible apply State.onTileScan_unchanged
    | with_reducible apply State.tileEvent_unchanged
    | decide
    | split)

theorem State.refreshStart_unchanged {xs : List Block} {s u : State}
    (sub : covers xs [.due, .bus, .table, .cues, .face, .tiles, .scan, .faults, .test, .link] = true) (h : Unchanged xs s u) : Unchanged xs s (u.refreshStart) := by
  refine Unchanged.step (ys := [.due, .bus, .table, .cues, .face, .tiles, .scan, .faults, .test, .link]) ?_ sub h
  clear h sub
  unfold State.refreshStart
  dsimp only
  repeat' (first
    | with_reducible exact Unchanged.refl _ _
    | with_reducible apply State.onBus_unchanged
    | with_reducible apply State.addDuesFirst_unchanged
    | with_reducible apply State.rampAll_unchanged
    | with_reducible apply State.showRefreshStart_unchanged
    | with_reducible apply State.testStep_unchanged
    | with_reducible apply State.closeRefresh_unchanged
    | with_reducible apply State.judgeHeldReports_unchanged
    | with_reducible apply State.silenceSteps_unchanged
    | decide)

theorem State.tellBuffers_unchanged {xs : List Block} {s u : State} (t : TxRecord)
    (sub : covers xs [.table] = true) (h : Unchanged xs s u) : Unchanged xs s (u.tellBuffers t) := by
  refine Unchanged.step (ys := [.table]) ?_ sub h
  clear h sub
  unfold State.tellBuffers
  dsimp only
  repeat' (first
    | with_reducible exact Unchanged.refl _ _
    | with_reducible apply State.onBuffers_unchanged
    | decide
    | split)

theorem State.complete_unchanged {xs : List Block} {s u : State} (st : Completion)
    (sub : covers xs [.bus] = true) (h : Unchanged xs s u) : Unchanged xs s (u.complete st) := by
  refine Unchanged.step (ys := [.bus]) ?_ sub h
  clear h sub
  unfold State.complete
  repeat' (first
    | with_reducible exact Unchanged.refl _ _
    | with_reducible apply State.onBus_unchanged
    | decide)

theorem State.enact_unchanged {xs : List Block} {s u : State} (t : TxRecord)
    (sub : covers xs [.due, .bus, .table, .cues] = true) (h : Unchanged xs s u) : Unchanged xs s (u.enact t) := by
  refine Unchanged.step (ys := [.due, .bus, .table, .cues]) ?_ sub h
  clear h sub
  unfold State.enact
  dsimp only
  repeat' (first
    | with_reducible exact Unchanged.refl _ _
    | with_reducible apply State.onBus_unchanged
    | with_reducible apply State.arbitrate_unchanged
    | with_reducible apply State.tellBuffers_unchanged
    | with_reducible apply State.complete_unchanged
    | decide
    | split)

theorem State.takeTransaction_unchanged {xs : List Block} {s u : State} (p : Presented)
    (sub : covers xs [.due, .bus, .table, .cues, .face, .tiles, .scan, .faults, .test, .link] = true) (h : Unchanged xs s u) : Unchanged xs s (u.takeTransaction p) := by
  refine Unchanged.step (ys := [.due, .bus, .table, .cues, .face, .tiles, .scan, .faults, .test, .link]) ?_ sub h
  clear h sub
  unfold State.takeTransaction
  dsimp only
  repeat' (first
    | with_reducible exact Unchanged.refl _ _
    | with_reducible apply State.prepare_unchanged
    | with_reducible apply State.refreshStart_unchanged
    | with_reducible apply State.enact_unchanged
    | decide
    | split)

theorem State.takePresented_unchanged {xs : List Block} {s u : State}
    (sub : covers xs [.due, .bus, .table, .cues, .face, .tiles, .scan, .faults, .test, .link] = true) (h : Unchanged xs s u) : Unchanged xs s (u.takePresented) := by
  refine Unchanged.step (ys := [.due, .bus, .table, .cues, .face, .tiles, .scan, .faults, .test, .link]) ?_ sub h
  clear h sub
  unfold State.takePresented
  repeat' (first
    | with_reducible exact Unchanged.refl _ _
    | with_reducible apply State.takeTransaction_unchanged
    | decide
    | split)

theorem State.present_unchanged {xs : List Block} {s u : State} (p : Presented)
    (sub : covers xs [.due, .bus, .table, .cues, .face, .tiles, .scan, .faults, .test, .link] = true) (h : Unchanged xs s u) : Unchanged xs s (u.present p) := by
  refine Unchanged.step (ys := [.due, .bus, .table, .cues, .face, .tiles, .scan, .faults, .test, .link]) ?_ sub h
  clear h sub
  unfold State.present
  repeat' (first
    | with_reducible exact Unchanged.refl _ _
    | with_reducible apply State.onBus_unchanged
    | with_reducible apply State.takePresented_unchanged
    | decide
    | split)

theorem State.handWord_unchanged {xs : List Block} {s u : State} (t : TxRecord) (d : DataWord)
    (sub : covers xs [.cues, .scan] = true) (h : Unchanged xs s u) : Unchanged xs s (u.handWord t d) := by
  refine Unchanged.step (ys := [.cues, .scan]) ?_ sub h
  clear h sub
  unfold State.handWord
  dsimp only
  repeat' (first
    | with_reducible exact Unchanged.refl _ _
    | with_reducible apply State.takeCueWord_unchanged
    | with_reducible apply State.takeReportWord_unchanged
    | decide
    | split)

theorem State.finishRefused_unchanged {xs : List Block} {s u : State} (t : TxRecord)
    (sub : covers xs [.due, .bus, .cues] = true) (h : Unchanged xs s u) : Unchanged xs s (u.finishRefused t) := by
  refine Unchanged.step (ys := [.due, .bus, .cues]) ?_ sub h
  clear h sub
  unfold State.finishRefused
  repeat' (first
    | with_reducible exact Unchanged.refl _ _
    | with_reducible apply State.arbitrate_unchanged
    | with_reducible apply State.complete_unchanged
    | decide
    | split)

theorem State.writeWord_unchanged {xs : List Block} {s u : State} (d : DataWord)
    (sub : covers xs [.due, .bus, .cues, .scan] = true) (h : Unchanged xs s u) : Unchanged xs s (u.writeWord d) := by
  refine Unchanged.step (ys := [.due, .bus, .cues, .scan]) ?_ sub h
  clear h sub
  unfold State.writeWord
  repeat' (first
    | with_reducible exact Unchanged.refl _ _
    | with_reducible apply State.onBus_unchanged
    | with_reducible apply State.handWord_unchanged
    | with_reducible apply State.finishRefused_unchanged
    | decide
    | split)

theorem State.drive_unchanged {xs : List Block} {s u : State} (t : TxRecord) (w : Word)
    (sub : covers xs [.bus] = true) (h : Unchanged xs s u) : Unchanged xs s (u.drive t w) := by
  refine Unchanged.step (ys := [.bus]) ?_ sub h
  clear h sub
  unfold State.drive
  repeat' (first
    | with_reducible exact Unchanged.refl _ _
    | with_reducible apply State.onBus_unchanged
    | decide)

theorem State.finishAnswer_unchanged {xs : List Block} {s u : State} (t : TxRecord)
    (sub : covers xs [.due, .bus, .cues] = true) (h : Unchanged xs s u) : Unchanged xs s (u.finishAnswer t) := by
  refine Unchanged.step (ys := [.due, .bus, .cues]) ?_ sub h
  clear h sub
  unfold State.finishAnswer
  repeat' (first
    | with_reducible exact Unchanged.refl _ _
    | with_reducible apply State.arbitrate_unchanged
    | with_reducible apply State.complete_unchanged
    | decide
    | split)

theorem State.deliverWord_unchanged {xs : List Block} {s u : State} (t : TxRecord) (w : Word)
    (sub : covers xs [.bus, .tiles] = true) (h : Unchanged xs s u) : Unchanged xs s (u.deliverWord t w) := by
  refine Unchanged.step (ys := [.bus, .tiles]) ?_ sub h
  clear h sub
  unfold State.deliverWord
  dsimp only
  repeat' (first
    | with_reducible exact Unchanged.refl _ _
    | with_reducible apply State.countWord_unchanged
    | with_reducible apply State.drive_unchanged
    | decide
    | split)

theorem State.readWord_unchanged {xs : List Block} {s u : State} (w : Word)
    (sub : covers xs [.due, .bus, .cues, .tiles] = true) (h : Unchanged xs s u) : Unchanged xs s (u.readWord w) := by
  refine Unchanged.step (ys := [.due, .bus, .cues, .tiles]) ?_ sub h
  clear h sub
  unfold State.readWord
  repeat' (first
    | with_reducible exact Unchanged.refl _ _
    | with_reducible apply State.finishAnswer_unchanged
    | with_reducible apply State.deliverWord_unchanged
    | decide
    | split)

theorem State.endForwardedShort_unchanged {xs : List Block} {s u : State} (t : TxRecord)
    (sub : covers xs [.bus] = true) (h : Unchanged xs s u) : Unchanged xs s (u.endForwardedShort t) := by
  refine Unchanged.step (ys := [.bus]) ?_ sub h
  clear h sub
  unfold State.endForwardedShort
  repeat' (first
    | with_reducible exact Unchanged.refl _ _
    | with_reducible apply State.onBus_unchanged
    | decide)

theorem State.shortEnd_unchanged {xs : List Block} {s u : State}
    (sub : covers xs [.due, .bus, .cues] = true) (h : Unchanged xs s u) : Unchanged xs s (u.shortEnd) := by
  refine Unchanged.step (ys := [.due, .bus, .cues]) ?_ sub h
  clear h sub
  unfold State.shortEnd
  repeat' (first
    | with_reducible exact Unchanged.refl _ _
    | with_reducible apply State.arbitrate_unchanged
    | with_reducible apply State.complete_unchanged
    | with_reducible apply State.endForwardedShort_unchanged
    | decide
    | split)

theorem State.handStatus_unchanged {xs : List Block} {s u : State} (t : TxRecord) (st : MemStatus)
    (sub : covers xs [.bus, .table, .cues, .face, .tiles, .scan, .faults, .test, .link] = true) (h : Unchanged xs s u) : Unchanged xs s (u.handStatus t st) := by
  refine Unchanged.step (ys := [.bus, .table, .cues, .face, .tiles, .scan, .faults, .test, .link]) ?_ sub h
  clear h sub
  unfold State.handStatus
  dsimp only
  repeat' (first
    | with_reducible exact Unchanged.refl _ _
    | with_reducible apply State.dropNotedCues_unchanged
    | with_reducible apply State.judgeCommits_unchanged
    | with_reducible apply State.dropNotedReports_unchanged
    | with_reducible apply State.makeReports_unchanged
    | decide
    | split)

theorem State.memoryErrorRecord_unchanged {xs : List Block} {s u : State} (t : TxRecord) (st : MemStatus)
    (sub : covers xs [.bus, .faults] = true) (h : Unchanged xs s u) : Unchanged xs s (u.memoryErrorRecord t st) := by
  refine Unchanged.step (ys := [.bus, .faults]) ?_ sub h
  clear h sub
  unfold State.memoryErrorRecord
  repeat' (first
    | with_reducible exact Unchanged.refl _ _
    | with_reducible apply State.onBus_unchanged
    | with_reducible apply State.offer_unchanged
    | decide
    | split)

theorem State.endForwarded_unchanged {xs : List Block} {s u : State} (t : TxRecord) (st : MemStatus)
    (sub : covers xs [.due, .bus, .table, .cues, .face, .tiles, .scan, .faults, .test, .link] = true) (h : Unchanged xs s u) : Unchanged xs s (u.endForwarded t st) := by
  refine Unchanged.step (ys := [.due, .bus, .table, .cues, .face, .tiles, .scan, .faults, .test, .link]) ?_ sub h
  clear h sub
  unfold State.endForwarded
  repeat' (first
    | with_reducible exact Unchanged.refl _ _
    | with_reducible apply State.freePort_unchanged
    | with_reducible apply State.complete_unchanged
    | with_reducible apply State.handStatus_unchanged
    | with_reducible apply State.memoryErrorRecord_unchanged
    | with_reducible apply Unchanged.event
    | decide)

theorem State.abandonUpstream_unchanged {xs : List Block} {s u : State}
    (sub : covers xs [.lines, .bus] = true) (h : Unchanged xs s u) : Unchanged xs s (u.abandonUpstream) := by
  refine Unchanged.step (ys := [.lines, .bus]) ?_ sub h
  clear h sub
  unfold State.abandonUpstream
  repeat' (first
    | with_reducible exact Unchanged.refl _ _
    | with_reducible apply State.onLines_unchanged
    | with_reducible apply State.onBus_unchanged
    | decide)

theorem State.upstreamReset_unchanged {xs : List Block} {s u : State}
    (sub : covers xs [.due, .lines, .bus, .table, .cues, .face, .scan] = true) (h : Unchanged xs s u) : Unchanged xs s (u.upstreamReset) := by
  refine Unchanged.step (ys := [.due, .lines, .bus, .table, .cues, .face, .scan]) ?_ sub h
  clear h sub
  unfold State.upstreamReset
  dsimp only
  repeat' (first
    | with_reducible exact Unchanged.refl _ _
    | with_reducible apply State.onBus_unchanged
    | with_reducible apply State.onTable_unchanged
    | with_reducible apply State.dropNotedCues_unchanged
    | with_reducible apply State.cancelQueue_unchanged
    | with_reducible apply State.dropNotedReports_unchanged
    | with_reducible apply State.abandonUpstream_unchanged
    | with_reducible apply Unchanged.event
    | decide)

theorem State.upstreamRelease_unchanged {xs : List Block} {s u : State}
    (sub : covers xs [.due, .lines, .bus, .cues] = true) (h : Unchanged xs s u) : Unchanged xs s (u.upstreamRelease) := by
  refine Unchanged.step (ys := [.due, .lines, .bus, .cues]) ?_ sub h
  clear h sub
  unfold State.upstreamRelease
  repeat' (first
    | with_reducible exact Unchanged.refl _ _
    | with_reducible apply State.onLines_unchanged
    | with_reducible apply State.arbitrate_unchanged
    | decide)

theorem State.setChannel_unchanged {xs : List Block} {s u : State} (ch : Channel) (r : ChannelRecord)
    (sub : covers xs [.light] = true) (h : Unchanged xs s u) : Unchanged xs s (u.setChannel ch r) := by
  refine Unchanged.step (ys := [.light]) ?_ sub h
  clear h sub
  unfold State.setChannel
  repeat' (first
    | with_reducible exact Unchanged.refl _ _
    | with_reducible apply State.onLight_unchanged
    | decide)

theorem State.recomputeLight_unchanged {xs : List Block} {s u : State}
    (sub : covers xs [.light, .tiles] = true) (h : Unchanged xs s u) : Unchanged xs s (u.recomputeLight) := by
  refine Unchanged.step (ys := [.light, .tiles]) ?_ sub h
  clear h sub
  unfold State.recomputeLight
  dsimp only
  repeat' (first
    | with_reducible exact Unchanged.refl _ _
    | with_reducible apply State.onLight_unchanged
    | with_reducible apply State.handPair_unchanged
    | decide
    | split)

theorem State.endWindow_unchanged {xs : List Block} {s u : State} (ch : Channel)
    (sub : covers xs [.light, .tiles, .faults] = true) (h : Unchanged xs s u) : Unchanged xs s (u.endWindow ch) := by
  refine Unchanged.step (ys := [.light, .tiles, .faults]) ?_ sub h
  clear h sub
  unfold State.endWindow
  dsimp only
  repeat' (first
    | with_reducible exact Unchanged.refl _ _
    | with_reducible apply State.offer_unchanged
    | with_reducible apply State.setChannel_unchanged
    | with_reducible apply State.recomputeLight_unchanged
    | decide
    | split)

theorem State.tickClock_unchanged {xs : List Block} {s u : State}
    (sub : covers xs [.light, .tiles] = true) (h : Unchanged xs s u) : Unchanged xs s (u.tickClock) := by
  refine Unchanged.step (ys := [.light, .tiles]) ?_ sub h
  clear h sub
  unfold State.tickClock
  repeat' (first
    | with_reducible exact Unchanged.refl _ _
    | with_reducible apply State.onLight_unchanged
    | with_reducible apply State.recomputeLight_unchanged
    | decide)

theorem State.setClock_unchanged {xs : List Block} {s u : State} (minute second day : Nat)
    (sub : covers xs [.light, .tiles] = true) (h : Unchanged xs s u) : Unchanged xs s (u.setClock minute second day) := by
  refine Unchanged.step (ys := [.light, .tiles]) ?_ sub h
  clear h sub
  unfold State.setClock
  repeat' (first
    | with_reducible exact Unchanged.refl _ _
    | with_reducible apply State.onLight_unchanged
    | with_reducible apply State.recomputeLight_unchanged
    | decide)

theorem State.decisecond_unchanged {xs : List Block} {s u : State}
    (sub : covers xs [.due, .cues, .face, .light] = true) (h : Unchanged xs s u) : Unchanged xs s (u.decisecond) := by
  refine Unchanged.step (ys := [.due, .cues, .face, .light]) ?_ sub h
  clear h sub
  unfold State.decisecond
  dsimp only
  repeat' (first
    | with_reducible exact Unchanged.refl _ _
    | with_reducible apply State.onCues_unchanged
    | with_reducible apply State.onFace_unchanged
    | with_reducible apply State.onLight_unchanged
    | with_reducible apply State.addDues_unchanged
    | decide)

theorem State.endHoldOff_unchanged {xs : List Block} {s u : State} (n : SlotNo)
    (sub : covers xs [.due, .bus, .table, .cues, .face] = true) (h : Unchanged xs s u) : Unchanged xs s (u.endHoldOff n) := by
  refine Unchanged.step (ys := [.due, .bus, .table, .cues, .face]) ?_ sub h
  clear h sub
  unfold State.endHoldOff
  repeat' (first
    | with_reducible exact Unchanged.refl _ _
    | with_reducible apply State.onEntry_unchanged
    | with_reducible apply Unchanged.event
    | decide
    | split)

theorem State.expireCue_unchanged {xs : List Block} {s u : State} (n : SlotNo)
    (sub : covers xs [.due, .bus, .table, .cues, .face] = true) (h : Unchanged xs s u) : Unchanged xs s (u.expireCue n) := by
  refine Unchanged.step (ys := [.due, .bus, .table, .cues, .face]) ?_ sub h
  clear h sub
  unfold State.expireCue
  repeat' (first
    | with_reducible exact Unchanged.refl _ _
    | with_reducible apply State.endQueued_unchanged
    | with_reducible apply Unchanged.event
    | decide
    | split)

theorem State.endNoticeTime_unchanged {xs : List Block} {s u : State} (n : SlotNo)
    (sub : covers xs [.cues, .face] = true) (h : Unchanged xs s u) : Unchanged xs s (u.endNoticeTime n) := by
  refine Unchanged.step (ys := [.cues, .face]) ?_ sub h
  clear h sub
  unfold State.endNoticeTime
  repeat' (first
    | with_reducible exact Unchanged.refl _ _
    | with_reducible apply State.onSlot_unchanged
    | with_reducible apply State.handNoticeEnd_unchanged
    | decide
    | split)

theorem State.meetDwell_unchanged {xs : List Block} {s u : State}
    (sub : covers xs [.due, .bus, .table, .cues, .face] = true) (h : Unchanged xs s u) : Unchanged xs s (u.meetDwell) := by
  refine Unchanged.step (ys := [.due, .bus, .table, .cues, .face]) ?_ sub h
  clear h sub
  unfold State.meetDwell
  repeat' (first
    | with_reducible exact Unchanged.refl _ _
    | with_reducible apply State.onFace_unchanged
    | with_reducible apply Unchanged.event
    | decide
    | split)

theorem State.expirePairWait_unchanged {xs : List Block} {s u : State}
    (sub : covers xs [.face, .faults] = true) (h : Unchanged xs s u) : Unchanged xs s (u.expirePairWait) := by
  refine Unchanged.step (ys := [.face, .faults]) ?_ sub h
  clear h sub
  unfold State.expirePairWait
  repeat' (first
    | with_reducible exact Unchanged.refl _ _
    | with_reducible apply State.onFace_unchanged
    | with_reducible apply State.offer_unchanged
    | decide
    | split)

theorem State.stallScan_unchanged {xs : List Block} {s u : State}
    (sub : covers xs [.face, .faults, .test, .link] = true) (h : Unchanged xs s u) : Unchanged xs s (u.stallScan) := by
  refine Unchanged.step (ys := [.face, .faults, .test, .link]) ?_ sub h
  clear h sub
  unfold State.stallScan
  repeat' (first
    | with_reducible exact Unchanged.refl _ _
    | with_reducible apply State.onFace_unchanged
    | with_reducible apply State.offer_unchanged
    | with_reducible apply State.stallTest_unchanged
    | decide
    | split)

theorem State.takeWindowEnd_unchanged {xs : List Block} {s u : State} (ch : Channel)
    (sub : covers xs [.light, .tiles, .faults] = true) (h : Unchanged xs s u) : Unchanged xs s (u.takeWindowEnd ch) := by
  refine Unchanged.step (ys := [.light, .tiles, .faults]) ?_ sub h
  clear h sub
  unfold State.takeWindowEnd
  repeat' (first
    | with_reducible exact Unchanged.refl _ _
    | with_reducible apply State.endWindow_unchanged
    | decide
    | split)

theorem State.secondStep_unchanged {xs : List Block} {s u : State}
    (sub : covers xs [.due, .table, .light, .tiles] = true) (h : Unchanged xs s u) : Unchanged xs s (u.secondStep) := by
  refine Unchanged.step (ys := [.due, .table, .light, .tiles]) ?_ sub h
  clear h sub
  unfold State.secondStep
  dsimp only
  repeat' (first
    | with_reducible exact Unchanged.refl _ _
    | with_reducible apply State.addDue_unchanged
    | with_reducible apply State.setGate_unchanged
    | with_reducible apply State.tickClock_unchanged
    | decide
    | split)

theorem State.timeoutGate_unchanged {xs : List Block} {s u : State}
    (sub : covers xs [.due, .bus, .table, .cues, .face] = true) (h : Unchanged xs s u) : Unchanged xs s (u.timeoutGate) := by
  refine Unchanged.step (ys := [.due, .bus, .table, .cues, .face]) ?_ sub h
  clear h sub
  unfold State.timeoutGate
  repeat' (first
    | with_reducible exact Unchanged.refl _ _
    | with_reducible apply State.closeGate_unchanged
    | with_reducible apply Unchanged.event
    | decide
    | split)

theorem State.guardGrant_unchanged {xs : List Block} {s u : State}
    (sub : covers xs [.bus, .cues] = true) (h : Unchanged xs s u) : Unchanged xs s (u.guardGrant) := by
  refine Unchanged.step (ys := [.bus, .cues]) ?_ sub h
  clear h sub
  unfold State.guardGrant
  repeat' (first
    | with_reducible exact Unchanged.refl _ _
    | with_reducible apply State.grantOwn_unchanged
    | decide
    | split)

theorem State.takeDue_unchanged {xs : List Block} {s u : State}  (x : DueEvent)
    (sub : covers xs [.due, .bus, .table, .cues, .face, .light, .tiles, .scan, .faults, .test, .link] = true) (h : Unchanged xs s u) : Unchanged xs s (u.takeDue x) := by
  refine Unchanged.step (ys := [.due, .bus, .table, .cues, .face, .light, .tiles, .scan, .faults, .test, .link]) ?_ sub h
  clear h sub
  unfold State.takeDue
  repeat' (first
    | with_reducible exact Unchanged.refl _ _
    | with_reducible apply State.endWait_unchanged
    | with_reducible apply State.fallSilent_unchanged
    | with_reducible apply State.takePresented_unchanged
    | with_reducible apply State.endHoldOff_unchanged
    | with_reducible apply State.expireCue_unchanged
    | with_reducible apply State.endNoticeTime_unchanged
    | with_reducible apply State.meetDwell_unchanged
    | with_reducible apply State.expirePairWait_unchanged
    | with_reducible apply State.stallScan_unchanged
    | with_reducible apply State.takeWindowEnd_unchanged
    | with_reducible apply State.secondStep_unchanged
    | with_reducible apply State.timeoutGate_unchanged
    | with_reducible apply State.guardGrant_unchanged
    | decide
    | split)

theorem State.takeIfDue_unchanged {xs : List Block} {s u : State} (e : DueEvent)
    (sub : covers xs [.due, .bus, .table, .cues, .face, .light, .tiles, .scan, .faults, .test, .link] = true) (h : Unchanged xs s u) : Unchanged xs s (u.takeIfDue e) := by
  refine Unchanged.step (ys := [.due, .bus, .table, .cues, .face, .light, .tiles, .scan, .faults, .test, .link]) ?_ sub h
  unfold State.takeIfDue
  split
  · exact State.takeDue_unchanged e (by decide) (State.dropDue_unchanged e (by decide) (Unchanged.refl _ _))
  · exact Unchanged.refl _ _

theorem State.settleWithin_unchanged (n : Nat) (u : State) : Unchanged [.due, .bus, .table, .cues, .face, .light, .tiles, .scan, .faults, .test, .link] u (u.settleWithin n) := by
  induction n generalizing u with
  | zero => exact Unchanged.refl _ _
  | succ n ih =>
    unfold State.settleWithin
    split
    · exact Unchanged.refl _ _
    · exact Unchanged.trans (State.takeDue_unchanged _ (by decide)
        (State.dropDue_unchanged _ (by decide) (Unchanged.refl _ _))) (ih _)

/-- What has come due leaves the queue of commands, the lines, the settings and the governor alone. -/
theorem State.settle_unchanged {xs : List Block} {s u : State} (sub : covers xs [.due, .bus, .table, .cues, .face, .light, .tiles, .scan, .faults, .test, .link] = true)
    (h : Unchanged xs s u) : Unchanged xs s u.settle :=
  Unchanged.step (State.settleWithin_unchanged _ u) sub h

theorem Unchanged.act {xs : List Block} {s u : State} {f : State → State} (sub : covers xs [.due, .bus, .table, .cues, .face, .light, .tiles, .scan, .faults, .test, .link] = true)
    (h : Unchanged xs s u) (hf : ∀ t, Unchanged xs t (f t)) : Unchanged xs s (u.act f) := by
  unfold State.act
  split
  · exact h
  · exact (State.settle_unchanged sub h).trans (hf _)

theorem State.storeOperating_unchanged {xs : List Block} {s u : State} (i : Fin 36) (v : Half)
    (sub : covers xs [.settings] = true) (h : Unchanged xs s u) : Unchanged xs s (u.storeOperating i v) := by
  refine Unchanged.step (ys := [.settings]) ?_ sub h
  clear h sub
  unfold State.storeOperating
  repeat' (first
    | with_reducible exact Unchanged.refl _ _
    | with_reducible apply State.onSettings_unchanged
    | decide)

theorem State.storeEnable_unchanged {xs : List Block} {s u : State} (ch : Channel) (v : Half)
    (sub : covers xs [.light, .tiles, .settings] = true) (h : Unchanged xs s u) : Unchanged xs s (u.storeEnable ch v) := by
  refine Unchanged.step (ys := [.light, .tiles, .settings]) ?_ sub h
  clear h sub
  unfold State.storeEnable
  dsimp only
  repeat' (first
    | with_reducible exact Unchanged.refl _ _
    | with_reducible apply State.setChannel_unchanged
    | with_reducible apply State.recomputeLight_unchanged
    | with_reducible apply State.storeOperating_unchanged
    | decide)

theorem State.storeLightSetting_unchanged {xs : List Block} {s u : State} (i : Fin 36) (v : Half)
    (sub : covers xs [.light, .tiles, .settings] = true) (h : Unchanged xs s u) : Unchanged xs s (u.storeLightSetting i v) := by
  refine Unchanged.step (ys := [.light, .tiles, .settings]) ?_ sub h
  clear h sub
  unfold State.storeLightSetting
  repeat' (first
    | with_reducible exact Unchanged.refl _ _
    | with_reducible apply State.recomputeLight_unchanged
    | with_reducible apply State.storeOperating_unchanged
    | decide)

theorem State.storeLimit_unchanged {xs : List Block} {s u : State} (i : Fin 36) (v : Half)
    (sub : covers xs [.tiles, .faults, .settings] = true) (h : Unchanged xs s u) : Unchanged xs s (u.storeLimit i v) := by
  refine Unchanged.step (ys := [.tiles, .faults, .settings]) ?_ sub h
  clear h sub
  unfold State.storeLimit
  repeat' (first
    | with_reducible exact Unchanged.refl _ _
    | with_reducible apply State.evaluateTiles_unchanged
    | with_reducible apply State.storeOperating_unchanged
    | decide)

theorem State.storeBlankPolicy_unchanged {xs : List Block} {s u : State} (v : Half)
    (sub : covers xs [.tiles, .settings] = true) (h : Unchanged xs s u) : Unchanged xs s (u.storeBlankPolicy v) := by
  refine Unchanged.step (ys := [.tiles, .settings]) ?_ sub h
  clear h sub
  unfold State.storeBlankPolicy
  repeat' (first
    | with_reducible exact Unchanged.refl _ _
    | with_reducible apply State.retargetAll_unchanged
    | with_reducible apply State.storeOperating_unchanged
    | decide)

theorem State.storeFaceLimit_unchanged {xs : List Block} {s u : State} (v : Half)
    (sub : covers xs [.tiles, .faults, .settings] = true) (h : Unchanged xs s u) : Unchanged xs s (u.storeFaceLimit v) := by
  refine Unchanged.step (ys := [.tiles, .faults, .settings]) ?_ sub h
  clear h sub
  unfold State.storeFaceLimit
  repeat' (first
    | with_reducible exact Unchanged.refl _ _
    | with_reducible apply State.faceLimitCheck_unchanged
    | with_reducible apply State.storeOperating_unchanged
    | decide)

theorem State.writeOperating_unchanged {xs : List Block} {s u : State} (i : Fin 36) (v : Half)
    (sub : covers xs [.light, .tiles, .faults, .settings] = true) (h : Unchanged xs s u) : Unchanged xs s (u.writeOperating i v) := by
  refine Unchanged.step (ys := [.light, .tiles, .faults, .settings]) ?_ sub h
  clear h sub
  unfold State.writeOperating
  repeat' (first
    | with_reducible exact Unchanged.refl _ _
    | with_reducible apply State.storeOperating_unchanged
    | with_reducible apply State.storeEnable_unchanged
    | with_reducible apply State.storeLightSetting_unchanged
    | with_reducible apply State.storeLimit_unchanged
    | with_reducible apply State.storeBlankPolicy_unchanged
    | with_reducible apply State.storeFaceLimit_unchanged
    | decide
    | split)

theorem State.writeLayout_unchanged {xs : List Block} {s u : State} (i : Fin 15) (v : Half)
    (sub : covers xs [.tiles, .settings] = true) (h : Unchanged xs s u) : Unchanged xs s (u.writeLayout i v) := by
  refine Unchanged.step (ys := [.tiles, .settings]) ?_ sub h
  clear h sub
  unfold State.writeLayout
  dsimp only
  repeat' (first
    | with_reducible exact Unchanged.refl _ _
    | with_reducible apply State.onSettings_unchanged
    | with_reducible apply State.retargetAll_unchanged
    | decide
    | split)

theorem State.writeCurve_unchanged {xs : List Block} {s u : State} (p : PointNo) (f : CurveField) (v : Half)
    (sub : covers xs [.light, .tiles, .settings] = true) (h : Unchanged xs s u) : Unchanged xs s (u.writeCurve p f v) := by
  refine Unchanged.step (ys := [.light, .tiles, .settings]) ?_ sub h
  clear h sub
  unfold State.writeCurve
  repeat' (first
    | with_reducible exact Unchanged.refl _ _
    | with_reducible apply State.onSettings_unchanged
    | with_reducible apply State.recomputeLight_unchanged
    | decide)

theorem State.writeBand_unchanged {xs : List Block} {s u : State} (b : BandNo) (f : BandField) (v : Half)
    (sub : covers xs [.light, .tiles, .settings] = true) (h : Unchanged xs s u) : Unchanged xs s (u.writeBand b f v) := by
  refine Unchanged.step (ys := [.light, .tiles, .settings]) ?_ sub h
  clear h sub
  unfold State.writeBand
  repeat' (first
    | with_reducible exact Unchanged.refl _ _
    | with_reducible apply State.onSettings_unchanged
    | with_reducible apply State.recomputeLight_unchanged
    | decide)

theorem State.storeItem_unchanged {xs : List Block} {s u : State} (v : Half) (x : Item)
    (sub : covers xs [.light, .tiles, .faults, .link, .settings] = true) (h : Unchanged xs s u) : Unchanged xs s (u.storeItem v x) := by
  refine Unchanged.step (ys := [.light, .tiles, .faults, .link, .settings]) ?_ sub h
  clear h sub
  unfold State.storeItem
  repeat' (first
    | with_reducible exact Unchanged.refl _ _
    | with_reducible apply State.onLink_unchanged
    | with_reducible apply State.setTrim_unchanged
    | with_reducible apply State.writeOperating_unchanged
    | with_reducible apply State.writeLayout_unchanged
    | with_reducible apply State.writeCurve_unchanged
    | with_reducible apply State.writeBand_unchanged
    | decide
    | split)

theorem State.respond_unchanged {xs : List Block} {s u : State} (o : LinkOutcome) (item data : Half)
    (sub : covers xs [.link] = true) (h : Unchanged xs s u) : Unchanged xs s (u.respond o item data) := by
  refine Unchanged.step (ys := [.link]) ?_ sub h
  clear h sub
  unfold State.respond
  dsimp only
  repeat' (first
    | with_reducible exact Unchanged.refl _ _
    | with_reducible apply State.onLink_unchanged
    | decide
    | split)

theorem State.writeItem_unchanged {xs : List Block} {s u : State} (it : Item) (number v : Half)
    (sub : covers xs [.light, .tiles, .faults, .link, .settings] = true) (h : Unchanged xs s u) : Unchanged xs s (u.writeItem it number v) := by
  refine Unchanged.step (ys := [.light, .tiles, .faults, .link, .settings]) ?_ sub h
  clear h sub
  unfold State.writeItem
  repeat' (first
    | with_reducible exact Unchanged.refl _ _
    | with_reducible apply State.storeItem_unchanged
    | with_reducible apply State.respond_unchanged
    | decide
    | split)

theorem State.frameWrite_unchanged {xs : List Block} {s u : State} (number v : Half)
    (sub : covers xs [.light, .tiles, .faults, .link, .settings] = true) (h : Unchanged xs s u) : Unchanged xs s (u.frameWrite number v) := by
  refine Unchanged.step (ys := [.light, .tiles, .faults, .link, .settings]) ?_ sub h
  clear h sub
  unfold State.frameWrite
  repeat' (first
    | with_reducible exact Unchanged.refl _ _
    | with_reducible apply State.respond_unchanged
    | with_reducible apply State.writeItem_unchanged
    | decide
    | split)

theorem State.readEffect_unchanged {xs : List Block} {s u : State} (it : Item)
    (sub : covers xs [.link] = true) (h : Unchanged xs s u) : Unchanged xs s (u.readEffect it) := by
  refine Unchanged.step (ys := [.link]) ?_ sub h
  clear h sub
  unfold State.readEffect
  repeat' (first
    | with_reducible exact Unchanged.refl _ _
    | with_reducible apply State.onLink_unchanged
    | decide
    | split)

theorem State.readItem_unchanged {xs : List Block} {s u : State} (it : Item) (number : Half)
    (sub : covers xs [.link] = true) (h : Unchanged xs s u) : Unchanged xs s (u.readItem it number) := by
  refine Unchanged.step (ys := [.link]) ?_ sub h
  clear h sub
  unfold State.readItem
  repeat' (first
    | with_reducible exact Unchanged.refl _ _
    | with_reducible apply State.respond_unchanged
    | with_reducible apply State.readEffect_unchanged
    | decide)

theorem State.frameRead_unchanged {xs : List Block} {s u : State} (number : Half)
    (sub : covers xs [.link] = true) (h : Unchanged xs s u) : Unchanged xs s (u.frameRead number) := by
  refine Unchanged.step (ys := [.link]) ?_ sub h
  clear h sub
  unfold State.frameRead
  repeat' (first
    | with_reducible exact Unchanged.refl _ _
    | with_reducible apply State.respond_unchanged
    | with_reducible apply State.readItem_unchanged
    | decide
    | split)

theorem State.frameNop_unchanged {xs : List Block} {s u : State} (number : Half)
    (sub : covers xs [.link] = true) (h : Unchanged xs s u) : Unchanged xs s (u.frameNop number) := by
  refine Unchanged.step (ys := [.link]) ?_ sub h
  clear h sub
  unfold State.frameNop
  repeat' (first
    | with_reducible exact Unchanged.refl _ _
    | with_reducible apply State.respond_unchanged
    | decide)

theorem State.frameTakeFault_unchanged {xs : List Block} {s u : State} (number : Half)
    (sub : covers xs [.faults, .link] = true) (h : Unchanged xs s u) : Unchanged xs s (u.frameTakeFault number) := by
  refine Unchanged.step (ys := [.faults, .link]) ?_ sub h
  clear h sub
  unfold State.frameTakeFault
  dsimp only
  repeat' (first
    | with_reducible exact Unchanged.refl _ _
    | with_reducible apply State.onFaults_unchanged
    | with_reducible apply State.onLink_unchanged
    | with_reducible apply State.respond_unchanged
    | decide)

theorem State.itemWrite_unchanged {xs : List Block} {s u : State} (it : Item) (v : Half)
    (sub : covers xs [.light, .tiles, .faults, .link, .settings] = true) (h : Unchanged xs s u) : Unchanged xs s (u.itemWrite it v) := by
  refine Unchanged.step (ys := [.light, .tiles, .faults, .link, .settings]) ?_ sub h
  clear h sub
  unfold State.itemWrite
  repeat' (first
    | with_reducible exact Unchanged.refl _ _
    | with_reducible apply State.frameWrite_unchanged
    | decide)

theorem State.frameAction_unchanged {xs : List Block} {s u : State} (f : BitVec 48)
    (sub : covers xs [.light, .tiles, .faults, .link, .settings] = true) (h : Unchanged xs s u) : Unchanged xs s (u.frameAction f) := by
  refine Unchanged.step (ys := [.light, .tiles, .faults, .link, .settings]) ?_ sub h
  clear h sub
  unfold State.frameAction
  repeat' (first
    | with_reducible exact Unchanged.refl _ _
    | with_reducible apply State.respond_unchanged
    | with_reducible apply State.frameWrite_unchanged
    | with_reducible apply State.frameRead_unchanged
    | with_reducible apply State.frameNop_unchanged
    | with_reducible apply State.frameTakeFault_unchanged
    | decide
    | split)

theorem State.frameEnd_unchanged {xs : List Block} {s u : State} (bits : Nat) (f : BitVec 48)
    (sub : covers xs [.light, .tiles, .faults, .link, .settings] = true) (h : Unchanged xs s u) : Unchanged xs s (u.frameEnd bits f) := by
  refine Unchanged.step (ys := [.light, .tiles, .faults, .link, .settings]) ?_ sub h
  clear h sub
  unfold State.frameEnd
  repeat' (first
    | with_reducible exact Unchanged.refl _ _
    | with_reducible apply State.respond_unchanged
    | with_reducible apply State.frameAction_unchanged
    | decide
    | split)

theorem State.endFrame_unchanged {xs : List Block} {s u : State}
    (sub : covers xs [.light, .tiles, .faults, .wires, .link, .settings] = true) (h : Unchanged xs s u) : Unchanged xs s (u.endFrame) := by
  refine Unchanged.step (ys := [.light, .tiles, .faults, .wires, .link, .settings]) ?_ sub h
  clear h sub
  unfold State.endFrame
  repeat' (first
    | with_reducible exact Unchanged.refl _ _
    | with_reducible apply State.onWires_unchanged
    | with_reducible apply State.frameEnd_unchanged
    | decide
    | split)

theorem State.linkEdge_unchanged {xs : List Block} {s u : State} (e : LinkEdge)
    (sub : covers xs [.light, .tiles, .faults, .wires, .link, .settings] = true) (h : Unchanged xs s u) : Unchanged xs s (u.linkEdge e) := by
  refine Unchanged.step (ys := [.light, .tiles, .faults, .wires, .link, .settings]) ?_ sub h
  clear h sub
  unfold State.linkEdge
  repeat' (first
    | with_reducible exact Unchanged.refl _ _
    | with_reducible apply State.onWires_unchanged
    | with_reducible apply State.endFrame_unchanged
    | decide
    | split)

theorem State.linkEdges_unchanged {xs : List Block} {s u : State} (es : List LinkEdge)
    (sub : covers xs [.light, .tiles, .faults, .wires, .link, .settings] = true) (h : Unchanged xs s u) : Unchanged xs s (u.linkEdges es) := by
  refine Unchanged.step (ys := [.light, .tiles, .faults, .wires, .link, .settings]) ?_ sub h
  clear h sub
  unfold State.linkEdges
  repeat' (first
    | with_reducible exact Unchanged.refl _ _
    | with_reducible refine Unchanged.trans ?_ (Unchanged.foldl _ (fun t a => by apply State.linkEdge_unchanged; decide; exact Unchanged.refl _ _) _ _)
    | with_reducible apply State.linkEdge_unchanged
    | decide)

theorem State.clockFrame_unchanged {xs : List Block} {s u : State}
    (sub : covers xs [.wires] = true) (h : Unchanged xs s u) : Unchanged xs s (u.clockFrame) := by
  refine Unchanged.step (ys := [.wires]) ?_ sub h
  clear h sub
  unfold State.clockFrame
  repeat' (first
    | with_reducible exact Unchanged.refl _ _
    | with_reducible apply State.onWires_unchanged
    | decide)

theorem State.recordCheck_unchanged {xs : List Block} {s u : State} (r : LayoutCheck × CheckWindows)
    (sub : covers xs [.settings] = true) (h : Unchanged xs s u) : Unchanged xs s (u.recordCheck r) := by
  refine Unchanged.step (ys := [.settings]) ?_ sub h
  clear h sub
  unfold State.recordCheck
  repeat' (first
    | with_reducible exact Unchanged.refl _ _
    | with_reducible apply State.onSettings_unchanged
    | decide)

theorem State.enterRunning_unchanged {xs : List Block} {s u : State}
    (sub : covers xs [.face, .tiles, .governor] = true) (h : Unchanged xs s u) : Unchanged xs s (u.enterRunning) := by
  refine Unchanged.step (ys := [.face, .tiles, .governor]) ?_ sub h
  clear h sub
  unfold State.enterRunning
  dsimp only
  repeat' (first
    | with_reducible exact Unchanged.refl _ _
    | with_reducible apply State.onFace_unchanged
    | with_reducible apply State.withGovernor_unchanged
    | with_reducible apply State.retargetAll_unchanged
    | decide)

theorem State.validateLayout_unchanged {xs : List Block} {s u : State}
    (sub : covers xs [.face, .tiles, .link, .settings, .governor] = true) (h : Unchanged xs s u) : Unchanged xs s (u.validateLayout) := by
  refine Unchanged.step (ys := [.face, .tiles, .link, .settings, .governor]) ?_ sub h
  clear h sub
  unfold State.validateLayout
  dsimp only
  repeat' (first
    | with_reducible exact Unchanged.refl _ _
    | with_reducible apply State.setService_unchanged
    | with_reducible apply State.recordCheck_unchanged
    | with_reducible apply State.enterRunning_unchanged
    | decide
    | split)

theorem State.closeSetup_unchanged {xs : List Block} {s u : State}
    (sub : covers xs [.due, .bus, .table, .cues, .face, .tiles, .link, .settings, .governor] = true) (h : Unchanged xs s u) : Unchanged xs s (u.closeSetup) := by
  refine Unchanged.step (ys := [.due, .bus, .table, .cues, .face, .tiles, .link, .settings, .governor]) ?_ sub h
  clear h sub
  unfold State.closeSetup
  repeat' (first
    | with_reducible exact Unchanged.refl _ _
    | with_reducible apply State.setService_unchanged
    | with_reducible apply State.validateLayout_unchanged
    | with_reducible apply Unchanged.event
    | decide
    | split)

theorem State.restart_unchanged {xs : List Block} {s u : State}
    (sub : covers xs [.due, .bus, .table, .cues, .face, .tiles, .scan, .faults, .link, .governor] = true) (h : Unchanged xs s u) : Unchanged xs s (u.restart) := by
  refine Unchanged.step (ys := [.due, .bus, .table, .cues, .face, .tiles, .scan, .faults, .link, .governor]) ?_ sub h
  clear h sub
  unfold State.restart
  dsimp only
  repeat' (first
    | with_reducible exact Unchanged.refl _ _
    | with_reducible apply State.onBus_unchanged
    | with_reducible apply State.onTable_unchanged
    | with_reducible apply State.onCues_unchanged
    | with_reducible apply State.onFace_unchanged
    | with_reducible apply State.onTiles_unchanged
    | with_reducible apply State.onScan_unchanged
    | with_reducible apply State.onFaults_unchanged
    | with_reducible apply State.onLink_unchanged
    | with_reducible apply State.withGovernor_unchanged
    | with_reducible apply State.arbitrate_unchanged
    | decide)

theorem State.powerDown_unchanged {xs : List Block} {s u : State}
    (sub : covers xs [.due, .lines, .bus, .cues, .scan, .faults, .wires] = true) (h : Unchanged xs s u) : Unchanged xs s (u.powerDown) := by
  refine Unchanged.step (ys := [.due, .lines, .bus, .cues, .scan, .faults, .wires]) ?_ sub h
  clear h sub
  unfold State.powerDown
  dsimp only
  repeat' (first
    | with_reducible exact Unchanged.refl _ _
    | with_reducible apply State.onDue_unchanged
    | with_reducible apply State.onLines_unchanged
    | with_reducible apply State.onBus_unchanged
    | with_reducible apply State.onFaults_unchanged
    | with_reducible apply State.onWires_unchanged
    | with_reducible apply State.dropNotedCues_unchanged
    | with_reducible apply State.dropNotedReports_unchanged
    | decide)

theorem Unchanged.takeService {xs : List Block} {s u : State} {v : Service} {f : State → State}
    (h : Unchanged xs s u) (hf : Unchanged xs u (f u)) : Unchanged xs s (u.takeService v f) := by
  unfold State.takeService
  split
  · exact h.trans hf
  · exact h

theorem State.failService_unchanged {xs : List Block} {s u : State} (e : ServiceError)
    (sub : covers xs [.link] = true) (h : Unchanged xs s u) : Unchanged xs s (u.failService e) := by
  refine Unchanged.step (ys := [.link]) ?_ sub h
  clear h sub
  unfold State.failService
  repeat' (first
    | with_reducible exact Unchanged.refl _ _
    | with_reducible apply State.setService_unchanged
    | decide)

theorem State.endService_unchanged {xs : List Block} {s u : State}
    (sub : covers xs [.link] = true) (h : Unchanged xs s u) : Unchanged xs s (u.endService) := by
  refine Unchanged.step (ys := [.link]) ?_ sub h
  clear h sub
  unfold State.endService
  repeat' (first
    | with_reducible exact Unchanged.refl _ _
    | with_reducible apply State.setService_unchanged
    | decide)

theorem Unchanged.checked {xs : List Block} {s u : State} {checks : List (Bool × ServiceError)}
    {f : State → State} (sub : covers xs [.link] = true) (h : Unchanged xs s u) (hf : Unchanged xs u (f u)) :
    Unchanged xs s (u.checked checks f) := by
  unfold State.checked
  split
  · exact State.failService_unchanged _ sub h
  · exact h.trans hf

theorem State.serveSetClock_unchanged {xs : List Block} {s u : State}
    (sub : covers xs [.light, .tiles, .link] = true) (h : Unchanged xs s u) : Unchanged xs s (u.serveSetClock) := by
  refine Unchanged.step (ys := [.light, .tiles, .link]) ?_ sub h
  clear h sub
  unfold State.serveSetClock
  repeat' (first
    | with_reducible exact Unchanged.refl _ _
    | with_reducible apply State.setClock_unchanged
    | with_reducible apply State.endService_unchanged
    | with_reducible apply Unchanged.checked
    | decide)

theorem State.serveOpenGate_unchanged {xs : List Block} {s u : State}
    (sub : covers xs [.table, .link] = true) (h : Unchanged xs s u) : Unchanged xs s (u.serveOpenGate) := by
  refine Unchanged.step (ys := [.table, .link]) ?_ sub h
  clear h sub
  unfold State.serveOpenGate
  repeat' (first
    | with_reducible exact Unchanged.refl _ _
    | with_reducible apply State.setGate_unchanged
    | with_reducible apply State.endService_unchanged
    | with_reducible apply Unchanged.checked
    | decide)

theorem State.serveCloseGate_unchanged {xs : List Block} {s u : State}
    (sub : covers xs [.due, .bus, .table, .cues, .face, .link] = true) (h : Unchanged xs s u) : Unchanged xs s (u.serveCloseGate) := by
  refine Unchanged.step (ys := [.due, .bus, .table, .cues, .face, .link]) ?_ sub h
  clear h sub
  unfold State.serveCloseGate
  repeat' (first
    | with_reducible exact Unchanged.refl _ _
    | with_reducible apply State.closeGate_unchanged
    | with_reducible apply State.endService_unchanged
    | with_reducible apply Unchanged.event
    | decide)

theorem State.serveWipe_unchanged {xs : List Block} {s u : State}
    (sub : covers xs [.due, .bus, .table, .cues, .face, .link] = true) (h : Unchanged xs s u) : Unchanged xs s (u.serveWipe) := by
  refine Unchanged.step (ys := [.due, .bus, .table, .cues, .face, .link]) ?_ sub h
  clear h sub
  unfold State.serveWipe
  dsimp only
  repeat' (first
    | with_reducible exact Unchanged.refl _ _
    | with_reducible apply State.onBuffer_unchanged
    | with_reducible apply State.setService_unchanged
    | with_reducible apply Unchanged.event
    | with_reducible apply Unchanged.checked
    | decide)

theorem State.serveTest_unchanged {xs : List Block} {s u : State}
    (sub : covers xs [.test, .link] = true) (h : Unchanged xs s u) : Unchanged xs s (u.serveTest) := by
  refine Unchanged.step (ys := [.test, .link]) ?_ sub h
  clear h sub
  unfold State.serveTest
  repeat' (first
    | with_reducible exact Unchanged.refl _ _
    | with_reducible apply State.onTest_unchanged
    | with_reducible apply State.setService_unchanged
    | with_reducible apply Unchanged.checked
    | decide)

theorem State.serveClearTile_unchanged {xs : List Block} {s u : State}
    (sub : covers xs [.tiles, .faults, .link] = true) (h : Unchanged xs s u) : Unchanged xs s (u.serveClearTile) := by
  refine Unchanged.step (ys := [.tiles, .faults, .link]) ?_ sub h
  clear h sub
  unfold State.serveClearTile
  repeat' (first
    | with_reducible exact Unchanged.refl _ _
    | with_reducible apply State.clearTile_unchanged
    | with_reducible apply State.endService_unchanged
    | with_reducible apply Unchanged.checked
    | decide)

theorem State.serveBlank_unchanged {xs : List Block} {s u : State}
    (sub : covers xs [.tiles, .faults, .link] = true) (h : Unchanged xs s u) : Unchanged xs s (u.serveBlank) := by
  refine Unchanged.step (ys := [.tiles, .faults, .link]) ?_ sub h
  clear h sub
  unfold State.serveBlank
  repeat' (first
    | with_reducible exact Unchanged.refl _ _
    | with_reducible apply State.addReason_unchanged
    | with_reducible apply State.endService_unchanged
    | with_reducible apply Unchanged.checked
    | decide)

theorem State.serveUnblank_unchanged {xs : List Block} {s u : State}
    (sub : covers xs [.tiles, .faults, .link] = true) (h : Unchanged xs s u) : Unchanged xs s (u.serveUnblank) := by
  refine Unchanged.step (ys := [.tiles, .faults, .link]) ?_ sub h
  clear h sub
  unfold State.serveUnblank
  repeat' (first
    | with_reducible exact Unchanged.refl _ _
    | with_reducible apply State.removeReason_unchanged
    | with_reducible apply State.endService_unchanged
    | with_reducible apply Unchanged.checked
    | decide)

theorem State.serveSnapshot_unchanged {xs : List Block} {s u : State}
    (sub : covers xs [.link] = true) (h : Unchanged xs s u) : Unchanged xs s (u.serveSnapshot) := by
  refine Unchanged.step (ys := [.link]) ?_ sub h
  clear h sub
  unfold State.serveSnapshot
  repeat' (first
    | with_reducible exact Unchanged.refl _ _
    | with_reducible apply State.onLink_unchanged
    | with_reducible apply State.endService_unchanged
    | decide)

theorem State.partnerHigh_unchanged {xs : List Block} {s u : State}
    (sub : covers xs [.face] = true) (h : Unchanged xs s u) : Unchanged xs s (u.partnerHigh) := by
  refine Unchanged.step (ys := [.face]) ?_ sub h
  clear h sub
  unfold State.partnerHigh
  repeat' (first
    | with_reducible exact Unchanged.refl _ _
    | with_reducible apply State.onFace_unchanged
    | decide
    | split)

theorem State.hold_unchanged {xs : List Block} {s u : State} (p : Presented)
    (sub : covers xs [.bus] = true) (h : Unchanged xs s u) : Unchanged xs s (u.hold p) := by
  refine Unchanged.step (ys := [.bus]) ?_ sub h
  clear h sub
  unfold State.hold
  repeat' (first
    | with_reducible exact Unchanged.refl _ _
    | with_reducible apply State.onBus_unchanged
    | decide
    | split)

end Sys2Proof.Machine
end

