-- ==== Sys2Proof/Laws/Port.lean ====
section
/-! SUPPORT. What may follow an event, for each operation that runs after one: the pair lines, the engines'
choices and requests, the arbiter. -/

namespace Sys2Proof.Safety

open Sys2Proof.Machine

theorem Follows.refl (s : State) : Follows s s :=
  ⟨Unchanged.refl _ _, fun _ => rfl, ⟨rfl, rfl, rfl⟩, fun _ => rfl, rfl, fun _ => ⟨rfl, rfl⟩, fun _ => rfl,
    rfl, rfl, fun _ => rfl, fun h b hb => by simp [h] at hb⟩

theorem Follows.trans {s t u : State} (h : Follows s t) (g : Follows t u) : Follows s u where
  blocks := h.blocks.trans g.blocks
  slots n := by rw [← h.slots n, ← g.slots n]
  ring := ⟨g.ring.1.trans h.ring.1, g.ring.2.1.trans h.ring.2.1, g.ring.2.2.trans h.ring.2.2⟩
  buffers k := by rw [← h.buffers k, ← g.buffers k]
  gate := g.gate.trans h.gate
  sweep e := by
    have a := h.sweep e
    have b := g.sweep (by rw [a.1]; exact e)
    exact ⟨b.1.trans a.1, b.2.trans a.2⟩
  verify e := by
    have a := h.verify e
    exact (g.verify (by rw [a]; exact e)).trans a
  face := by rw [← h.face, ← g.face]
  path := by rw [← h.path, ← g.path]
  held e := by
    have a := h.held e
    exact (g.held (by rw [a]; exact e)).trans a
  own e b hb := by
    cases hp : t.bus.port with
    | none => exact g.own hp b hb
    | some p =>
      have q := g.held (by rw [hp]; rfl)
      rw [q, hp] at hb
      cases hb
      exact h.own e _ hp

/-- An operation that touches the pair lines alone. -/
theorem settlePair_follows (s : State) (before : Option SlotNo) : Follows s (s.settlePair before) := by
  have blocks : Unchanged [.due, .bus, .table, .cues, .face] s (s.settlePair before) :=
    State.settlePair_unchanged before (by decide) (Unchanged.refl _ _)
  have face : { (s.settlePair before).face with
      swapReady := s.face.swapReady, latch := s.face.latch, pairWait := s.face.pairWait } = s.face := by
    unfold State.settlePair
    dsimp only
    split <;> split <;> rfl
  have rest : Unchanged [.due, .face] s (s.settlePair before) :=
    State.settlePair_unchanged before (by decide) (Unchanged.refl _ _)
  have hb : (s.settlePair before).bus = s.bus := rest.agree .bus (by decide)
  have hc : (s.settlePair before).cues = s.cues := rest.agree .cues (by decide)
  have ht : (s.settlePair before).table = s.table := rest.agree .table (by decide)
  exact
    { blocks, face
      slots := fun n => by simp only [State.slot, hc]
      ring := by rw [hc]; exact ⟨rfl, rfl, rfl⟩
      buffers := fun k => by rw [ht]
      gate := by rw [ht]
      sweep := fun _ => by rw [ht]; exact ⟨rfl, rfl⟩
      verify := fun _ => by rw [ht]
      path := by rw [hb]
      held := fun _ => by rw [hb]
      own := fun h b hp => by rw [hb, h] at hp; cases hp }

theorem wipeChoice_follows (s : State) : Follows s s.wipeChoice := by
  unfold State.wipeChoice
  split
  · next k hs hk =>
    refine
      { blocks := ?_, slots := fun _ => rfl, ring := ⟨rfl, rfl, rfl⟩, buffers := fun j => ?_, gate := rfl,
        sweep := fun h => ?_, verify := fun _ => rfl, face := rfl, path := rfl, held := fun _ => rfl,
        own := fun h b hb => ?_ }
    · exact State.onBuffer_unchanged _ _ (by decide) (State.onTable_unchanged _ (by decide) (Unchanged.refl _ _))
    · simp only [State.onBuffer, State.onTable_table, Table.get_modify]
      split
      · next e => subst e; rfl
      · rfl
    · rw [hs] at h; cases h
    · simp only [State.onBuffer, State.onTable_bus, h] at hb; cases hb
  · exact Follows.refl s

theorem verifyChoice_follows (s : State) : Follows s s.verifyChoice := by
  unfold State.verifyChoice
  split
  · next w hs hw =>
    exact
      { blocks := State.onTable_unchanged _ (by decide) (Unchanged.refl _ _)
        slots := fun _ => rfl, ring := ⟨rfl, rfl, rfl⟩, buffers := fun _ => rfl, gate := rfl,
        sweep := fun _ => ⟨rfl, rfl⟩, verify := fun h => by rw [hs] at h; cases h
        face := rfl, path := rfl, held := fun _ => rfl
        own := fun h b hb => by simp only [State.onTable_bus, h] at hb; cases hb }
  · exact Follows.refl s

theorem prepare_follows (s : State) : Follows s s.prepare := by
  refine ((wipeChoice_follows s).trans (verifyChoice_follows _)).trans ?_
  unfold State.prepare
  exact
    { blocks := State.onBus_unchanged _ (by decide) (Unchanged.refl _ _)
      slots := fun _ => rfl, ring := ⟨rfl, rfl, rfl⟩, buffers := fun _ => rfl, gate := rfl,
      sweep := fun _ => ⟨rfl, rfl⟩, verify := fun _ => rfl, face := rfl, path := rfl
      held := fun _ => rfl
      own := fun h b hb => by simp only [State.onBus_bus, h] at hb; cases hb }

theorem addDue_follows (s : State) (e : DueEvent) : Follows s (s.addDue e) :=
  { blocks := State.addDue_unchanged _ (by decide) (Unchanged.refl _ _)
    slots := fun _ => rfl, ring := ⟨rfl, rfl, rfl⟩, buffers := fun _ => rfl, gate := rfl,
    sweep := fun _ => ⟨rfl, rfl⟩, verify := fun _ => rfl, face := rfl, path := rfl, held := fun _ => rfl,
    own := fun h b hb => by rw [show (s.addDue e).bus = s.bus from rfl, h] at hb; cases hb }

/-- The port falls to an own burst, or to none. -/
theorem grantOwn_follows (s : State) (hp : s.bus.port = none) : Follows s s.grantOwn := by
  have bus : ∀ f : BusState → BusState,
      ({ f s.bus with port := s.bus.port, writeBackReq := s.bus.writeBackReq, wipeReq := s.bus.wipeReq,
                      verifyReq := s.bus.verifyReq, waited := s.bus.waited } : BusState) = s.bus →
      (∀ p, (f s.bus).port = some p → p.source ≠ .forwarded) → Follows s (s.onBus f) := fun f hf ho =>
    { blocks := State.onBus_unchanged _ (by decide) (Unchanged.refl _ _)
      slots := fun _ => rfl, ring := ⟨rfl, rfl, rfl⟩, buffers := fun _ => rfl, gate := rfl,
      sweep := fun _ => ⟨rfl, rfl⟩, verify := fun _ => rfl, face := rfl
      path := hf, held := fun h => by rw [hp] at h; cases h
      own := fun _ b hb => ho b hb }
  unfold State.grantOwn
  split
  · unfold State.grantWriteBack
    split
    · next r hr n rest hw =>
      refine
        { blocks := ?_, slots := fun m => ?_, ring := ⟨rfl, rfl, rfl⟩, buffers := fun _ => rfl, gate := rfl,
          sweep := fun _ => ⟨rfl, rfl⟩, verify := fun _ => rfl, face := rfl, path := rfl,
          held := fun h => ?_, own := fun _ b hb => ?_ }
      · repeat' (first
          | with_reducible exact Unchanged.refl _ _
          | with_reducible apply State.onCues_unchanged
          | with_reducible apply State.onSlot_unchanged
          | with_reducible apply State.onBus_unchanged
          | decide)
      · simp only [State.slot, State.onSlot, State.onCues_cues, Table.get_modify, State.onBus_cues]
        split
        · next e => subst e; rfl
        · rfl
      · rw [hp] at h; cases h
      · simp only [State.onSlot, State.onCues_bus, State.onBus_bus, Option.some.injEq] at hb
        subst hb
        intro h; cases h
    · refine bus _ ?_ (fun p h => ?_)
      · unfold BusState.withdrawn; split <;> rfl
      · revert h; unfold BusState.withdrawn; split <;> (intro h; rw [hp] at h; cases h)
  · exact bus _ rfl (fun p h => by cases h; intro h; cases h)
  · exact bus _ rfl (fun p h => by cases h; intro h; cases h)
  · exact Follows.refl s

theorem arbitrate_follows (s : State) : Follows s s.arbitrate := by
  unfold State.arbitrate
  split
  · exact Follows.refl s
  · next h =>
    split
    · exact addDue_follows _ _
    · split
      · exact addDue_follows _ _
      · refine grantOwn_follows s ?_
        simp only [Bool.or_eq_true, not_or, Bool.not_eq_true, Option.isSome_eq_false_iff,
          Option.isNone_iff_eq_none] at h
        exact h.2

theorem after_follows (before s : State) : Follows s (State.after before s) :=
  ((settlePair_follows s _).trans (prepare_follows _)).trans (arbitrate_follows _)

/-- What an event leaves: its own effect, then only what may follow. -/
theorem event_follows (s : State) (f : State → State) : Follows (f s) (s.event f) := after_follows s (f s)

end Sys2Proof.Safety
end

