-- ==== Sys2Proof/Tests/Slice0.lean ====
section
/-! SUPPORT. Small tests: the ill-formed terms, the worked figures of the manual, and for each statement of
Certificates/Slice0/Obligations.lean a state that meets what it assumes. -/

namespace Sys2Proof.Tests.Slice0

set_option Elab.async false

open Sys2Proof Sys2Proof.Machine Sys2Proof.Safety

/-! ## Small states -/

/-- RUNNING, with every block at its values after power-on. -/
def up : State := State.reset.withGovernor .running

def tx (who : Initiator) (d : Direction) (a : Word) (n : Nat) : Presented :=
  { initiator := who, direction := d, address := a, length := n }

/-- A record of a transaction taken in RUNNING. -/
def rec (who : Initiator) (d : Direction) (a : Word) (n : Nat) (w : Window) (v : Verdict) : TxRecord :=
  { initiator := who, direction := d, address := a, length := n, data := [], window := w, verdict := v,
    target := none, refreshStart := false, wordsDone := 0, status := none, layout := Layout.powerOn,
    governed := true, endedShort := false }

/-- The state with this transaction in progress and its burst, if any, at the memory port. -/
def busy (s : State) (r : TxRecord) : State :=
  s.onBus fun b =>
    { b with upstream := some r
             port := if r.verdict.forwarded then some (r.burst s.settings.layout) else none }

/-- The state with this engine's burst in flight. -/
def bursting (s : State) (e : Engine) : State :=
  s.onBus fun b =>
    { b with port := some { source := .own e, direction := .write, address := 0, length := 16, data := [],
                            discarded := false, serves := some 3, carriesFinal := true } }

def due (s : State) (e : DueEvent) : State := s.onDue fun _ => [e]

def buffer (s : State) (k : BufferNo) (st : BufferState) : State := s.onBuffer k fun r => { r with state := st }

def entry (n : SlotNo) (kind : CueKind) (b : Option BufferNo) : QueueEntry :=
  { slot := n, kind := kind, buffer := b, dwellClass := 0, pair := false, holdOff := 0, lifetime := 0,
    expected := none }

def queued (s : State) (e : QueueEntry) : State := s.onCues fun c => { c with queue := [e] }

def shows (s : State) (sel : Showing) : State := s.onFace fun f => { f with showing := sel }

/-- The state with this service handed over with these parameters. -/
def call (s : State) (v : Service) (p1 p2 p3 : Half) : State :=
  s.onLink fun l =>
    { l with status := { code := v.code, state := .requested, error := .none }
             handed := { p1 := p1, p2 := p2, p3 := p3 } }

/-- The command answers a next state with this property. -/
def ends (c : Instr) (s : State) (post : State → Bool) : Bool :=
  match exec c s with
  | .next t => post t
  | _ => false

/-! ## Ill-formed commands -/

theorem test_length_zero_refused :
    exec (.transactionTake (some (tx .content .write 0 0))) up = .refused (.illFormed "TRANSACTION_TAKE") :=
  rfl

theorem test_length_33_refused :
    exec (.transactionTake (some (tx .content .write 0 33))) up = .refused (.illFormed "TRANSACTION_TAKE") :=
  rfl

theorem test_unaligned_refused :
    exec (.transactionTake (some (tx .content .write 2 1))) up = .refused (.illFormed "TRANSACTION_TAKE") :=
  rfl

theorem test_short_verify_refused :
    exec (.verifyBurstEnd .ok []) up = .refused (.illFormed "VERIFY_BURST_END") := rfl

theorem test_full_length_is_well_formed :
    (tx .scan .read 0x10000000#32 32).wellFormed = true ∧ (tx .scan .read 0x1001FFFC#32 1).wellFormed = true := by
  decide +kernel

/-! ## The manual's worked figures -/

/-- R110. -/
theorem test_scaled_pixel :
    scaleWord (2#2 ++ 1000#10 ++ 512#10 ++ 3#10) 384 = 2#2 ++ 375#10 ++ 192#10 ++ 1#10 := by decide +kernel

/-- R193: level 639 of face gain 640. -/
theorem test_pattern_word : patternWord (patternLevel 640) = 0x27F9FE7F#32 := by decide +kernel

/-- R48: bytes by their enables. -/
theorem test_merge_bytes :
    mergeBytes 0x11223344#32 0xAABBCCDD#32 { b3 := true, b2 := false, b1 := false, b0 := true } =
      0xAA2233DD#32 := by decide +kernel

/-- R194: a slot rejected at 19:00:00 with BAD_BUFFER, host sequence 18 and tag 0x0A03. -/
theorem test_result_words :
    let r : SlotRecord :=
      { SlotRecord.powerOn with
        state := .closing, outcome := some .rejected, reason := some .badBuffer
        hostSequence := 18, cueTag := 0x0A03, endStamp := some { clock := some 68400, duration := 0 } }
    (resultWord4 r, resultWord5 r, resultWord6 r) = (0x42120A03#32, 0x0081FFFF#32, 0x00000B30#32) := by
  decide +kernel

/-- R109: the default face is 256 pixels wide; pixel column 192, row 72 is tile 22. -/
theorem test_tile_of_offset :
    Layout.powerOn.tileOf 74496 = 22 ∧ Layout.powerOn.tileOf 0 = 0 ∧ Layout.powerOn.tileOf 131068 = 31 ∧
    Layout.powerOn.localIndex 74496 = 256 := by decide +kernel

/-- R94: the portal's figures for channel A, up and down. -/
theorem test_filter_steps :
    filterLevel 120 3000 2 = 840 ∧ filterLevel 840 3000 2 = 1380 ∧ filterLevel 3000 90 2 = 2273 ∧
    filterLevel 2273 90 2 = 1728 ∧ filterLevel 147 150 2 = 147 := by decide +kernel

/-- R1: "12345678" as two words, and "12345" as the five bytes of a frame. -/
theorem test_checksums :
    crc16Words crc16Init [0x31323334#32, 0x35363738#32] = 0xA12B#16 ∧ crc8 0x3132333435#40 = 0xF2#8 := by
  decide +kernel

/-- R195: five zero bytes have a CRC-8 other than 0. -/
theorem test_line_held_low : crc8 0 ≠ 0 := by decide +kernel

/-- R182, R194: tile 14 SUSPECT with counter 18 at refresh 57, on day 3 at 07:42:05. -/
theorem test_fault_window :
    (FaultWindow.record
      { kind := .tileSuspect, tile := some 14, detail := 18, sequence := 57
        clock := some { seconds := 27725, day := 3 } }).items = [0x0101#16, 14, 18, 57, 462, 5, 3] ∧
    (FaultWindow.overflow 3).items = [0x0200#16, 0xFFFF, 3, 0xFFFF, 0xFFFF, 0xFFFF, 0xFFFF] := by
  decide +kernel

/-- R193: report byte 0x96 is 86 degrees. -/
theorem test_temperature : temperatureOf 0x96#8 = 86 := by decide +kernel

/-- R189: the layout example of the manual, refused for ALIGNMENT, then OVERLAP, then passed. -/
theorem test_layout_checks :
    let l := { Layout.powerOn with columns := 16, rows := 8 }
    ({ l with cueBase := 0x20300200#32 } : Layout).check = (.alignment, .one .cue) ∧
    ({ l with cueBase := 0x20300000#32 } : Layout).check = (.overlap, .two .buffer .cue) ∧
    l.check = (.passed, .none) ∧ ({ l with columns := 16, rows := 9 } : Layout).check = (.tileCount, .none) ∧
    ({ l with faceBase := 0xFFFC0000#32 } : Layout).check = (.wrap, .one .face) ∧
    ({ l with faceBase := 0xFFF80000#32 } : Layout).check = (.passed, .none) := by decide +kernel

/-- R9: words 4 to 6 of a slot, and a slot that is not EMPTY, are closed to the host. -/
theorem test_cue_ring_writes :
    up.writeVerdict (tx .content .write 0x300000A0#32 8) .cue = .refuse ∧
    up.writeVerdict (tx .content .write 0x300000A0#32 4) .cue = .watch ∧
    up.writeVerdict (tx .content .write 0x300000BC#32 1) .cue = .watch ∧
    up.writeVerdict (tx .other .write 0x300000BC#32 1) .cue = .refuse := by decide +kernel

/-- R4: the bounds of the windows. -/
theorem test_windows :
    classify Layout.powerOn 0x1001FFFC#32 1 = .face ∧ classify Layout.powerOn 0x1001FFFC#32 2 = .straddle ∧
    classify Layout.powerOn 0x10020000#32 1 = .outside ∧ classify Layout.powerOn 0x200FFFFC#32 1 = .buffer ∧
    classify Layout.powerOn 0x300003FC#32 1 = .cue ∧ classify Layout.powerOn 0x300107FC#32 1 = .report ∧
    touchedBuffers Layout.powerOn 0x2001FFFC#32 2 = [0, 1] := by decide +kernel

/-- R4: a layout that passes the check, with a transaction inside a window, in none, and across a bound. -/
theorem test_window_classes :
    let l := Layout.powerOn
    l.check.1 = .passed ∧ windowOf l (tx .scan .read 0x1001FF80#32 32) = .face ∧
    windowOf l (tx .scan .read 0x1001FF84#32 32) = .straddle ∧
    windowOf l (tx .other .write 0x20100000#32 1) = .outside ∧
    windowOf l (tx .content .write 0xFFFFFFFC#32 2) = .outside ∧ wordAddress 0xFFFFFFFC#32 1 = 0 ∧
    windowOf l (tx .content .write 0x2FFFFFFC#32 2) = .straddle := by decide +kernel

/-- R46, R131: the last slot and word of the ring and of the report window, and their cells. -/
theorem test_last_slots :
    let l := Layout.powerOn
    (cueSlotAt l 0x300003FC = 31 ∧ cueWordAt l 0x300003FC = 7) ∧
    (reportSlotAt l 0x300107FC = 127 ∧ reportWordAt l 0x300107FC = 3) ∧
    (cueShadowCell 31 3).val = 127 ∧ (reportShadowCell 127 2).val = 383 := by decide +kernel

/-- R193: every field of the cue words and the report words at its bits. -/
theorem test_word_fields :
    cueKindOf 0xFFFFFFF4#32 = some .withdraw ∧ cueKindOf 0x5#32 = none ∧ cueBufferOf 0x700#32 = 7 ∧
    cueDwellClassOf 0x30000#32 = 3 ∧ cuePairOf 0x1000000#32 = true ∧ cueTimeOf 0xABCD1234#32 = 0x1234 ∧
    cueCheckOf 0x80001234#32 = some 0x1234#16 ∧ cueCheckOf 0x7FFF1234#32 = none ∧
    commitMarkerOf 0x5C120A03#32 = 0x5C#8 ∧ hostSequenceOf 0x5C120A03#32 = 0x12#8 ∧
    cueTagOf 0x5C120A03#32 = 0x0A03#16 ∧
    reportOf 0x7F39#32 0xFFFFA12B#32 0x0ABC0096#32 5#32 =
      { tile := 0x7F, sequence := 0x39, crc := 0xA12B, dark := 0xABC, temperature := 0x96
        overtemp := true, supplyLow := false, linkLost := true } := by decide +kernel

/-! ## Steps -/

theorem test_step_takes_front :
    step (up.withPending [.dwellMet, .silent 0]) = .next (up.withPending [.silent 0]) := rfl

theorem test_empty_queue_idles : up.pending = [] ∧ step up = .next up := ⟨rfl, rfl⟩

/-! ## States that meet what the statements assume -/

theorem test_invariants_met :
    let s := State.reset.withPending [.dwellMet]
    (GainsComposed s ∧ FaultQueueBounded s ∧ GuardBounded s) ∧
    (CueQueueOrdered s ∧ WriteBackListed s ∧ SwapReadyWanted s ∧ TileCountsBounded s) ∧
    EnginesSettled s ∧ step s = .next State.reset := by
  refine ⟨?_, ?_, ⟨?_, ?_, ?_, ?_⟩, rfl⟩ <;> decide +kernel

theorem test_settled_and_due :
    settlesFirst .closeSetup = true ∧ up.lines.rstn = false ∧ up.settle.due = [] ∧
    Due .dwellMet (due up .dwellMet) ∧ ¬ Due .dwellMet up := by decide +kernel

theorem test_not_ready :
    let r := rec .content .read 0 1 .outside .pass
    let p := tx .content .write 0x20000000#32 1
    p.wellFormed = true ∧ up.due = [] ∧
    (busy up r).bus.upstream.isSome = true ∧ (bursting up .wipe).bus.port.isSome = true ∧
    (up.onBus fun b => { b with waited := 8, wipeReq := some (up.wipeBurst 0) }).bus.guardClaims = true ∧
    (up.onLines fun l => { l with fbrst := true }).lines.fbrst = true ∧
    (up.onLines fun l => { l with rstn := true }).lines.rstn = true := by decide +kernel

theorem test_take_in_setup :
    Takes (tx .other .read 0x1001FFFC#32 2) State.reset ∧ State.reset.governor = .setup ∧
    LayoutWindow.face.holds Layout.powerOn (wordAddress 0x1001FFFC#32 0) = true ∧
    LayoutWindow.face.holds Layout.powerOn (wordAddress 0x10020000#32 0) = false := by decide +kernel

theorem test_take_write :
    Takes (tx .content .write 0x20000000#32 16) up ∧ up.governor = .running ∧
    windowOf up.settings.layout (tx .content .write 0x20000000#32 16) = .buffer ∧
    up.writeVerdict (tx .content .write 0x20000000#32 16) .buffer = .pass ∧
    up.writeVerdict (tx .content .write 0x200E0000#32 16) .buffer = .refuse ∧
    (buffer up 0 .staged).writeVerdict (tx .content .write 0x20000000#32 16) .buffer = .refuse ∧
    up.writeVerdict (tx .scan .write 0x20000000#32 16) .buffer = .refuse := by decide +kernel

theorem test_take_read :
    let away := tx .scan .read 0x10000004#32 1
    Takes away up ∧ up.startsRefresh away = false ∧ windowOf up.settings.layout away = .face ∧
    up.startsRefresh (tx .content .read 0x10000000#32 1) = false ∧
    up.startsRefresh (tx .scan .read 0x1001FFFC#32 2) = false ∧
    (shows up (.buffer 2 5)).face.showing = .buffer 2 5 ∧ up.face.showing = .black := by decide +kernel

theorem test_refresh_start :
    let p := tx .scan .read 0x10000000#32 1
    Takes p up ∧ up.startsRefresh p = true ∧ up.test.runs = false ∧ (∀ i, (up.tile i).scan.held = none) ∧
    (up.onScan fun c => { c with openRefresh := some 7 }).scan.openRefresh = some 7 := by decide +kernel

/-- R86, R134: a scan that had stalled, also with the fault queue full, and a tile that holds a report. -/
theorem test_refresh_start_notes :
    let p := tx .scan .read 0x10000000#32 1
    let stalled := up.onFace fun f => { f with stalled := true, stallCount := 12 }
    let full := stalled.onFaults fun f =>
      { f with queue := List.replicate 32 (up.faultRecord .scanStall none 10) }
    let held := up.onTileScan 3 fun u => { u with held := some (reportOf 0x307#32 0 0 1) }
    Takes p stalled ∧ stalled.startsRefresh p = true ∧ stalled.face.stalled = true ∧
    stalled.faults.queue.length < 32 ∧ Takes p full ∧ full.startsRefresh p = true ∧
    32 ≤ full.faults.queue.length ∧ Takes p held ∧ held.startsRefresh p = true ∧ held.test.runs = false ∧
    3 < held.tileCount ∧ (held.tile 3).scan.held.isSome = true ∧ (held.tile 4).scan.held = none := by
  decide +kernel

/-- R164, R167: a state for each phase; the refresh closed is COMPLETE or not, attempts are left or not. -/
theorem test_test_step_cases :
    let p := tx .scan .read 0x10000000#32 1
    let running := fun (phase : TestPhase) (used : Nat) =>
      (up.onScan fun c => { c with openRefresh := some 7 }).onTest fun _ =>
        { TestRecord.called 3 2 with phase := phase, used := used, sequence := some 7, named := [7] }
    let whole := (running .sending 1).onTileScan 3 fun u => { u with delivered := 1024 }
    let waits := fun n : Nat => (running .awaiting 1).onTest fun u => { u with wait := n }
    (∀ s ∈ [running .due 0, running .sending 1, running .sending 2, whole, waits 58, waits 59],
      Takes p s ∧ s.startsRefresh p = true ∧ s.test.outcome = .inProgress ∧ s.test.tile = some 3 ∧
      s.settings.reportTimeout = 60) ∧
    (∀ j, ((running .due 0).tile j).scan.held = none) ∧ (∀ j, (whole.tile j).scan.held = none) ∧
    (closedHistory whole 3).find? (fun h => h.sequence == 7) =
      some { sequence := 7, crc := 0xFFFF, complete := true } ∧
    (closedHistory (running .sending 1) 3).find? (fun h => h.sequence == 7) =
      some { sequence := 7, crc := 0xFFFF, complete := false } := by decide +kernel

/-- R140: at the report timeout SILENT stands due for the tile, with the count as it rose; one short of it
nothing does. -/
theorem test_silent_comes_due :
    let p := tx .scan .read 0x10000000#32 1
    let s := fun n : Nat => up.onTileScan 3 fun u => { u with silence := n }
    Takes p (s 59) ∧ (s 59).startsRefresh p = true ∧ (s 59).refreshStart.due = [.silent 3] ∧
    ((s 59).refreshStart.tile 3).scan.silence = 60 ∧ (s 58).refreshStart.due = [] := by decide +kernel

/-- A Tile test of tile 3 that awaits its second report of 7, which tile 3 holds, with these dark pixels. -/
def echoed (used : Nat) (dark : Word) : State :=
  ((up.onScan fun c => { c with openRefresh := some 7 }).onTileScan 3 fun u =>
    { u with delivered := 1024, held := some (reportOf 0x307#32 0xFFFF#32 dark 0) }).onTest fun _ =>
      { TestRecord.called 3 2 with phase := .sending, used := used, sequence := some 7, named := [6, 7] }

/-- R129, R134, R164, R166: the held report is judged before the Tile test's step: it passes, or the next
attempt begins at this refresh start, or none is left. -/
theorem test_held_report_while_testing :
    let p := tx .scan .read 0x10000000#32 1
    (∀ s ∈ [echoed 1 0, echoed 1 0x110000#32, echoed 2 0x110000#32],
      Takes p s ∧ s.startsRefresh p = true ∧ s.test.outcome = .inProgress ∧ s.test.tile = some 3 ∧
      s.test.names 3 7 = true ∧ s.test.sequence = some 7 ∧ 3 < s.tileCount ∧
      ((s.tile 3).scan.held.map Report.sequence) = some 7) ∧
    (echoed 1 0).refreshStart.test.outcome = .passed ∧
    (echoed 1 0x110000#32).refreshStart.test.phase = .sending ∧
    (echoed 1 0x110000#32).refreshStart.test.used = 2 ∧
    (echoed 2 0x110000#32).refreshStart.test.outcome = .failedAttempts ∧
    ((echoed 2 0x110000#32).refreshStart.tile 3).state = .faulted := by decide +kernel

/-- R61, R63: the outgoing cue stands in the write-back list before the incoming one; a preempt writes the
suspended one first, and the notice takes its lifetime as its notice time. -/
theorem test_write_back_order :
    let active := fun s : State => s.onSlot 6 fun r => { r with state := .active, shownTime := 9 }
    let swap := (active (shows (queued up (entry 5 .blank none)) (.blank 6))).onFace fun f =>
      { f with dwell := .met }
    let preempt := (active (shows (queued (buffer up 7 .staged)
      { entry 4 .notice (some 7) with lifetime := 30 }) (.blank 6))).onFace fun f =>
        { f with dwellClass := some 1 }
    swap.refreshStart.cues.writeBack = [6, 5] ∧
    (swap.refreshStart.slot 6).endStamp = some { clock := none, duration := 9 } ∧
    preempt.refreshStart.cues.writeBack = [6, 4] ∧
    (preempt.refreshStart.slot 4).noticeTime = some 30 := by decide +kernel

/-- R74: a state for each case. -/
theorem test_decision_cases :
    let notice := entry 4 .notice (some 7)
    let frame := entry 5 .frame (some 2)
    let met := up.onFace fun f => { f with dwell := .met }
    (buffer up 7 .showing).noticeShowing = true ∧ up.face.noticeEnd = false ∧
    (queued (buffer up 7 .staged) notice).eligible notice = true ∧
    (queued (buffer met 2 .staged) frame).eligible frame = true ∧
    (queued (buffer met 2 .staged) frame).pairCondition frame = true ∧
    (queued (buffer met 2 .staged) frame).noticeShowing = false ∧
    (queued (buffer met 2 .staged) frame).face.dwell = .met ∧
    (queued met frame).preempting = none ∧ (queued met frame).swappable = none := by decide +kernel

theorem test_notice_end_cases :
    let p := tx .scan .read 0x10000000#32 1
    let s := (shows (buffer up 7 .showing) (.buffer 7 4)).onFace fun f => { f with noticeEnd := true }
    Takes p s ∧ s.startsRefresh p = true ∧ s.bufferState noticeBuffer = .showing ∧ s.face.noticeEnd = true ∧
    s.face.showing = .buffer noticeBuffer 4 ∧ s.face.suspended = .empty ∧ s.swappable = none ∧
    (queued (buffer s 2 .staged) (entry 5 .frame (some 2))).swappable = some (entry 5 .frame (some 2)) ∧
    (queued s (entry 5 .blank none)).swappable = some (entry 5 .blank none) ∧
    (s.onFace fun f => { f with suspended := .buffer 3 6 1 }).face.suspended = .buffer 3 6 1 ∧
    (s.onFace fun f => { f with suspended := .blank 6 1 }).face.suspended = .blank 6 1 := by decide +kernel

theorem test_words_owed :
    let w := rec .content .write 0x300000A0#32 4 .cue .watch
    let x := rec .other .write 0x10000000#32 2 .face .refuse
    let y := rec .scan .read 0x10000004#32 2 .face .answer
    let z := rec .other .read 0x40000000#32 2 .outside .pass
    Owed w .write (busy up w) ∧ Owed x .write (busy up x) ∧ x.wordsDone + 1 < x.length ∧
    Owed { x with wordsDone := 1 } .write (busy up { x with wordsDone := 1 }) ∧
    Owed y .read (busy up y) ∧ y.scansFace = true ∧
    Owed { y with wordsDone := 1 } .read (busy up { y with wordsDone := 1 }) ∧
    Owed z .read (busy up z) ∧ z.scansFace = false ∧
    Owed { z with verdict := .remap, governed := false } .read
      (busy up { z with verdict := .remap, governed := false }) ∧
    Owed { z with verdict := .answer, wordsDone := 1 } .read
      (busy up { z with verdict := .answer, wordsDone := 1 }) ∧ Quiet up ∧ up.bus.upstream = none := by decide +kernel

/-- A word 7 of slot 5 with the marker, after the words of a FRAME cue of B2; and one of a report. -/
def committed : State :=
  let w := { rec .content .write 0x300000BC#32 1 .cue .watch with wordsDone := 1 }
  (busy up w).onCues fun c =>
    { c with shadow := c.shadow.set (cueShadowCell 5 0) 0x201#32
             noted := [{ slot := 5, word := 0x5C120A03#32, enables := ByteEnables.all }] }

def reported : State :=
  let w := { rec .report .write 0x3001000C#32 1 .report .watch with wordsDone := 1 }
  (busy up w).onScan fun c =>
    { c with noted := [{ slot := 0, word := 0, enables := ByteEnables.all }] }

theorem test_forwarded_ends :
    let r := { rec .scan .read 0x10000004#32 1 .face .remap with wordsDone := 1, target := some 2 }
    Ending r .error (busy up r) ∧ r.scansFace = true ∧ (busy up r).bus.errorMark = false ∧
    Ending { r with wordsDone := 0 } .error (busy up { r with wordsDone := 0 }) ∧
    ({ r with wordsDone := 0 } : TxRecord).endsEarly .ok = true := by
  refine ⟨⟨?_, rfl, ?_, _, rfl, ?_, ?_⟩, ?_, ?_, ⟨?_, rfl, ?_, _, rfl, ?_, ?_⟩, ?_⟩ <;> decide +kernel

theorem test_commit_cases :
    let r := { rec .content .write 0x300000BC#32 1 .cue .watch with wordsDone := 1 }
    Ending r .ok committed ∧ Ending r .error committed ∧ committed.governor = .running ∧
    commitMarkerOf 0x5C120A03#32 = 0x5C#8 ∧ cueKindOf (committed.cueShadow 5 0) = some .frame ∧
    committed.commitCheck (some .frame) 2 = some .bufferState ∧
    (buffer committed 2 .filling).commitCheck (some .frame) 2 = none ∧
    (buffer committed 7 .filling).commitCheck (some .notice) 7 = none ∧
    committed.commitCheck (some .blank) 2 = none ∧ cueKindOf 0x4#32 = some .withdraw ∧
    (queued committed (entry 4 .notice (some 7))).cues.queue.find? (fun q => q.kind == .notice)
      = some (entry 4 .notice (some 7)) ∧
    (buffer committed 7 .showing).bufferState noticeBuffer = .showing := by
  refine ⟨⟨?_, rfl, ?_, _, rfl, ?_, ?_⟩, ⟨?_, rfl, ?_, _, rfl, ?_, ?_⟩, ?_⟩ <;> decide +kernel

/-- The state of a commit with a verify of this buffer's cue begun, and the cue queued in slot 6. -/
def verifying (s : State) (kind : CueKind) (k : BufferNo) : State :=
  (queued (buffer s k .verifying) { entry 6 kind (some k) with expected := some 7, lifetime := 1 }).prepare

/-- R41, R45: a NOTICE with a content check takes the engine from a frame; one without leaves it the frame. -/
theorem test_notice_takes_the_verify :
    let notice := fun check : Word => (verifying (buffer committed 7 .filling) .frame 2).onCues fun c =>
      { c with shadow := (c.shadow.set (cueShadowCell 5 0) 0x702#32).set (cueShadowCell 5 3) check }
    let after := fun check : Word => (notice check).judgeCommit 5 0x5C120A03#32
    cueKindOf ((notice 0).cueShadow 5 0) = some .notice ∧
    cueKindOf ((notice 0x80000009#32).cueShadow 5 0) = some .notice ∧
    (notice 0x80000009#32).commitCheck (some .notice) 7 = none ∧
    (notice 0x80000009#32).table.verifying.isSome = true ∧ (notice 0).bus.verifyReq.isSome = true ∧
    (after 0x80000009#32).table.verifying = none ∧ (after 0x80000009#32).bus.verifyReq = none ∧
    Quiet (notice 0x80000009#32) ∧
    ends (.forwardedBurstEnd .ok) (notice 0x80000009#32) (fun t =>
      t.table.verifying == some { buffer := 7, expected := 9, wordsRead := 0, running := 0xFFFF } &&
      t.bufferState 2 == .verifying && t.bus.inFlight .verify) = true ∧
    (after 0).table.verifying = (notice 0).table.verifying ∧ (after 0).bus = (notice 0).bus := by decide +kernel

/-- R45: a WITHDRAW of the notice whose B7 is being verified, and of one while a frame's buffer is. -/
theorem test_withdraw_gives_the_verify_up :
    let withdraw := fun s : State => s.onCues fun c => { c with shadow := c.shadow.set (cueShadowCell 5 0) 4 }
    let mine := withdraw (verifying committed .notice 7)
    let other := (withdraw (verifying committed .frame 2)).onCues fun c =>
      { c with queue := entry 4 .notice (some 7) :: c.queue }
    mine.table.verifying.isSome = true ∧ mine.bus.verifyReq.isSome = true ∧
    (mine.judgeCommit 5 0x5C120A03#32).table.verifying = none ∧
    (mine.judgeCommit 5 0x5C120A03#32).bus.verifyReq = none ∧
    other.table.verifying.isSome = true ∧
    (other.judgeCommit 5 0x5C120A03#32).table.verifying = other.table.verifying ∧
    (other.judgeCommit 5 0x5C120A03#32).bus = other.bus := by decide +kernel

theorem test_report_cases :
    let r := { rec .report .write 0x3001000C#32 1 .report .watch with wordsDone := 1 }
    let seen := fun crc : Half => (reported.onTileScan 0 fun u =>
      { u with history := [{ sequence := 0, crc := crc, complete := true }] }).tile 0
    let p := reportOf 0 0 0 0
    Ending r .ok reported ∧ (p.tile.toNat = 0 ∧ 0 < up.tileCount) ∧ reported.scan.openRefresh = none ∧
    (reported.onScan fun c => { c with openRefresh := some 0 }).scan.openRefresh = some p.sequence ∧
    reported.test.names 0 p.sequence = false ∧ (seen 0).scan.compare p = .matched ∧
    (seen 1).scan.compare p = .mismatch ∧ p.events .matched 16 = [] ∧ p.events .mismatch 16 = [.echoMismatch] ∧
    (reportOf 0x100#32 0 0 0).tile.toNat ≠ 0 := by
  refine ⟨⟨?_, rfl, ?_, _, rfl, ?_, ?_⟩, ?_⟩ <;> decide +kernel

/-- R146 to R148: a report with an echo mismatch and two flags, weighed from LIT to SUSPECT and to FAULTED. -/
theorem test_weighed_reports :
    let g := Settings.powerOn .alone
    let p := reportOf 0 0 0 6
    let tile := fun n : Nat => { TileRecord.powerOn with counter := n }
    eventsOf p .mismatch 16 = [.echoMismatch, .supplyLow, .linkLost] ∧
    (weighedReport g (tile 10) p .mismatch).records = [(.tileSuspect, 16)] ∧
    (weighedReport g (tile 10) p .mismatch).counter = 24 ∧
    (weighedReport g (tile 55) p .mismatch).records = [(.tileSuspect, 59), (.tileFaulted, 69)] ∧
    (weighedReport g (tile 55) p .mismatch).state = .faulted ∧
    (weighedReport g (tile 16) (reportOf 0 0 0 0) .matched).state = .lit := by decide +kernel

/-- R166 to R168: a report of the current attempt: PASS, DARK with an attempt left and with none, and one of
an attempt that is over. -/
theorem test_test_reports :
    let testing := fun used : Nat => (up.onTileScan 3 fun u =>
      { u with history := [{ sequence := 7, crc := 0, complete := true }] }).onTest fun _ =>
        { TestRecord.called 3 2 with phase := .awaiting, used := used, sequence := some 7, named := [6, 7] }
    let p := reportOf 0x307#32 0 0 0
    (testing 1).test.names 3 7 = true ∧ (testing 1).test.names 3 6 = true ∧
    (testing 1).test.names 3 8 = false ∧ comparisonOf ((testing 1).tile 3).scan.history p = .matched ∧
    p.dark.toNat ≤ up.settings.darkLimit ∧ up.settings.darkLimit < (reportOf 0x307#32 0 0x110000#32 0).dark.toNat ∧
    (testing 1).test.used < (testing 1).test.requested.getD 0 ∧
    (testing 2).test.requested.getD 0 ≤ (testing 2).test.used := by decide +kernel

/-- R15, R36, R41, R64: an idle device chooses nothing; B5 owed a sweep, a cue with a content check and a
listed slot are each chosen. -/
theorem test_engine_cases :
    let checked := { entry 5 .frame (some 2) with expected := some 7 }
    let s := (queued (buffer (buffer up 5 .wiping) 2 .verifying) checked).listSlot 3
    up.table.sweeping = none ∧ up.table.verifying = none ∧ up.cues.writeBack = [] ∧
    up.bus.inFlight .wipe = false ∧ (bursting up .wipe).bus.inFlight .wipe = true ∧ up.bus.wipeReq = none ∧
    s.bufferState 5 = .wiping ∧ (s.bufferState 2 = .verifying ∧ checked.expected = some 7) ∧
    s.cues.writeBack = [3] ∧ s.prepare.table.sweeping = some 5 ∧
    (s.prepare.bus.writeBackReq.map OwnRequest.address) = some 0x30000070#32 := by decide +kernel

theorem test_own_bursts :
    let closing := (bursting up .writeBack).onSlot 3 fun r => { r with state := .closing }
    (∃ p, OwnEnding .writeBack p closing ∧ p.serves = some 3 ∧ p.carriesFinal = true ∧
      (closing.slot 3).state = .closing) ∧
    (∃ p, OwnEnding .wipe p (bursting up .wipe)) ∧ (∃ p, OwnEnding .verify p (bursting up .verify)) ∧
    (up.onTable fun t => { t with sweeping := some 5 }).table.sweeping = some 5 ∧
    (32736 + 16 < up.settings.layout.faceWords ∧ up.settings.layout.faceWords ≤ 32752 + 16) ∧
    (∃ p, (((bursting up .wipe).onBus fun b => b.discardOwn .wipe).bus.port = some p ∧
      p.source = .own .wipe ∧ p.discarded = true)) ∧
    Instr.wellFormed (.verifyBurstEnd .ok (List.replicate 16 0)) = true := by
  refine ⟨⟨_, ⟨?_, rfl, ?_, ?_⟩, ?_⟩, ⟨_, ?_, rfl, ?_, ?_⟩, ⟨_, ?_, rfl, ?_, ?_⟩, ?_, ?_, ⟨_, rfl, ?_⟩, ?_⟩ <;>
    decide +kernel

/-- R15: each burst in flight; an engine's as its request was raised and granted. -/
theorem test_bursts_in_flight_settled :
    let forwarded := busy up (rec .other .write 0x40000000#32 1 .outside .pass)
    let writeBack := (up.listSlot 3).prepare.arbitrate
    let wipe := (buffer up 5 .wiping).prepare.arbitrate
    let verify := (queued (buffer up 2 .verifying)
      { entry 5 .frame (some 2) with expected := some 7 }).prepare.arbitrate
    EnginesSettled forwarded ∧ EnginesSettled writeBack ∧ EnginesSettled wipe ∧ EnginesSettled verify ∧
    (forwarded.forwardedBurst.isSome = true ∧ writeBack.bus.inFlight .writeBack = true ∧
      wipe.bus.inFlight .wipe = true ∧ verify.bus.inFlight .verify = true ∧ Quiet verify) := by
  refine ⟨⟨?_, ?_, ?_, ?_⟩, ⟨?_, ?_, ?_, ?_⟩, ⟨?_, ?_, ?_, ?_⟩, ⟨?_, ?_, ?_, ?_⟩, ?_⟩ <;> decide +kernel

/-- R16, R17: a free port with a request, with a transaction held besides, and with the guard's claim. -/
theorem test_arbiter_cases :
    let asks := (buffer up 5 .wiping).prepare
    let waits := asks.onBus fun b => { b with presented := some (tx .scan .read 0 1) }
    let claims := waits.onBus fun b => { b with waited := 8 }
    asks.bus.port = none ∧ asks.bus.guardClaims = false ∧ asks.bus.wipeReq = some (asks.wipeBurst 5) ∧
    waits.arbitrate.due = [.takePresented] ∧ claims.arbitrate.due = [.guardClaim] ∧ up.arbitrate = up := by
  decide +kernel

theorem test_guard_claims :
    let s := (due up .guardClaim).onBus fun b => { b with waited := 8, wipeReq := some (up.wipeBurst 0) }
    let v := (due up .guardClaim).onBus fun b =>
      { b with waited := 8, verifyReq := some (up.wipeBurst 0) }
    let w := (s.onBus fun b => { b with writeBackReq := some (up.writeBackBurst 3) }).onCues fun c =>
      { c with writeBack := [3] }
    let held := (due up .takePresented).onBus fun b => { b with presented := some (tx .scan .read 0 1) }
    Due .guardClaim s ∧ s.bus.port = none ∧ s.bus.guardClaims = true ∧ s.bus.writeBackReq = none ∧
    v.bus.guardClaims = true ∧ v.bus.wipeReq = none ∧ w.bus.guardClaims = true ∧ w.cues.writeBack = [3] ∧
    held.due = [.takePresented] ∧ held.portReady = true ∧ (tx .scan .read 0 1).wellFormed = true := by
  decide +kernel

theorem test_counts_at_their_end :
    let q := queued (due up (.holdOffEnd 5)) { entry 5 .frame (some 2) with holdOff := 1, lifetime := 1 }
    let shown := (due up (.noticeTimeEnd 4)).onSlot 4 fun r =>
      { r with state := .active, noticeTime := some 1 }
    let timed := up.onFace fun f => { f with dwell := .counting 1, pairWait := .counting 1, stallCount := 20 }
    Due (.holdOffEnd 5) q ∧ Due (.cueExpiry 5) (due q (.cueExpiry 5)) ∧
    (q.cues.queue.find? fun e => e.slot == 5) =
      some { entry 5 .frame (some 2) with holdOff := 1, lifetime := 1 } ∧
    Due (.noticeTimeEnd 4) shown ∧ (shown.slot 4).noticeTime = some 1 ∧ (shown.slot 4).state = .active ∧
    Due .dwellMet (due timed .dwellMet) ∧ timed.face.dwell = .counting 1 ∧
    Due .pairWaitExpiry (due timed .pairWaitExpiry) ∧ timed.face.pairWait = .counting 1 ∧
    Due .scanStall (due timed .scanStall) ∧ timed.settings.stallLimit ≤ timed.face.stallCount ∧
    timed.face.stalled = false ∧ (timed.onTest fun _ => TestRecord.called 3 2).test.outcome = .inProgress := by
  decide +kernel

/-- R45: an expiry and an upstream reset discard the verify burst in flight of the cue they end; a verify of
another cue's buffer goes on. -/
theorem test_verify_burst_discarded :
    let s := (verifying up .frame 2).arbitrate
    let other := s.onCues fun c => { c with queue := { entry 9 .frame (some 3) with lifetime := 1 } :: c.queue }
    let portIs := fun (t : State) (discarded : Bool) =>
      (t.bus.port.map fun b => (b.source, b.discarded)) == some (.own .verify, discarded)
    (Due (.cueExpiry 6) (due s (.cueExpiry 6)) ∧ Due (.cueExpiry 9) (due other (.cueExpiry 9)) ∧ Quiet s) ∧
    portIs s false = true ∧ s.table.verifying.isSome = true ∧
    ends (.cueExpiry 6) (due s (.cueExpiry 6)) (fun t => portIs t true && t.table.verifying.isNone) = true ∧
    ends .upstreamReset s (fun t => portIs t true && t.table.verifying.isNone) = true ∧
    ends (.cueExpiry 9) (due other (.cueExpiry 9))
      (fun t => portIs t false && t.table.verifying == other.table.verifying) = true := by decide +kernel

/-- R140, R148: SILENT at weight 8 on counters 0, 8 and 56, with the limits 16 and 64. -/
theorem test_silent_cases :
    let s := (due up (.silent 3)).onTileScan 3 fun u => { u with silence := 60 }
    Due (.silent 3) s ∧ 3 < s.tileCount ∧ s.settings.reportTimeout ≤ (s.tile 3).scan.silence ∧
    (s.tile 3).state = .lit ∧ s.settings.weightSilent = 8 ∧ s.settings.suspectLimit = 8 + 8 ∧
    s.settings.faultLimit = 56 + 8 ∧ 0 + 8 < s.settings.suspectLimit := by decide +kernel

theorem test_test_wait_cases :
    let s := (due up .testWaitExpiry).onTest fun _ =>
      { TestRecord.called 3 2 with phase := .awaiting, wait := 60, used := 1 }
    Due .testWaitExpiry s ∧ s.test.outcome = .inProgress ∧ s.test.phase = .awaiting ∧
    s.settings.reportTimeout ≤ s.test.wait ∧ s.test.tile = some 3 ∧ s.test.used < s.test.requested.getD 0 ∧
    s.test.requested.getD 0 ≤ ({ s.test with used := 2 } : TestRecord).used := by decide +kernel

theorem test_second_step_cases :
    let s := (due up .secondStep).setGate (.opened 1)
    Due .secondStep s ∧ s.table.gate = .opened 1 ∧ (s.setGate (.opened 3600)).table.gate = .opened 3600 ∧
    (s.setGate .closed).table.gate = .closed ∧ Due .noticeGateTimeout (due s .noticeGateTimeout) := by
  decide +kernel

/-- R102: of two bands that started together the lower number is in force. -/
theorem test_band_cases :
    let set := up.onLight fun l => { l with clock := { seconds := 100, day := 3, isSet := true } }
    let s := set.onSettings fun g =>
      { g with bands := Table.fill 8 { Band.powerOn with enabled := true } }
    up.light.clock.isSet = false ∧ set.light.clock.isSet = true ∧ set.bandInForce = .default ∧
    s.bandInForce = .band 0 ∧ set.bandCeiling = 1024 ∧ up.bandCeiling = 256 := by decide +kernel

theorem test_curve_cases :
    up.combinedLevel = none ∧ Quiet up ∧
    (up.setChannel .a { ChannelRecord.powerOn with state := .good, level := some 7 }).combinedLevel = some 7 ∧
    ((up.setChannel .a { ChannelRecord.powerOn with state := .good, level := some 7 }).setChannel .b
      { ChannelRecord.powerOn with state := .good, level := some 9 }).combinedLevel = some 9 ∧
    ((0 : Half).toNat ≤ 1024 ∧ (4095 : Half).toNat ≤ 4095) ∧
    curveGain (Settings.powerOn .alone).curve 255 = 64 ∧ curveGain (Settings.powerOn .alone).curve 256 = 128 ∧
    curveGain (Settings.powerOn .alone).curve 4095 = 1024 ∧ curveGain (Table.fill 16 ⟨0, 7⟩) 1 = 7 := by
  decide +kernel

/-- A window of five steps at its last one, with so many pulses. -/
def window (st : ChannelState) (level : Option Nat) (pulses jump : Nat) : State :=
  (due up (.gateWindowEnd .a)).setChannel .a
    { ChannelRecord.powerOn with state := st, left := 1, pulses := pulses, level := level, jumpRun := jump }

/-- R91, R93 to R97: a state for each clause; 20480 pulses are the first CLIPPED count. -/
theorem test_window_cases :
    let dark := (window .good (some 9) 4 0).setChannel .a
      { ChannelRecord.powerOn with state := .good, left := 1, pulses := 4, level := some 9, darkRun := 19 }
    Due (.gateWindowEnd .a) (window .starting none 5 0) ∧
    ((window .starting none 5 0).windowResult .a).1.state = .good ∧
    ((window .starting none 4 0).windowResult .a).1.state = .starting ∧
    ((window .dead none 20479 0).windowResult .a).2 = some .sensorRecovered ∧
    ((window .saturated none 20480 0).windowResult .a).1.state = .saturated ∧
    (dark.windowResult .a).2 = some .sensorDead ∧
    ((window .good (some 120) 15000 0).windowResult .a).1.level = some 840 ∧
    ((window .good (some 1380) 15000 2).windowResult .a).1.level = some 3000 ∧
    (window .good (some 1380) 15000 2).windowJumps .a = true ∧
    ((window .good (some 2500) 15000 2).windowResult .a).1.jumpRun = 0 := by decide +kernel

theorem test_saturates :
    let s := (window .good (some 9) 20480 0).setChannel .a
      { ChannelRecord.powerOn with state := .good, left := 1, pulses := 20480, level := some 9, clipRun := 19 }
    (s.windowResult .a).2 = some .sensorSaturated ∧ (s.channel .a).left = 1 := by decide +kernel

/-- R80 to R83: SWAPRDY rises as the dwell timer is met and as the hold-off ends, PARTNER low or high. -/
theorem test_handshake_cases :
    let pair := { entry 5 .blank none with pair := true }
    let paired := up.onSettings fun g => { g with pairsel := .paired }
    let s := (queued (due paired .dwellMet) pair).onFace fun f => { f with dwell := .counting 1 }
    let h := (queued (due paired (.holdOffEnd 5)) { pair with holdOff := 1 }).onFace fun f =>
      { f with dwell := .met }
    let wanted := (queued paired pair).onFace fun f => { f with dwell := .met }
    s.settings.pairsel = .paired ∧ s.governor = .running ∧ s.face.swapReady = false ∧ Due .dwellMet s ∧
    s.eligible pair = true ∧ s.settings.pairWait = 10 ∧ Due (.holdOffEnd 5) h ∧ h.face.dwell = .met ∧
    wanted.handshakeWanted = true ∧ up.handshakeWanted = false ∧ wanted.headSlot = some 5 ∧
    (wanted.settlePair none).face.pairWait = .counting 10 ∧
    ((wanted.onLines fun l => { l with partner := true }).settlePair none).face.latch = true := by
  decide +kernel

/-- R21, R23: a transaction waits at the port as each reset comes; an own request pends while its port is held. -/
theorem test_reset_line_cases :
    let waits := up.onBus fun b => { b with presented := some (tx .scan .read 0 1) }
    let held := (bursting up .wipe).onBus fun b => { b with waited := 3, verifyReq := some (up.wipeBurst 0) }
    Quiet waits ∧ (waits.onLines fun l => { l with rstn := true }).bus.presented = some (tx .scan .read 0 1) ∧
    Quiet held ∧ held.lines.fbrst = false ∧ held.bus.port.isSome = true ∧ held.bus.anyRequest = true := by
  decide +kernel

/-- R21: FBRST drops a transaction presented and not taken while RSTN is asserted too. -/
theorem test_upstream_reset_under_power_on :
    let s := (up.onBus fun b => { b with presented := some (tx .scan .read 0 1) }).onLines fun l =>
      { l with rstn := true }
    exec .upstreamReset s = .next ((s.onBus fun b => { b with presented := none }).onLines fun l =>
      { l with fbrst := true }) := rfl

theorem test_line_cases :
    let waits := up.onFace fun f => { f with swapReady := true, pairWait := .counting 10 }
    Quiet waits ∧ waits.face.latch = false ∧ waits.face.pairWait = .counting 10 ∧ up.lines.fbrst = false ∧
    Quiet (up.onLines fun l => { l with fbrst := true }) ∧
    (up.onLines fun l => { l with rstn := true }).bus.presented = none := by decide +kernel

/-- Every item written has a number that names it again, at the ends of each table. -/
theorem test_item_numbers :
    itemOf 0x0017#16 = some (.status 23) ∧ itemOf 0x0018#16 = none ∧ itemOf 0x010E#16 = some (.layout 14) ∧
    itemOf 0x0223#16 = some (.operating 35) ∧ itemOf 0x031F#16 = some (.curve 15 .gain) ∧
    itemOf 0x0407#16 = none ∧ itemOf 0x043E#16 = some (.band 7 .minDwell) ∧
    itemOf 0x057F#16 = some (.trim 127) ∧ itemOf 0x0803#16 = some .call ∧ itemOf 0x0A14#16 = some (.snapshot 20) ∧
    itemOf 0x1019#16 = some (.tileField 24) ∧ itemOf 0x1140#16 = some .gateState ∧
    itemOf 0x120C#16 = none ∧ itemOf 0x121E#16 = some (.testNamed 14) := by decide +kernel

/-- R178, R183, R194: the items of a device just started, and of its snapshot. -/
theorem test_read_only_items :
    (State.reset.statusItems.drop 2) = statusValues State.reset ∧
    (statusValues State.reset).length = 22 ∧ (tileValues (State.reset.tile 0)).length = 25 ∧
    (snapshotValues State.reset).length = 20 ∧ State.reset.captured.items.cells = snapshotValues State.reset := by
  decide +kernel

theorem test_link_cases :
    (up.offer .scanStall none 20).faults.queue.length = 1 ∧ up.faults.queue = [] ∧
    itemOf 0x0003#16 = some (.status 3) ∧ itemOf 0x0600#16 = none := by decide +kernel

/-- R176: a value at each end of a range passes; each check that fails by its own outcome. -/
theorem test_write_cases :
    up.writeRefusal (.operating 14) 1 = none ∧ up.writeRefusal (.operating 14) 255 = none ∧
    up.writeRefusal (.operating 14) 0 = some .range ∧ up.writeRefusal (.operating 23) 128 = none ∧
    up.writeRefusal (.operating 22) 1 = none ∧ up.writeRefusal (.trim 127) 1024 = none ∧
    up.writeRefusal (.trim 127) 1025 = some .range ∧ up.writeRefusal (.band 7 .startMinute) 1439 = none ∧
    up.writeRefusal (.curve 15 .threshold) 4095 = none ∧ up.writeRefusal (.operating 32) 0 = none ∧
    up.writeRefusal (.operating 35) 36000 = none ∧ up.writeRefusal (.status 0) 0 = some .readOnly ∧
    up.writeRefusal (.layout 0) 16 = some .locked ∧ State.reset.writeRefusal (.layout 0) 64 = none ∧
    State.reset.writeRefusal (.layout 0) 48 = some .range ∧ up.writeRefusal .call 256 = some .range ∧
    (call up .setClock 0 0 0).writeRefusal .call 1 = some .busy ∧ up.writeRefusal .call 11 = none := by
  decide +kernel

theorem test_write_rows :
    rowWrite (.channelEnableWrite .b 1) = some (.operating 8, 1) ∧
    rowWrite (.channelSettingWrite .a .gate 10) = some (.operating 3, 10) ∧
    rowWrite (.limitWrite .fault 255) = some (.operating 15, 255) ∧
    rowWrite (.write 0x0803#16 4) = some (.call, 4) ∧ rowWrite (.write 0x0600#16 4) = none ∧
    knownServiceCode 11 = true ∧ knownServiceCode 12 = false ∧ knownServiceCode 0 = false := by decide +kernel

/-- R155: a face that a written limit blanks, and one that it releases. -/
theorem test_face_limit_cases :
    let s := up.onFaults fun f => { f with faultedCount := 7 }
    (s.storeFaceLimit 7).blanked = true ∧ (s.storeFaceLimit 8).blanked = false ∧
    ((s.storeFaceLimit 7).storeFaceLimit 0).blanked = false := by decide +kernel

/-- R173: a sound frame of each command, and one that fails each check. -/
theorem test_frame_cases :
    let f := requestFrame 3 0x0902#16 0
    crc8 (f.extractLsb' 8 40) = f.extractLsb' 0 8 ∧ f.extractLsb' 40 8 = 3#8 ∧
    crc8 ((f + 1).extractLsb' 8 40) ≠ (f + 1).extractLsb' 0 8 ∧
    (requestFrame 4 0 0).extractLsb' 40 8 = 4#8 ∧
    Quiet (up.onWires fun w => { w with frame := some { bits := 48, request := f, place := 48 } }) ∧
    Quiet up ∧ up.wires.frame = none := by decide +kernel

/-- R172, R174: the edges of a whole NOP frame fill the request and shift out the response held. -/
theorem test_whole_frame :
    let f := requestFrame 0 0x1234#16 0
    let t := up.linkEdges (frameEdges f)
    t.wires.frame = some { bits := 48, request := f, place := 48 } ∧ t.wires.svdo = none ∧
    t.wires.shifted = up.link.response.bits ∧
    (t.linkEdge .selectRise).link = (up.frameNop 0x1234#16).link ∧
    (t.linkEdge .selectRise).wires.frame = none := by decide +kernel

/-- R172, R173: a frame cut at 47 bits fails FRAMING, and one of 49 too. -/
theorem test_short_and_long_frame :
    let f := requestFrame 0 0 0
    let cut := up.linkEdges ((frameEdges f).take 94 ++ [.selectRise])
    let long := up.linkEdges (frameEdges f ++ [.clockRise true, .selectRise])
    cut.link.response.outcome = .framing ∧ long.link.response.outcome = .framing ∧
    cut.faults = up.faults := by decide +kernel

theorem test_service_cases :
    Called .closeSetup (call State.reset .closeSetup 0 0 0) ∧ State.reset.settings.layout.check.1 = .passed ∧
    Called .closeSetup (call up .closeSetup 0 0 0) ∧ Called .restart (call up .restart 0 0 0) ∧
    Called .setClock (call up .setClock 1439 59 6) ∧ (call up .setClock 1440 59 6).p1 = 1440 ∧
    Called .openNoticeGate (call up .openNoticeGate 3600 0 0) ∧
    Called .closeNoticeGate (call up .closeNoticeGate 0 0 0) ∧
    Called .captureSnapshot (call up .captureSnapshot 0 0 0) ∧
    Called .wipeBuffer (call up .wipeBuffer 7 0 0) ∧ up.bufferState 7 = .free ∧
    (buffer up 7 .staged).bufferState 7 = .staged ∧ Called .tileTest (call up .tileTest 31 15 0) ∧
    (call up .tileTest 31 15 0).tileCount = 32 ∧ Called .clearTile (call up .clearTile 31 0 0) ∧
    Called .blankFace (call up .blankFace 0 0 0) ∧
    Called .unblankFace (call (up.addReason .supervisor) .unblankFace 0 0 0) ∧
    (up.addReason .supervisor).faults.reasons = { supervisor := true, faultLimit := false } := by
  decide +kernel

end Sys2Proof.Tests.Slice0
end

section
/-! SUPPORT. The Light unit (05): what its updates leave, what C and Fg are read from, and the two operations
that recompute them, a window's end and a curve write. -/

namespace Sys2Proof.Machine

/-! ## One channel -/

@[simp] theorem LightUnit.channel_setChannel_self (l : LightUnit) (ch : Channel) (r : ChannelRecord) :
    (l.setChannel ch r).channel ch = r := by cases ch <;> rfl

theorem LightUnit.channel_setChannel_of_ne (l : LightUnit) {ch other : Channel} (r : ChannelRecord)
    (h : other ≠ ch) : (l.setChannel ch r).channel other = l.channel other := by
  cases ch <;> cases other
  case a.a | b.b => exact absurd rfl h
  case a.b | b.a => rfl

@[simp] theorem LightUnit.setChannel_clock (l : LightUnit) (ch : Channel) (r : ChannelRecord) :
    (l.setChannel ch r).clock = l.clock := by cases ch <;> rfl

@[simp] theorem LightUnit.setChannel_tick (l : LightUnit) (ch : Channel) (r : ChannelRecord) :
    (l.setChannel ch r).tick = l.tick := by cases ch <;> rfl

/-- A record's clock and sequence do not depend on the channels. -/
@[simp] theorem State.faultRecord_setChannel (s : State) (ch : Channel) (r : ChannelRecord) (k : FaultKind)
    (tile : Option TileNo) (detail : Half) :
    (s.setChannel ch r).faultRecord k tile detail = s.faultRecord k tile detail := by cases ch <;> rfl

/-! ## The combined level (R98) -/

theorem ChannelRecord.goodLevel_eq (r : ChannelRecord) :
    r.goodLevel = if r.state = .good then r.level else none := by simp [goodLevel]

/-- The larger of two levels, or the one there is. -/
theorem State.combinedLevel_eq_merge (s : State) :
    s.combinedLevel = Option.merge max (s.channel .a).goodLevel (s.channel .b).goodLevel := by
  unfold State.combinedLevel State.channel LightUnit.channel
  cases s.light.channelA.goodLevel <;> cases s.light.channelB.goodLevel <;> rfl

/-! ## C and Fg -/

/-- R106: the pair the Light unit holds is the one its inputs give now. -/
structure State.LightCurrent (s : State) : Prop where
  ceiling : s.light.ceiling = s.bandCeiling
  gain : s.light.gain = s.gainUnder s.bandCeiling

theorem State.gainUnder_of_level {s : State} {l : Nat} (h : s.combinedLevel = some l) (c : Nat) :
    s.gainUnder c = min (curveGain s.settings.curve l) c := by
  simp [gainUnder, h]

theorem State.gainUnder_of_absent {s : State} (h : s.combinedLevel = none) (c : Nat) :
    s.gainUnder c = min s.bandFallback c := by
  simp [gainUnder, h]

section
variable {s t : State} (hset : t.settings = s.settings) (hclock : t.light.clock = s.light.clock)
include hset hclock

theorem State.bandInForce_congr : t.bandInForce = s.bandInForce := by
  unfold State.bandInForce
  rw [hset, hclock]

theorem State.bandCeiling_congr : t.bandCeiling = s.bandCeiling := by
  unfold State.bandCeiling
  rw [bandInForce_congr hset hclock, hset]

theorem State.bandFallback_congr : t.bandFallback = s.bandFallback := by
  unfold State.bandFallback
  rw [bandInForce_congr hset hclock, hset]

theorem State.gainUnder_congr (ha : t.light.channelA = s.light.channelA)
    (hb : t.light.channelB = s.light.channelB) (c : Nat) : t.gainUnder c = s.gainUnder c := by
  have hlevel : t.combinedLevel = s.combinedLevel := by
    unfold State.combinedLevel
    rw [ha, hb]
  unfold State.gainUnder
  rw [hlevel, hset, bandFallback_congr hset hclock]

end

/-- The pair is read from the light block and the settings alone. -/
theorem State.LightCurrent.congr {s t : State} (h : s.LightCurrent) (hset : t.settings = s.settings)
    (hlight : t.light = s.light) : t.LightCurrent := by
  have hclock : t.light.clock = s.light.clock := by rw [hlight]
  have hfg := gainUnder_congr hset hclock (by rw [hlight]) (by rw [hlight])
  constructor
  · rw [hlight, bandCeiling_congr hset hclock, h.ceiling]
  · rw [hlight, bandCeiling_congr hset hclock, hfg, h.gain]

/-- R106: of the light block a recomputation sets C and Fg, whether or not the pair has changed. -/
theorem State.recomputeLight_light (s : State) : s.recomputeLight.light =
    { s.light with ceiling := s.bandCeiling, gain := s.gainUnder s.bandCeiling } := by
  unfold State.recomputeLight
  dsimp only
  split
  next same =>
    obtain ⟨hc, hfg⟩ : s.bandCeiling = s.light.ceiling ∧ s.gainUnder s.bandCeiling = s.light.gain := by
      simpa using same
    rw [hfg, hc]
  next => rfl

@[simp] theorem State.recomputeLight_settings (s : State) : s.recomputeLight.settings = s.settings :=
  (recomputeLight_unchanged (xs := [.light, .tiles]) (by decide) (Unchanged.refl _ s)).agree .settings (by decide)

@[simp] theorem State.recomputeLight_faults (s : State) : s.recomputeLight.faults = s.faults :=
  (recomputeLight_unchanged (xs := [.light, .tiles]) (by decide) (Unchanged.refl _ s)).agree .faults (by decide)

@[simp] theorem State.recomputeLight_channel (s : State) (ch : Channel) :
    s.recomputeLight.channel ch = s.channel ch := by
  unfold State.channel
  rw [recomputeLight_light]
  cases ch <;> rfl

@[simp] theorem State.recomputeLight_clock (s : State) : s.recomputeLight.light.clock = s.light.clock := by
  rw [recomputeLight_light]

@[simp] theorem State.recomputeLight_tick (s : State) : s.recomputeLight.light.tick = s.light.tick := by
  rw [recomputeLight_light]

theorem State.recomputeLight_current (s : State) : s.recomputeLight.LightCurrent := by
  have hset := s.recomputeLight_settings
  have hclock := s.recomputeLight_clock
  have hfg := gainUnder_congr hset hclock (s.recomputeLight_channel .a) (s.recomputeLight_channel .b)
  constructor
  · rw [bandCeiling_congr hset hclock, recomputeLight_light]
  · rw [bandCeiling_congr hset hclock, hfg, recomputeLight_light]

/-! ## The curve (R105) -/

/-- The points before `p` lie below the level and `p` reaches it. -/
theorem curveGain_of_first (curve : Table CurvePoint 16) (level : Nat) (p : PointNo)
    (hp : level ≤ (curve.get p).threshold) (below : ∀ q : PointNo, q < p → (curve.get q).threshold < level) :
    curveGain curve level = (curve.get p).gain := by
  have hfind : curve.cells.find? (fun q => decide (level ≤ q.threshold)) = some (curve.get p) := by
    refine List.find?_eq_some_iff_getElem.mpr ⟨decide_eq_true hp, p.val, by rw [curve.size]; exact p.isLt, rfl, ?_⟩
    intro j hj
    have hlow := below ⟨j, hj.trans p.isLt⟩ hj
    simpa [Table.get] using hlow
  unfold curveGain
  rw [hfind]

/-- No point reaches the level. -/
theorem curveGain_of_none (curve : Table CurvePoint 16) (level : Nat)
    (below : ∀ p : PointNo, (curve.get p).threshold < level) : curveGain curve level = (curve.get 15).gain := by
  have hfind : curve.cells.find? (fun q => decide (level ≤ q.threshold)) = none := by
    refine List.find?_eq_none.mpr fun q hq => ?_
    obtain ⟨i, hi, rfl⟩ := List.mem_iff_getElem.mp hq
    have hlow := below ⟨i, by rw [← curve.size]; exact hi⟩
    simpa [Table.get] using hlow
  unfold curveGain
  rw [hfind]

/-! ## Commands on a settled state, and the write of a curve point -/

theorem State.settleWithin_of_nil {s : State} (h : s.due = []) (n : Nat) : s.settleWithin n = s := by
  cases n with
  | zero => rfl
  | succ n => simp [settleWithin, h]

/-- A command on a device out of reset with nothing due is its effect alone. -/
theorem State.act_of_settled {s : State} (hrst : s.lines.rstn = false) (hdue : s.due = [])
    (f : State → State) : s.act f = f s := by
  simp [act, settle, hrst, settleWithin_of_nil hdue]

@[simp] theorem itemOf_curve_number (p : PointNo) (f : CurveField) :
    itemOf (Item.curve p f).number = some (.curve p f) := by
  cases f <;> revert p <;> decide

theorem State.writeRefusal_curve_of_inRange (s : State) (p : PointNo) (f : CurveField) (v : Half)
    (h : itemInRange (.curve p f) v.toNat = true) : s.writeRefusal (.curve p f) v = none := by
  simp [writeRefusal, itemReadOnly, itemIsLayout, h]

/-- A curve write that passes its range is stored and answered. -/
theorem State.itemWrite_curve_of_inRange (s : State) (p : PointNo) (f : CurveField) (v : Half)
    (h : itemInRange (.curve p f) v.toNat = true) :
    s.itemWrite (.curve p f) v =
      (s.writeCurve p f v).respond .ok (Item.curve p f).number (s.itemValue (.curve p f)) := by
  simp [itemWrite, frameWrite, writeItem, s.writeRefusal_curve_of_inRange p f v h, storeItem]

@[simp] theorem State.respond_settings (s : State) (o : LinkOutcome) (item data : Half) :
    (s.respond o item data).settings = s.settings := rfl

@[simp] theorem State.respond_light (s : State) (o : LinkOutcome) (item data : Half) :
    (s.respond o item data).light = s.light := rfl

theorem State.writeCurve_curve (s : State) (p : PointNo) (f : CurveField) (v : Half) :
    (s.writeCurve p f v).settings.curve = s.settings.curve.modify p fun q => q.store f v := by
  simp [writeCurve, Settings.storeCurve]

/-! ## The capture at a window's end (R91, R93) -/

section
variable (r : ChannelRecord) (gate : Nat)

theorem ChannelRecord.capture_darkRun : (r.capture gate).darkRun =
    if r.pulses / r.window = 0 then min 255 (r.darkRun + 1) else 0 := by
  by_cases dark : r.pulses / r.window = 0
  · simp [capture, begin, windowClass, saturate, dark]
  · by_cases inRange : r.pulses / r.window ≤ 4095 <;> simp [capture, begin, windowClass, dark, inRange]

theorem ChannelRecord.capture_clipRun : (r.capture gate).clipRun =
    if 4095 < r.pulses / r.window then min 255 (r.clipRun + 1) else 0 := by
  by_cases clipped : 4095 < r.pulses / r.window
  · have lit : r.pulses / r.window ≠ 0 := by omega
    simp [capture, begin, windowClass, saturate, clipped, lit]
  · by_cases dark : r.pulses / r.window = 0 <;>
      simp [capture, begin, windowClass, clipped, dark, Nat.le_of_not_lt clipped]

/-- R91, R93: every field of the captured record. -/
theorem ChannelRecord.capture_eq : r.capture gate =
    { r with
      window := gate, left := gate, pulses := 0, raw := some (min 4095 (r.pulses / r.window))
      last := some (windowClass (r.pulses / r.window))
      darkRun := if r.pulses / r.window = 0 then min 255 (r.darkRun + 1) else 0
      clipRun := if 4095 < r.pulses / r.window then min 255 (r.clipRun + 1) else 0 } := by
  rw [← capture_darkRun r gate, ← capture_clipRun r gate]
  rfl

theorem ChannelRecord.capture_last : (r.capture gate).last = some (windowClass (r.pulses / r.window)) := rfl

end

theorem windowClass_eq_inRange_iff (q : Nat) : windowClass q = .inRange ↔ 1 ≤ q ∧ q ≤ 4095 := by
  unfold windowClass
  split
  next dark => simp [dark]
  next lit =>
    split
    next inRange => simp [inRange, Nat.one_le_iff_ne_zero.mpr lit]
    next clipped => simp [clipped]

/-! ## What a channel makes of the captured window (R93 to R97) -/

section
variable {w : ChannelRecord} {c : ChannelSettings}

theorem ChannelRecord.reachesDead_iff (on : w.state ≠ .off) :
    w.reachesDead c = true ↔ c.dead ≤ w.darkRun ∧ w.state ≠ .dead := by
  simp [reachesDead, on]

theorem ChannelRecord.reachesSaturated_iff (on : w.state ≠ .off) :
    w.reachesSaturated c = true ↔ c.saturation ≤ w.clipRun ∧ w.state ≠ .saturated := by
  simp [reachesSaturated, on]

theorem ChannelRecord.act_of_reachesDead (dies : w.reachesDead c = true) :
    w.act c = (w.moveTo .dead none, some .sensorDead) := by
  simp [act, dies]

variable (lives : ¬ w.reachesDead c = true)
include lives

theorem ChannelRecord.act_of_reachesSaturated (floods : w.reachesSaturated c = true) :
    w.act c = (w.moveTo .saturated none, some .sensorSaturated) := by
  simp [act, lives, floods]

variable (drains : ¬ w.reachesSaturated c = true)
include drains

theorem ChannelRecord.act_of_starting (hstate : w.state = .starting) (hlast : w.last = some .inRange) :
    w.act c = (w.moveTo .good w.raw, none) := by
  simp [act, lives, drains, hstate, hlast]

theorem ChannelRecord.act_of_recovering (hstate : w.state = .dead ∨ w.state = .saturated)
    (hlast : w.last = some .inRange) : w.act c = (w.moveTo .good w.raw, some .sensorRecovered) := by
  rcases hstate with hstate | hstate <;> simp [act, lives, drains, hstate, hlast]

/-- A channel that is not GOOD waits for a window IN_RANGE. -/
theorem ChannelRecord.act_of_waiting (hstate : w.state ≠ .good) (hlast : w.last ≠ some .inRange) :
    w.act c = (w, none) := by
  cases h : w.state
  case good => exact absurd h hstate
  all_goals simp [act, lives, drains, h, hlast]

theorem ChannelRecord.act_of_good {f : Nat} (hstate : w.state = .good) (hlevel : w.level = some f) :
    w.act c = (w.follow c f (w.raw.getD 0), none) := by
  simp [act, lives, drains, hstate, hlevel]

end

section
variable {w : ChannelRecord} {c : ChannelSettings} {f raw : Nat}

/-- R94: within the jump distance the filter acts and the jump run ends. -/
theorem ChannelRecord.follow_near (near : levelDistance f raw ≤ c.jump) :
    w.follow c f raw = { w with level := some (filterLevel f raw c.shift), jumpRun := 0 } := by
  simp [follow, Nat.not_lt.mpr near]

/-- R95: a window beyond the jump distance that is not yet the third is filtered and counted. -/
theorem ChannelRecord.follow_counting (far : c.jump < levelDistance f raw) (early : w.jumpRun < 2) :
    w.follow c f raw =
      { w with level := some (filterLevel f raw c.shift), jumpRun := w.jumpRun + 1 } := by
  simp [follow, far, Nat.not_le.mpr early]

/-- R95: the third takes raw as it is. -/
theorem ChannelRecord.follow_jumping (far : c.jump < levelDistance f raw) (third : 2 ≤ w.jumpRun) :
    w.follow c f raw = { w with level := some raw, jumpRun := 0 } := by
  simp [follow, far, third]

end

/-! ## A window's end -/

/-- C and Fg are recomputed on a state that holds the channel's new record and the fault record raised. -/
theorem State.endWindow_eq (s : State) (ch : Channel) : ∃ told : State,
    s.endWindow ch = told.recomputeLight ∧ told.light = s.light.setChannel ch (s.windowResult ch).1 ∧
      told.faults = (s.windowResult ch).2.elim s.faults fun k =>
        s.faults.join (s.faultRecord k none (channelDetail ch)) := by
  unfold State.endWindow
  dsimp only
  split
  next k hk => exact ⟨_, rfl, rfl, by rw [hk, State.offer, State.faultRecord_setChannel]; rfl⟩
  next hk => exact ⟨_, rfl, rfl, by rw [hk]; rfl⟩

/-- The row of a window's end that is due takes it. -/
theorem State.takeIfDue_gateWindowEnd {s : State} {ch : Channel} (hrst : s.lines.rstn = false)
    (hdue : .gateWindowEnd ch ∈ s.due) (on : (s.channel ch).state ≠ .off) (hleft : (s.channel ch).left = 1) :
    s.takeIfDue (.gateWindowEnd ch) = (s.dropDue (.gateWindowEnd ch)).endWindow ch := by
  have ends : (s.dropDue (.gateWindowEnd ch)).windowEnds ch = true := by
    change s.windowEnds ch = true
    simp [windowEnds, on, hleft]
  simp [takeIfDue, hrst, hdue, takeDue, takeWindowEnd, ends]

end Sys2Proof.Machine
end

section
/-! The statements on the ambient light and the brightness schedule (05). -/

namespace Sys2Proof.Safety

open Sys2Proof.Machine

/-! ## The curve -/

/-- R105, R106: the row of a curve write stores its value and recomputes C and Fg. -/
theorem curvePointWrite_runs {s : State} (quiet : Quiet s) (p : PointNo) (field : CurveField) (d : Half)
    (inRange : itemInRange (.curve p field) d.toNat = true) :
    Runs (.curvePointWrite p field d) s fun t =>
      t.settings.curve = s.settings.curve.modify p (fun q => q.store field d) ∧ t.LightCurrent := by
  obtain ⟨hrst, hdue⟩ := quiet
  have hexec : exec (.curvePointWrite p field d) s =
      .next (s.act fun t => t.clockFrame.itemWrite (.curve p field) d) := rfl
  rw [State.act_of_settled hrst hdue, State.itemWrite_curve_of_inRange _ p field d inRange] at hexec
  refine ⟨_, hexec, ?_, ?_⟩
  · rw [State.respond_settings, State.writeCurve_curve]
    rfl
  · exact (State.recomputeLight_current _).congr (State.respond_settings ..) (State.respond_light ..)

/-- Settles O44: the search of the curve, the merge of the two GOOD levels, the write's row, and the figures
of the example curve by evaluation. -/
theorem curveTakesFirstPoint : Obligations.CurveTakesFirstPoint := by
  refine ⟨fun curve level => ⟨curveGain_of_first curve level, curveGain_of_none curve level⟩, ?_, ?_, ?_⟩
  · intro s f
    have hlevel {a b : Option Nat} (ha : f .a = a) (hb : f .b = b) :
        s.combinedLevel = Option.merge max a b := by
      rw [State.combinedLevel_eq_merge, ChannelRecord.goodLevel_eq, ChannelRecord.goodLevel_eq, ← ha, ← hb]
    exact ⟨fun _ _ => hlevel, fun _ => hlevel, fun _ => hlevel, hlevel,
      fun c => ⟨fun _ h => State.gainUnder_of_level h c, fun h => State.gainUnder_of_absent h c⟩⟩
  · intro p field d s quiet high
    have inRange : itemInRange (.curve p field) d.toNat = true := by
      cases field <;> exact decide_eq_true high
    obtain ⟨t, hexec, hcurve, current⟩ := curvePointWrite_runs quiet p field d inRange
    refine ⟨t, hexec, ?_, ?_, current.ceiling, current.gain⟩
    · rw [hcurve, Table.get_modify_self]
      cases field <;> rfl
    · intro q hq
      rw [hcurve, Table.get_modify_of_ne _ _ hq]
  · decide

/-! ## A window's end -/

/-- R91, R97, R106: a window's end leaves the channel with the record that the captured window makes of it. -/
theorem gateWindowEnd_runs {ch : Channel} {s : State} (due : Due (.gateWindowEnd ch) s)
    (on : (s.channel ch).state ≠ .off) (hleft : (s.channel ch).left = 1)
    {result : ChannelRecord} {record : Option FaultKind} (hresult : s.windowResult ch = (result, record)) :
    Runs (.gateWindowEnd ch) s fun t =>
      t.channel ch = result ∧ Unchanged [.due, .light, .tiles, .faults] s t ∧
      t.light.clock = s.light.clock ∧ t.light.tick = s.light.tick ∧
      (∀ other, other ≠ ch → t.channel other = s.channel other) ∧
      t.light.ceiling = t.bandCeiling ∧ t.light.gain = t.gainUnder t.bandCeiling ∧
      (record = none → t.faults = s.faults) ∧
      ∀ k, record = some k → Offered s t k none (channelDetail ch) := by
  obtain ⟨hrst, hdue⟩ := due
  have hexec : exec (.gateWindowEnd ch) s = .next (s.takeIfDue (.gateWindowEnd ch)) := rfl
  have frame : Unchanged [.due, .light, .tiles, .faults] s (s.takeIfDue (.gateWindowEnd ch)) := by
    rw [State.takeIfDue_gateWindowEnd hrst hdue on hleft]
    exact State.endWindow_unchanged ch (by decide) (State.dropDue_unchanged _ (by decide) (Unchanged.refl _ s))
  obtain ⟨told, hends, hlight, hfaults⟩ := (s.dropDue (.gateWindowEnd ch)).endWindow_eq ch
  have hresult' : (s.dropDue (.gateWindowEnd ch)).windowResult ch = (result, record) := hresult
  rw [hresult'] at hlight hfaults
  rw [State.takeIfDue_gateWindowEnd hrst hdue on hleft, hends] at hexec frame
  have current := told.recomputeLight_current
  have hchannel (x : Channel) : told.recomputeLight.channel x = (s.light.setChannel ch result).channel x := by
    rw [State.recomputeLight_channel, State.channel, hlight]
    rfl
  refine ⟨_, hexec, ?_, frame, ?_, ?_, ?_, current.ceiling, current.gain, ?_, ?_⟩
  · rw [hchannel, LightUnit.channel_setChannel_self]
  · rw [State.recomputeLight_clock, hlight, LightUnit.setChannel_clock]
    rfl
  · rw [State.recomputeLight_tick, hlight, LightUnit.setChannel_tick]
    rfl
  · intro other hother
    rw [hchannel, LightUnit.channel_setChannel_of_ne _ _ hother]
    rfl
  · rintro rfl
    rw [State.recomputeLight_faults, hfaults]
    rfl
  · rintro k rfl
    rw [Offered, State.recomputeLight_faults, hfaults]
    rfl

/-- Settles O45: each clause is one way the captured record can be judged. -/
theorem gateWindowEnds : Obligations.GateWindowEnds := by
  intro ch s due on hleft r c q raw dark clip after ends dies floods inRange
  let w := r.capture c.gate
  have hon : w.state ≠ .off := on
  have hdies : w.reachesDead c = true ↔ dies := by
    rw [ChannelRecord.reachesDead_iff hon, ChannelRecord.capture_darkRun]
    rfl
  have hfloods : w.reachesSaturated c = true ↔ floods := by
    rw [ChannelRecord.reachesSaturated_iff hon, ChannelRecord.capture_clipRun]
    rfl
  have hlast : w.last = some .inRange ↔ inRange := by
    rw [ChannelRecord.capture_last, Option.some_inj, windowClass_eq_inRange_iff]
  have hafter (st : ChannelState) (level : Option Nat) (jump : Nat) :
      after st level jump = { w with state := st, level := level, jumpRun := jump } := by
    simp only [w, ChannelRecord.capture_eq]
    rfl
  have hends {st : ChannelState} {level : Option Nat} {jump : Nat} {record : Option FaultKind}
      (h : w.act c = ({ w with state := st, level := level, jumpRun := jump }, record)) :
      ends (after st level jump) record := by
    rw [hafter]
    exact gateWindowEnd_runs due on hleft h
  refine ⟨fun hd => ?_, fun hd hf => ?_, fun hd hf starting hin => ?_, fun hd hf lost hin => ?_,
    fun hd hf waits hout => ?_, fun f hd hf good hlevel => ?_⟩
  · exact hends (ChannelRecord.act_of_reachesDead (hdies.mpr hd))
  · exact hends (ChannelRecord.act_of_reachesSaturated (hdies.not.mpr hd) (hfloods.mpr hf))
  · exact hends (ChannelRecord.act_of_starting (hdies.not.mpr hd) (hfloods.not.mpr hf) starting (hlast.mpr hin))
  · exact hends (ChannelRecord.act_of_recovering (hdies.not.mpr hd) (hfloods.not.mpr hf) lost (hlast.mpr hin))
  · exact hends (ChannelRecord.act_of_waiting (hdies.not.mpr hd) (hfloods.not.mpr hf) waits (hlast.not.mpr hout))
  · have hstate : w.state = .good := good
    have hact : w.act c = (w.follow c f raw, none) :=
      ChannelRecord.act_of_good (hdies.not.mpr hd) (hfloods.not.mpr hf) hstate hlevel
    have hfollows {level : Option Nat} {jump : Nat}
        (h : w.follow c f raw = { w with level := level, jumpRun := jump }) :
        ends (after .good level jump) none :=
      hends (by rw [hact, h, ← hstate])
    exact ⟨fun near => hfollows (ChannelRecord.follow_near near),
      fun far early => hfollows (ChannelRecord.follow_counting far early),
      fun far third => hfollows (ChannelRecord.follow_jumping far third)⟩

end Sys2Proof.Safety
end

section
/-! SUPPORT. The Tile Table (06): what its updates leave of one tile's record, what T and B are composed from, and
the records whose gains are composed. -/

namespace Sys2Proof.Machine

/-! ## One tile's record after an update -/

@[simp] theorem State.onTile_tile_self (s : State) (i : TileNo) (f : TileRecord → TileRecord) :
    (s.onTile i f).tile i = f (s.tile i) := Table.get_modify_self ..

theorem State.onTile_tile_of_ne (s : State) {i j : TileNo} (f : TileRecord → TileRecord) (h : j ≠ i) :
    (s.onTile i f).tile j = s.tile j := Table.get_modify_of_ne _ _ h

@[simp] theorem State.retargetAll_tile (s : State) (i : TileNo) :
    s.retargetAll.tile i = s.gainContext.retarget i (s.tile i) := Table.get_mapIdx ..

@[simp] theorem State.rampAll_tile (s : State) (i : TileNo) :
    s.rampAll.tile i = rampStep s.settings.rampUp s.settings.rampDown (s.tile i) := Table.get_map ..

/-! ## What T and B are composed from -/

@[simp] theorem FaultUnit.join_reasons (f : FaultUnit) (r : FaultRecord) : (f.join r).reasons = f.reasons := by
  unfold FaultUnit.join
  split <;> rfl

theorem FaultUnit.take_reasons (f : FaultUnit) : f.take.2.reasons = f.reasons := by
  unfold FaultUnit.take
  split <;> rfl

@[simp] theorem State.offer_gainContext (s : State) (k : FaultKind) (tile : Option TileNo) (detail : Half) :
    (s.offer k tile detail).gainContext = s.gainContext := by
  simp [State.gainContext, State.running, State.tileCount, State.blanked, State.offer]

theorem BlankReasons.any_put_true (r : BlankReasons) (x : BlankReason) : (r.put x true).any = true := by
  cases x <;> simp [BlankReasons.put, BlankReasons.any]

theorem BlankReasons.any_of_has {r : BlankReasons} {x : BlankReason} (h : r.has x = true) : r.any = true := by
  cases x <;> simp_all [BlankReasons.has, BlankReasons.any]

/-- R106: Fg never exceeds the C it is computed under. -/
theorem State.gainUnder_le (s : State) (c : Nat) : s.gainUnder c ≤ c := by
  unfold State.gainUnder
  split <;> exact Nat.min_le_right _ _

theorem Layout.store_tileCount (l : Layout) {i : Fin 15} (v : Half) (h : ¬ i.val < 4) :
    (l.store i v).tileCount = l.tileCount := by
  unfold Layout.store
  split
  case h_1 | h_2 | h_3 | h_4 => omega
  all_goals rfl

theorem Settings.storeOperating_tileBlank (g : Settings) {i : Fin 36} (v : Nat) (h : i ≠ 22) :
    (g.storeOperating i v).tileBlank = g.tileBlank := by
  unfold Settings.tileBlank Settings.storeOperating
  rw [Table.get_set_of_ne _ _ h.symm]

/-! ## The five cases of a target (R116) -/

/-- Only FAULTED tells a tile's state from another. -/
theorem GainContext.targetCase_of_ne_faulted (g : GainContext) (i : TileNo) {st st' : TileState}
    (h : st ≠ .faulted) (h' : st' ≠ .faulted) : g.targetCase i st = g.targetCase i st' := by
  simp [GainContext.targetCase, h, h']

theorem GainContext.target_of_isDark {g : GainContext} {i : TileNo} {r : TileRecord}
    (h : (g.targetCase i r.state).isDark = true) : g.target i r = 0 := by
  unfold GainContext.target
  split
  next base => rw [base] at h; cases h
  all_goals rfl

/-- T stays within B where Fg stays within C: the trim is the same, and derating only halves. -/
theorem GainContext.target_le_bound {g : GainContext} (pair : g.gain ≤ g.ceiling) (i : TileNo) (r : TileRecord) :
    g.target i r ≤ g.bound r := by
  have hfull : g.gain * r.trim / 1024 ≤ g.ceiling * r.trim / 1024 :=
    Nat.div_le_div_right (Nat.mul_le_mul_right _ pair)
  have hbase : g.base r ≤ g.bound r := by
    unfold GainContext.base GainContext.bound
    split <;> omega
  unfold GainContext.target
  split
  next => exact hbase
  all_goals exact Nat.zero_le _

end Sys2Proof.Machine
end

section
/-! SUPPORT. The composition of the gains (06 R113 to R120) under each operation of the model. Every lemma
`GainsComposed.op` says that the operation `op` keeps it. -/

namespace Sys2Proof.Safety

open Sys2Proof.Machine

/-! ## One record -/

section
variable {g : GainContext} {i : TileNo} {r : TileRecord}

/-- The cuts leave A within B, and at 0 in the dark. -/
theorem TileComposed.cut (htarget : r.target = g.target i r) (hbound : r.bound = g.bound r) :
    TileComposed g i (g.cut i r) := by
  unfold GainContext.cut
  split
  next dark => exact ⟨htarget, hbound, Nat.zero_le _, fun _ => rfl⟩
  next lit => exact ⟨htarget, hbound, Nat.min_le_right _ _, fun dark => absurd dark lit⟩

theorem TileComposed.retarget (hbound : r.bound = g.bound r) : TileComposed g i (g.retarget i r) :=
  TileComposed.cut rfl hbound

theorem TileComposed.rebound : TileComposed g i (g.rebound i r) := TileComposed.cut rfl rfl

/-- LIT and SUSPECT are one case of the target. -/
theorem TileComposed.withState (h : TileComposed g i r) {st : TileState} (now : r.state ≠ .faulted)
    (next : st ≠ .faulted) : TileComposed g i { r with state := st } := by
  have hcase : g.targetCase i st = g.targetCase i r.state := g.targetCase_of_ne_faulted i next now
  have htarget : g.target i { r with state := st } = g.target i r := by
    unfold GainContext.target
    rw [hcase]
    rfl
  unfold TileComposed at h ⊢
  rw [htarget, hcase]
  exact h

/-- R120: the ramp moves A towards a T that lies within B, and is 0 in the dark. -/
theorem TileComposed.rampStep (h : TileComposed g i r) (pair : g.gain ≤ g.ceiling) (up down : Nat) :
    TileComposed g i (rampStep up down r) := by
  obtain ⟨htarget, hbound, happlied, hdark⟩ := h
  have hle : r.target ≤ r.bound := by
    rw [htarget, hbound]
    exact GainContext.target_le_bound pair i r
  have hzero (dark : (g.targetCase i r.state).isDark = true) : r.target = 0 := by
    rw [htarget, GainContext.target_of_isDark dark]
  unfold Machine.rampStep
  split
  next rising =>
    exact ⟨htarget, hbound, (Nat.min_le_left _ _).trans hle, fun dark => by have := hzero dark; omega⟩
  next falling =>
    refine ⟨htarget, hbound, Nat.max_le.mpr ⟨hle, (Nat.sub_le _ _).trans happlied⟩, fun dark => ?_⟩
    have ht := hzero dark
    have ha := hdark dark
    simp [ht, ha]

/-- The close of a refresh and its restart touch the scan record alone. -/
theorem TileComposed.refresh (h : TileComposed g i r) (opened : Option Byte) (n words : Nat) :
    TileComposed g i (r.refresh opened n words i) := by
  cases opened <;> exact h

/-- R125: what RESTART makes of a record is composed for SETUP. -/
theorem TileComposed.restarted (setup : g.running = false) (hbound : r.bound = g.bound r) :
    TileComposed g i r.restarted := by
  have hcase (st : TileState) : g.targetCase i st = .setup := by simp [GainContext.targetCase, setup]
  refine ⟨?_, hbound, Nat.zero_le _, fun _ => rfl⟩
  unfold GainContext.target
  rw [hcase]
  rfl

end

/-! ## The whole table -/

section
variable {s t : State}

theorem GainsComposed.pair (h : GainsComposed s) : s.tiles.gain ≤ s.tiles.ceiling := h.1

theorem GainsComposed.composed (h : GainsComposed s) (i : TileNo) : TileComposed s.gainContext i (s.tile i) := h.2 i

theorem GainsComposed.bound (h : GainsComposed s) (i : TileNo) :
    (s.tile i).bound = s.gainContext.bound (s.tile i) := by
  obtain ⟨_, hbound, _⟩ := h.composed i
  exact hbound

/-- The gains are read from the Tile Table and the context alone. -/
theorem GainsComposed.congr (h : GainsComposed s) (htiles : t.tiles = s.tiles)
    (hcontext : t.gainContext = s.gainContext) : GainsComposed t := by
  unfold GainsComposed State.tile at h ⊢
  rw [htiles, hcontext]
  exact h

/-- The blocks that the gains do not read. -/
def gainless : List Block := [.pending, .due, .lines, .bus, .table, .cues, .face, .light, .scan, .test, .wires, .link]

theorem GainsComposed.of_unchanged (h : GainsComposed s) (frame : Unchanged gainless s t) : GainsComposed t := by
  have htiles : t.tiles = s.tiles := frame.agree .tiles (by decide)
  have hfaults : t.faults = s.faults := frame.agree .faults (by decide)
  have hsettings : t.settings = s.settings := frame.agree .settings (by decide)
  have hgovernor : t.governor = s.governor := frame.agree .governor (by decide)
  refine h.congr htiles ?_
  simp [State.gainContext, State.running, State.tileCount, State.blanked, htiles, hfaults, hsettings, hgovernor]

/-- One tile's record is new and composed; what it is composed from stands. -/
theorem GainsComposed.of_tile (h : GainsComposed s) (i : TileNo) (hcontext : t.gainContext = s.gainContext)
    (others : ∀ j, j ≠ i → t.tile j = s.tile j) (here : TileComposed s.gainContext i (t.tile i)) :
    GainsComposed t := by
  have hceiling : t.tiles.ceiling = s.tiles.ceiling := congrArg GainContext.ceiling hcontext
  have hgain : t.tiles.gain = s.tiles.gain := congrArg GainContext.gain hcontext
  refine ⟨by rw [hceiling, hgain]; exact h.pair, fun j => ?_⟩
  rw [hcontext]
  by_cases hj : j = i
  · rw [hj]
    exact here
  · rw [others j hj]
    exact h.composed j

/-- Where `f` leaves alone what a composition reads, `hf` is `id`. -/
theorem GainsComposed.onTile (h : GainsComposed s) (i : TileNo) {f : TileRecord → TileRecord}
    (hf : TileComposed s.gainContext i (s.tile i) → TileComposed s.gainContext i (f (s.tile i))) :
    GainsComposed (s.onTile i f) := by
  refine h.of_tile i rfl (fun j hj => s.onTile_tile_of_ne f hj) ?_
  rw [s.onTile_tile_self]
  exact hf (h.composed i)

/-- R117, R118: what a recomputation of every T finds: Fg within C and every B composed. -/
def BoundsComposed (t : TileTable) : Prop :=
  t.gain ≤ t.ceiling ∧ ∀ i, (t.records.get i).bound = t.ceiling * (t.records.get i).trim / 1024

theorem GainsComposed.bounds (h : GainsComposed s) : BoundsComposed s.tiles :=
  ⟨h.pair, h.bound⟩

/-- R118: recomputing every T composes the gains, whatever has become of the context. -/
theorem BoundsComposed.retargetAll (h : BoundsComposed s.tiles) : GainsComposed s.retargetAll := by
  refine ⟨h.1, fun i => ?_⟩
  rw [State.retargetAll_tile]
  exact TileComposed.retarget (h.2 i)

/-- R107, R118: a pair handed over composes the gains afresh. -/
theorem GainsComposed.handPair (s : State) {c fg : Nat} (pair : fg ≤ c) : GainsComposed (s.handPair c fg) := by
  refine ⟨pair, fun i => ?_⟩
  have htile : (s.handPair c fg).tile i = (s.handPair c fg).gainContext.rebound i (s.tile i) :=
    Table.get_mapIdx ..
  rw [htile]
  exact TileComposed.rebound

/-! ## Operations that the gains do not read -/

theorem GainsComposed.onDue (h : GainsComposed s) (f : List DueEvent → List DueEvent) :
    GainsComposed (s.onDue f) := h
theorem GainsComposed.onLines (h : GainsComposed s) (f : Lines → Lines) : GainsComposed (s.onLines f) := h
theorem GainsComposed.onBus (h : GainsComposed s) (f : BusState → BusState) : GainsComposed (s.onBus f) := h
theorem GainsComposed.onTable (h : GainsComposed s) (f : BufferTable → BufferTable) :
    GainsComposed (s.onTable f) := h
theorem GainsComposed.onFace (h : GainsComposed s) (f : ShowUnit → ShowUnit) : GainsComposed (s.onFace f) := h
theorem GainsComposed.onLight (h : GainsComposed s) (f : LightUnit → LightUnit) : GainsComposed (s.onLight f) := h
theorem GainsComposed.onScan (h : GainsComposed s) (f : ScanUnit → ScanUnit) : GainsComposed (s.onScan f) := h
theorem GainsComposed.onTest (h : GainsComposed s) (f : TestRecord → TestRecord) : GainsComposed (s.onTest f) := h
theorem GainsComposed.onWires (h : GainsComposed s) (f : LinkWires → LinkWires) : GainsComposed (s.onWires f) := h
theorem GainsComposed.onLink (h : GainsComposed s) (f : LinkState → LinkState) : GainsComposed (s.onLink f) := h
theorem GainsComposed.withPending (h : GainsComposed s) (q : List Instr) : GainsComposed (s.withPending q) := h

theorem GainsComposed.setService (h : GainsComposed s) (st : ServiceState) (e : ServiceError) :
    GainsComposed (s.setService st e) := h.onLink _

theorem GainsComposed.arbitrate (h : GainsComposed s) : GainsComposed s.arbitrate :=
  h.of_unchanged (State.arbitrate_unchanged (by decide) (.refl _ _))

theorem GainsComposed.event {f : State → State} (h : GainsComposed (f s)) : GainsComposed (s.event f) :=
  h.of_unchanged (State.after_unchanged _ (by decide) (.refl _ _))

end
end Sys2Proof.Safety
end

section
/-! SUPPORT. The composition of the gains: faults and tile states (08), the Tile test (09), reports and the refresh
start (07), the bus path (01), the Light unit (05) and what is due. -/

namespace Sys2Proof.Safety

open Sys2Proof.Machine

section
variable {s : State}

/-! ## Trim, derate and the ramp (R114, R115, R120) -/

theorem GainsComposed.setTrim (h : GainsComposed s) (i : TileNo) (v : Nat) : GainsComposed (s.setTrim i v) := by
  refine h.of_tile i rfl (fun j hj => ?_) ?_
  · rw [State.setTrim, State.reboundTile, State.onTile_tile_of_ne _ _ hj, State.onTile_tile_of_ne _ _ hj]
  · rw [State.setTrim, State.reboundTile, State.onTile_tile_self]
    exact TileComposed.rebound

theorem GainsComposed.setDerate (h : GainsComposed s) (i : TileNo) (b : Bool) :
    GainsComposed (s.setDerate i b) := by
  unfold State.setDerate
  split
  · exact h
  · refine h.of_tile i rfl (fun j hj => ?_) ?_
    · rw [State.retargetTile, State.onTile_tile_of_ne _ _ hj, State.onTile_tile_of_ne _ _ hj]
    · rw [State.retargetTile, State.onTile_tile_self, State.onTile_tile_self]
      exact TileComposed.retarget (h.bound i)

theorem GainsComposed.rampAll (h : GainsComposed s) : GainsComposed s.rampAll := by
  refine ⟨h.pair, fun i => ?_⟩
  rw [State.rampAll_tile]
  exact (h.composed i).rampStep h.pair _ _

/-! ## Fault records and the blank reasons (R153, R155, R157) -/

theorem GainsComposed.offer (h : GainsComposed s) (k : FaultKind) (tile : Option TileNo) (detail : Half) :
    GainsComposed (s.offer k tile detail) := h.congr rfl (s.offer_gainContext ..)

/-- A change of the fault block that leaves the face blanked or not as it was. -/
theorem GainsComposed.onFaults (h : GainsComposed s) {f : FaultUnit → FaultUnit}
    (hblanked : (f s.faults).reasons.any = s.faults.reasons.any) : GainsComposed (s.onFaults f) := by
  refine h.congr rfl ?_
  simp [State.gainContext, State.running, State.tileCount, State.blanked, hblanked]

theorem GainsComposed.addReason (h : GainsComposed s) (x : BlankReason) : GainsComposed (s.addReason x) := by
  unfold State.addReason
  split
  · exact h
  split
  next blanked =>
    exact h.onFaults ((s.faults.reasons.any_put_true x).trans blanked.symm)
  next => exact BoundsComposed.retargetAll (s := (s.putReason x true).offer ..) h.bounds

theorem GainsComposed.removeReason (h : GainsComposed s) (x : BlankReason) : GainsComposed (s.removeReason x) := by
  unfold State.removeReason
  split
  · exact h
  next present =>
    split
    next blanked =>
      have hpresent : s.faults.reasons.has x = true := by simpa using present
      exact h.onFaults (blanked.trans (BlankReasons.any_of_has hpresent).symm)
    next => exact BoundsComposed.retargetAll (s := (s.putReason x false).offer ..) h.bounds

theorem GainsComposed.faceLimitCheck (h : GainsComposed s) : GainsComposed s.faceLimitCheck := by
  unfold State.faceLimitCheck
  split
  · exact h.addReason _
  · exact h.removeReason _

/-! ## Tile states (R147 to R152) -/

/-- A tile changes state with its record offered, and its T is recomputed. -/
theorem GainsComposed.moveTile (h : GainsComposed s) (i : TileNo) {f : TileRecord → TileRecord} (k : FaultKind)
    (detail : Half) (hbound : (f (s.tile i)).bound = s.gainContext.bound (f (s.tile i))) :
    GainsComposed (((s.onTile i f).offer k (some i) detail).retargetTile i) := by
  have hcontext : ((s.onTile i f).offer k (some i) detail).gainContext = s.gainContext :=
    (s.onTile i f).offer_gainContext ..
  have hrecord (j : TileNo) : ((s.onTile i f).offer k (some i) detail).tile j = (s.onTile i f).tile j := rfl
  rw [State.retargetTile, hcontext]
  refine h.of_tile i hcontext (fun j hj => ?_) ?_
  · rw [State.onTile_tile_of_ne _ _ hj, hrecord, State.onTile_tile_of_ne _ _ hj]
  · rw [State.onTile_tile_self, hrecord, State.onTile_tile_self]
    exact TileComposed.retarget hbound

theorem GainsComposed.enterFaulted (h : GainsComposed s) (i : TileNo) : GainsComposed (s.enterFaulted i) :=
  ((h.moveTile i .tileFaulted _ (h.bound i)).onFaults rfl).faceLimitCheck

theorem GainsComposed.leaveFaulted (h : GainsComposed s) (i : TileNo) (detail : Half) :
    GainsComposed (s.leaveFaulted i detail) :=
  ((h.moveTile i .tileRecovered detail (h.bound i)).onFaults rfl).faceLimitCheck

theorem GainsComposed.evaluateTile (h : GainsComposed s) (i : TileNo) : GainsComposed (s.evaluateTile i) := by
  unfold State.evaluateTile
  dsimp only
  split
  · exact h
  next healthy =>
    have now : (s.tile i).state ≠ .faulted := by simpa using healthy
    split
    · exact h.enterFaulted i
    split
    · split
      · exact (h.onTile i fun hi => hi.withState now (by decide)).offer ..
      · exact h
    · exact h.onTile i fun hi => hi.withState now (by decide)

theorem GainsComposed.evaluateTiles (h : GainsComposed s) : GainsComposed s.evaluateTiles :=
  List.foldlRecOn _ _ h fun _ ht i _ => ht.evaluateTile i

theorem GainsComposed.tileEvent (h : GainsComposed s) (i : TileNo) (e : TileEvent) :
    GainsComposed (s.tileEvent i e) := by
  unfold State.tileEvent
  split
  · exact h
  · exact (h.onTile i id).evaluateTile i

theorem GainsComposed.goodReport (h : GainsComposed s) (i : TileNo) : GainsComposed (s.goodReport i) := by
  unfold State.goodReport
  split
  · exact h
  · exact (h.onTile i id).evaluateTile i

theorem GainsComposed.clearTile (h : GainsComposed s) (i : TileNo) : GainsComposed (s.clearTile i) := by
  unfold State.clearTile
  split
  · exact h.leaveFaulted i 1
  next healthy =>
    exact h.onTile i fun hi => TileComposed.withState hi (by simpa using healthy) (by decide)

theorem GainsComposed.tilePassed (h : GainsComposed s) (i : TileNo) : GainsComposed (s.tilePassed i) := by
  unfold State.tilePassed
  split
  · exact h.leaveFaulted i 2
  · exact h

theorem GainsComposed.tileFailed (h : GainsComposed s) (i : TileNo) : GainsComposed (s.tileFailed i) := by
  have hfull : GainsComposed (s.onTile i fun r => { r with counter := 255 }) := h.onTile i id
  unfold State.tileFailed
  dsimp only
  split
  · exact hfull
  · exact hfull.enterFaulted i

/-! ## The Tile test (R164 to R168) -/

theorem GainsComposed.endTest (h : GainsComposed s) (i : TileNo) (passed : Bool) :
    GainsComposed (s.endTest i passed) := by
  unfold State.endTest
  split
  · exact ((h.tilePassed i).setService ..).onTest _
  · exact ((h.tileFailed i).setService ..).onTest _

theorem GainsComposed.endAttempt (h : GainsComposed s) (r : AttemptResult) : GainsComposed (s.endAttempt r) := by
  have hmarked : GainsComposed (s.onTest fun t => { t with lastResult := some r }) := h.onTest _
  unfold State.endAttempt
  dsimp only
  split
  · exact hmarked
  split
  · exact hmarked.endTest _ true
  split
  · exact hmarked.onTest _
  · exact hmarked.endTest _ false

theorem GainsComposed.testReport (h : GainsComposed s) (seq : Byte) (c : Comparison) (dark : BitVec 12) :
    GainsComposed (s.testReport seq c dark) := by
  unfold State.testReport
  split
  · exact (h.onTest _).endAttempt _
  · exact h

theorem GainsComposed.beginAttempt (h : GainsComposed s) : GainsComposed s.beginAttempt :=
  h.of_unchanged (State.beginAttempt_unchanged (by decide) (.refl _ _))

theorem GainsComposed.testStep (h : GainsComposed s) : GainsComposed s.testStep := by
  have hdropped : GainsComposed (s.onTest fun t => t.dropNamed s.face.sequence) := h.onTest _
  unfold State.testStep
  split
  · dsimp only
    split
    · split
      · exact ((hdropped.onTest _).endAttempt _).beginAttempt
      · exact hdropped.onTest _
    · exact hdropped.onTest _
    · exact hdropped.beginAttempt
    · exact hdropped
  · exact h

theorem GainsComposed.endWait (h : GainsComposed s) : GainsComposed s.endWait := by
  unfold State.endWait
  split
  · exact (h.endAttempt _).beginAttempt
  · exact h

/-! ## Reports, silence and the refresh start (R129 to R140) -/

theorem GainsComposed.onTileScan (h : GainsComposed s) (i : TileNo) (f : TileScan → TileScan) :
    GainsComposed (s.onTileScan i f) := h.onTile i id

theorem GainsComposed.handOvertemp (h : GainsComposed s) (i : TileNo) (r : Report) :
    GainsComposed (s.handOvertemp i r) := by
  unfold State.handOvertemp
  dsimp only
  split
  · exact (h.offer ..).setDerate i _
  · exact h.setDerate i _

theorem GainsComposed.handEvents (h : GainsComposed s) (i : TileNo) (r : Report) (c : Comparison) :
    GainsComposed (s.handEvents i r c) := by
  unfold State.handEvents
  dsimp only
  split
  · exact h.goodReport i
  · exact List.foldlRecOn _ _ h fun _ ht e _ => ht.tileEvent i e

theorem GainsComposed.judgeReport (h : GainsComposed s) (i : TileNo) (r : Report) :
    GainsComposed (s.judgeReport i r) := by
  have hfiled (c : Comparison) : GainsComposed (s.fileReport i r c) := h.onTileScan i _
  unfold State.judgeReport
  dsimp only
  split
  · exact (hfiled _).testReport ..
  · exact ((hfiled _).handEvents ..).handOvertemp i r

theorem GainsComposed.makeReport (h : GainsComposed s) (i : TileNo) (w3 : Word) :
    GainsComposed (s.makeReport i w3) := by
  unfold State.makeReport
  dsimp only
  split
  · exact h.offer ..
  split
  · exact h.onTileScan i _
  · exact h.judgeReport i _

theorem GainsComposed.reportNoted (h : GainsComposed s) (w : NotedWord 128) : GainsComposed (s.reportNoted w) := by
  unfold State.reportNoted
  split
  · exact h.makeReport ..
  · exact h

theorem GainsComposed.makeReports (h : GainsComposed s) : GainsComposed s.makeReports :=
  List.foldlRecOn _ _ (h.onScan _) fun _ ht w _ => ht.reportNoted w

theorem GainsComposed.judgeHeld (h : GainsComposed s) (i : TileNo) : GainsComposed (s.judgeHeld i) := by
  unfold State.judgeHeld
  split
  · exact (h.onTileScan i _).judgeReport i _
  · exact h

theorem GainsComposed.judgeHeldReports (h : GainsComposed s) : GainsComposed s.judgeHeldReports :=
  List.foldlRecOn _ _ h fun _ ht i _ => ht.judgeHeld i

theorem GainsComposed.closeRefresh (h : GainsComposed s) : GainsComposed s.closeRefresh := by
  refine ⟨h.pair, fun i => ?_⟩
  have htile : s.closeRefresh.tile i = (s.tile i).refresh s.scan.openRefresh s.tileCount
      s.settings.layout.wordsPerTile i := Table.get_mapIdx ..
  rw [htile]
  exact (h.composed i).refresh ..

theorem GainsComposed.silenceSteps (h : GainsComposed s) : GainsComposed s.silenceSteps := by
  refine ⟨h.pair, fun i => ?_⟩
  have htile : s.silenceSteps.tile i =
      if i.val < s.tileCount then { s.tile i with scan := (s.tile i).scan.silenceStep } else s.tile i :=
    Table.get_mapIdx ..
  rw [htile]
  split <;> exact h.composed i

theorem GainsComposed.fallSilent (h : GainsComposed s) (i : TileNo) : GainsComposed (s.fallSilent i) := by
  unfold State.fallSilent
  split
  · exact (h.onTileScan i _).tileEvent i _
  · exact h

theorem GainsComposed.resumeScan (h : GainsComposed s) : GainsComposed s.resumeScan := by
  unfold State.resumeScan
  dsimp only
  split
  · exact (h.offer ..).onFace _
  · exact h.onFace _

theorem GainsComposed.showRefreshStart (h : GainsComposed s) : GainsComposed s.showRefreshStart :=
  have hresumed : GainsComposed s.advanceSequence.resumeScan := (h.onFace _).resumeScan
  hresumed.of_unchanged (State.settlePair_unchanged _ (by decide)
    (State.showDecision_unchanged (by decide) (.refl _ _)))

theorem GainsComposed.refreshStart (h : GainsComposed s) : GainsComposed s.refreshStart :=
  have hramped := (h.showRefreshStart.onBus fun b => { b with errorMark := false }).rampAll
  (hramped.closeRefresh.judgeHeldReports.silenceSteps.testStep).onDue _

/-! ## The bus path (01) -/

theorem GainsComposed.takeTransaction (h : GainsComposed s) (p : Presented) :
    GainsComposed (s.takeTransaction p) := by
  have hstarted : GainsComposed (if s.startsRefresh p then s.refreshStart else s) := by
    split
    · exact h.refreshStart
    · exact h
  exact hstarted.of_unchanged (State.enact_unchanged _ (by decide) (State.prepare_unchanged (by decide) (.refl _ _)))

theorem GainsComposed.takePresented (h : GainsComposed s) : GainsComposed s.takePresented := by
  unfold State.takePresented
  split
  · split
    · exact h.takeTransaction _
    · exact h
  · exact h

theorem GainsComposed.present (h : GainsComposed s) (p : Presented) : GainsComposed (s.present p) := by
  unfold State.present
  split
  · exact h
  · exact (h.onBus _).takePresented

theorem GainsComposed.deliverWord (h : GainsComposed s) (t : TxRecord) (w : Word) :
    GainsComposed (s.deliverWord t w) := by
  unfold State.deliverWord
  split
  · exact (h.onTileScan _ _).onBus _
  · exact h.onBus _

theorem GainsComposed.readWord (h : GainsComposed s) (w : Word) : GainsComposed (s.readWord w) := by
  unfold State.readWord
  split
  · split
    · exact (h.deliverWord ..).of_unchanged (State.finishAnswer_unchanged _ (by decide) (.refl _ _))
    · exact h
  · exact h

theorem GainsComposed.handStatus (h : GainsComposed s) (t : TxRecord) (st : MemStatus) :
    GainsComposed (s.handStatus t st) := by
  unfold State.handStatus
  dsimp only
  split
  · split
    · exact h.of_unchanged (State.judgeCommits_unchanged (by decide) (.refl _ _))
    · exact h.of_unchanged (State.dropNotedCues_unchanged (by decide) (.refl _ _))
  split
  · split
    · exact h.makeReports
    · exact h.onScan _
  · exact h

theorem GainsComposed.memoryErrorRecord (h : GainsComposed s) (t : TxRecord) (st : MemStatus) :
    GainsComposed (s.memoryErrorRecord t st) := by
  unfold State.memoryErrorRecord
  split
  · exact (h.offer ..).onBus _
  · exact h

theorem GainsComposed.endForwarded (h : GainsComposed s) (t : TxRecord) (st : MemStatus) :
    GainsComposed (s.endForwarded t st) :=
  GainsComposed.event ((((h.onBus _).onBus _).handStatus t st).memoryErrorRecord t st)

theorem GainsComposed.ownBurstEnd (h : GainsComposed s) (e : Engine) {f : State → Burst → State}
    (hf : ∀ t p, GainsComposed t → GainsComposed (f t p)) : GainsComposed (s.ownBurstEnd e f) := by
  unfold State.ownBurstEnd
  split
  · exact h
  next p hp =>
    refine GainsComposed.event ?_
    split
    · exact h.onBus _
    · exact hf _ p (h.onBus _)

theorem GainsComposed.endWriteBack (h : GainsComposed s) (p : Burst) (st : MemStatus) :
    GainsComposed (s.endWriteBack p st) := by
  unfold State.endWriteBack
  split
  next n hn =>
    have hfinal {t : State} (ht : GainsComposed t) : GainsComposed (if p.carriesFinal then t.emptySlot n else t) := by
      split
      · exact ht.of_unchanged (State.emptySlot_unchanged _ (by decide) (.refl _ _))
      · exact ht
    cases st with
    | ok => exact hfinal h
    | error => exact hfinal (h.offer ..)
  · exact h

theorem GainsComposed.endWipe (h : GainsComposed s) (st : MemStatus) : GainsComposed (s.endWipe st) := by
  have hended {t : State} (ht : GainsComposed t) (k : BufferNo) (r : ServiceState) (e : ServiceError) :
      GainsComposed (t.endWipeService k r e).endSweep :=
    ht.of_unchanged (State.endSweep_unchanged (by decide)
      (State.endWipeService_unchanged _ _ _ (by decide) (.refl _ _)))
  unfold State.endWipe
  split
  · exact h
  next k hk =>
    split
    · exact hended (GainsComposed.offer (h.onTable _) ..) ..
    · dsimp only
      split
      · exact hended (h.onTable _) ..
      · exact h.onTable _

/-! ## The Light unit (R106, R107) -/

theorem GainsComposed.recomputeLight (h : GainsComposed s) : GainsComposed s.recomputeLight := by
  unfold State.recomputeLight
  dsimp only
  split
  · exact h
  · exact GainsComposed.handPair _ (s.gainUnder_le _)

theorem GainsComposed.endWindow (h : GainsComposed s) (ch : Channel) : GainsComposed (s.endWindow ch) := by
  have hmoved : GainsComposed (s.setChannel ch (s.windowResult ch).1) := h.onLight _
  unfold State.endWindow
  dsimp only
  split
  · exact (hmoved.offer ..).recomputeLight
  · exact hmoved.recomputeLight

theorem GainsComposed.tickClock (h : GainsComposed s) : GainsComposed s.tickClock := (h.onLight _).recomputeLight

theorem GainsComposed.setClock (h : GainsComposed s) (minute second day : Nat) :
    GainsComposed (s.setClock minute second day) := (h.onLight _).recomputeLight

/-! ## What is due (log 2) -/

theorem GainsComposed.takeWindowEnd (h : GainsComposed s) (ch : Channel) : GainsComposed (s.takeWindowEnd ch) := by
  unfold State.takeWindowEnd
  split
  · exact h.endWindow ch
  · exact h

theorem GainsComposed.expirePairWait (h : GainsComposed s) : GainsComposed s.expirePairWait := by
  unfold State.expirePairWait
  split
  · exact (h.onFace _).offer ..
  · exact h

theorem GainsComposed.stallScan (h : GainsComposed s) : GainsComposed s.stallScan := by
  unfold State.stallScan
  split
  · exact ((h.onFace _).offer ..).of_unchanged (State.stallTest_unchanged (by decide) (.refl _ _))
  · exact h

theorem GainsComposed.secondStep (h : GainsComposed s) : GainsComposed s.secondStep := by
  unfold State.secondStep
  dsimp only
  split
  · split
    · exact h.tickClock.onDue _
    · exact h.tickClock.onTable _
  · exact h.tickClock

theorem GainsComposed.takeDue (h : GainsComposed s) (e : DueEvent) : GainsComposed (s.takeDue e) := by
  cases e with
  | guardClaim => exact h.of_unchanged (State.guardGrant_unchanged (by decide) (.refl _ _))
  | takePresented => exact h.takePresented
  | silent i => exact h.fallSilent i
  | testWaitExpiry => exact h.endWait
  | holdOffEnd n => exact h.of_unchanged (State.endHoldOff_unchanged n (by decide) (.refl _ _))
  | cueExpiry n => exact h.of_unchanged (State.expireCue_unchanged n (by decide) (.refl _ _))
  | noticeTimeEnd n => exact h.of_unchanged (State.endNoticeTime_unchanged n (by decide) (.refl _ _))
  | dwellMet => exact h.of_unchanged (State.meetDwell_unchanged (by decide) (.refl _ _))
  | pairWaitExpiry => exact h.expirePairWait
  | scanStall => exact h.stallScan
  | gateWindowEnd ch => exact h.takeWindowEnd ch
  | secondStep => exact h.secondStep
  | noticeGateTimeout => exact h.of_unchanged (State.timeoutGate_unchanged (by decide) (.refl _ _))

theorem GainsComposed.takeIfDue (h : GainsComposed s) (e : DueEvent) : GainsComposed (s.takeIfDue e) := by
  unfold State.takeIfDue
  split
  · exact GainsComposed.takeDue (h.onDue _) e
  · exact h

end

theorem GainsComposed.settleWithin (n : Nat) {s : State} (h : GainsComposed s) :
    GainsComposed (s.settleWithin n) := by
  induction n generalizing s with
  | zero => exact h
  | succ n ih =>
    unfold State.settleWithin
    split
    · exact h
    · exact ih (GainsComposed.takeDue (h.onDue _) _)

theorem GainsComposed.settle {s : State} (h : GainsComposed s) : GainsComposed s.settle := h.settleWithin settleBound

theorem GainsComposed.act {s : State} (h : GainsComposed s) {f : State → State}
    (hf : ∀ t, GainsComposed t → GainsComposed (f t)) : GainsComposed (s.act f) := by
  unfold State.act
  split
  · exact h
  · exact hf _ h.settle

end Sys2Proof.Safety
end

section
/-! SUPPORT. The composition of the gains: settings and the service link (10), the governor (11), the services, and
every command. -/

namespace Sys2Proof.Safety

open Sys2Proof.Machine

section
variable {s : State}

/-! ## Settings written (R105, R114, R118, R122, R150, R153) -/

theorem GainsComposed.onSettings (h : GainsComposed s) {f : Settings → Settings}
    (hcount : (f s.settings).layout.tileCount = s.settings.layout.tileCount)
    (hpolicy : (f s.settings).tileBlank = s.settings.tileBlank) : GainsComposed (s.onSettings f) := by
  refine h.congr rfl ?_
  simp [State.gainContext, State.running, State.tileCount, State.blanked, hcount, hpolicy]

theorem GainsComposed.storeOperating (h : GainsComposed s) {i : Fin 36} (v : Half) (hi : i ≠ 22) :
    GainsComposed (s.storeOperating i v) := h.onSettings rfl (s.settings.storeOperating_tileBlank _ hi)

/-- The tile blank policy is the one item of table 0x02 that the gains read. The cases are those of
`State.writeOperating` in its order: the enables, the sensor settings, the limits, the policy, the face fault
limit, the bands' defaults, the rest. -/
theorem GainsComposed.writeOperating (h : GainsComposed s) (i : Fin 36) (v : Half) :
    GainsComposed (s.writeOperating i v) := by
  by_cases hi : i = 22
  · rw [hi]
    exact BoundsComposed.retargetAll (s := s.storeOperating 22 v) h.bounds
  have hstored : GainsComposed (s.storeOperating i v) := h.storeOperating v hi
  unfold State.writeOperating
  split
  case h_1 => exact ((h.storeOperating v (by decide)).onLight _).recomputeLight
  case h_2 => exact ((h.storeOperating v (by decide)).onLight _).recomputeLight
  case h_13 | h_14 => exact hstored.evaluateTiles
  case h_15 policy => exact absurd (Fin.ext policy) hi
  case h_16 => exact (h.storeOperating v (by decide)).faceLimitCheck
  case h_21 => exact hstored
  all_goals exact hstored.recomputeLight

theorem GainsComposed.writeLayout (h : GainsComposed s) (i : Fin 15) (v : Half) :
    GainsComposed (s.writeLayout i v) := by
  unfold State.writeLayout
  dsimp only
  split
  next => exact BoundsComposed.retargetAll (s := s.onSettings fun g => g.storeLayout i v) h.bounds
  next base => exact h.onSettings (s.settings.layout.store_tileCount v base) rfl

theorem GainsComposed.storeItem (h : GainsComposed s) (v : Half) (it : Item) :
    GainsComposed (s.storeItem v it) := by
  cases it
  case layout i => exact h.writeLayout i v
  case operating i => exact h.writeOperating i v
  case curve p f => exact (h.onSettings rfl rfl).recomputeLight
  case band b f => exact (h.onSettings rfl rfl).recomputeLight
  case trim t => exact h.setTrim t _
  case param | call | tileSelect => exact h.onLink _
  all_goals exact h

/-! ## Frames (R172 to R177) -/

theorem GainsComposed.respond (h : GainsComposed s) (o : LinkOutcome) (item data : Half) :
    GainsComposed (s.respond o item data) := h.onLink _

theorem GainsComposed.frameWrite (h : GainsComposed s) (number v : Half) :
    GainsComposed (s.frameWrite number v) := by
  unfold State.frameWrite
  split
  next it hit =>
    unfold State.writeItem
    split
    · exact h.respond ..
    · exact (h.storeItem v it).respond ..
  next => exact h.respond ..

theorem GainsComposed.itemWrite (h : GainsComposed s) (it : Item) (v : Half) : GainsComposed (s.itemWrite it v) :=
  h.frameWrite ..

theorem GainsComposed.frameRead (h : GainsComposed s) (number : Half) : GainsComposed (s.frameRead number) :=
  h.of_unchanged (State.frameRead_unchanged _ (by decide) (.refl _ _))

theorem GainsComposed.frameTakeFault (h : GainsComposed s) (number : Half) :
    GainsComposed (s.frameTakeFault number) :=
  have htaken : GainsComposed (s.onFaults fun _ => s.faults.take.2) :=
    h.onFaults (congrArg BlankReasons.any (FaultUnit.take_reasons s.faults))
  (htaken.onLink _).respond ..

theorem GainsComposed.frameAction (h : GainsComposed s) (f : BitVec 48) : GainsComposed (s.frameAction f) := by
  unfold State.frameAction
  split
  · exact h.respond ..
  split
  · exact h.frameRead _
  split
  · exact h.frameWrite ..
  split
  · exact h.frameTakeFault _
  · exact h.respond ..

theorem GainsComposed.frameEnd (h : GainsComposed s) (bits : Nat) (f : BitVec 48) :
    GainsComposed (s.frameEnd bits f) := by
  unfold State.frameEnd
  split
  · exact h.respond ..
  split
  · exact h.respond ..
  · exact h.frameAction f

theorem GainsComposed.linkEdge (h : GainsComposed s) (e : LinkEdge) : GainsComposed (s.linkEdge e) := by
  cases e with
  | selectFall => exact h.onWires _
  | clockRise d => exact h.onWires _
  | clockFall => exact h.onWires _
  | selectRise =>
    unfold State.linkEdge State.endFrame
    dsimp only
    split
    · exact (h.onWires _).frameEnd ..
    · exact h

theorem GainsComposed.linkEdges (h : GainsComposed s) (es : List LinkEdge) : GainsComposed (s.linkEdges es) :=
  List.foldlRecOn _ _ h fun _ ht e _ => ht.linkEdge e

/-- A row that names its command acts once its frame has been clocked. -/
theorem GainsComposed.frameRow (h : GainsComposed s) {f : State → State}
    (hf : ∀ t, GainsComposed t → GainsComposed (f t)) : GainsComposed (s.act fun t => f t.clockFrame) :=
  h.act fun _ ht => hf _ (ht.onWires _)

theorem GainsComposed.itemRow (h : GainsComposed s) (it : Item) (v : Half) :
    GainsComposed (s.act fun t => t.clockFrame.itemWrite it v) := h.frameRow fun _ ht => ht.itemWrite it v

/-! ## The governor (R124, R125, R190 to R192) -/

theorem GainsComposed.closeSetup (h : GainsComposed s) : GainsComposed s.closeSetup := by
  have hrecorded (r : LayoutCheck × CheckWindows) : GainsComposed (s.recordCheck r) := h.onSettings rfl rfl
  have hentered (r : LayoutCheck × CheckWindows) : GainsComposed (s.recordCheck r).enterRunning :=
    BoundsComposed.retargetAll (s := ((s.recordCheck r).withGovernor .running).onFace _) h.bounds
  unfold State.closeSetup
  split
  · exact h.setService ..
  · refine GainsComposed.event ?_
    unfold State.validateLayout
    dsimp only
    split
    · exact (hentered _).setService ..
    · exact (hrecorded _).setService ..

/-- R125: the trims, the bounds and the pair stand, and in SETUP every T is 0. -/
theorem GainsComposed.of_restarted {t : State} (h : GainsComposed s) (setup : t.running = false)
    (htiles : t.tiles = s.tiles.restarted) : GainsComposed t := by
  have hceiling : t.tiles.ceiling = s.tiles.ceiling := by rw [htiles]; rfl
  have hgain : t.tiles.gain = s.tiles.gain := by rw [htiles]; rfl
  refine ⟨by rw [hceiling, hgain]; exact h.pair, fun i => ?_⟩
  have htile : t.tile i = (s.tile i).restarted := by
    rw [State.tile, htiles]
    exact Table.get_map ..
  have hbound : (s.tile i).bound = t.gainContext.bound (s.tile i) := by
    rw [h.bound i]
    exact congrArg (fun c => c * (s.tile i).trim / 1024) hceiling.symm
  rw [htile]
  exact TileComposed.restarted setup hbound

theorem GainsComposed.restart (h : GainsComposed s) : GainsComposed s.restart := by
  unfold State.restart
  exact GainsComposed.arbitrate (h.of_restarted rfl rfl)

/-- R113, R192: after power-on the pair is 256 and 256, every trim 1024, every T and A 0. -/
theorem GainsComposed.powerOn (strap : Strap) : GainsComposed (State.powerOn strap) := by
  refine ⟨Nat.le_refl _, fun i => ?_⟩
  have htile : (State.powerOn strap).tile i = TileRecord.powerOn := Table.get_fill ..
  rw [htile]
  exact ⟨rfl, (Nat.mul_div_cancel 256 (by decide)).symm, Nat.zero_le _, fun _ => rfl⟩

theorem GainsComposed.powerUp (s : State) (strap : Strap) : GainsComposed (s.powerUp strap) :=
  have hpowered : GainsComposed (((State.powerOn strap).withPending s.pending).onLines _) :=
    GainsComposed.powerOn strap
  (hpowered.onBus _).arbitrate

theorem GainsComposed.powerDown (h : GainsComposed s) : GainsComposed s.powerDown :=
  have hlow : GainsComposed ((((s.onLines fun l => { l with rstn := true }).onBus BusState.idle).onDue
    fun _ => []).dropNotedCues.dropNotedReports.onWires LinkWires.released) := h
  hlow.onFaults rfl

/-! ## The services (R181) -/

theorem GainsComposed.takeService (v : Service) {f : State → State}
    (hf : ∀ t, GainsComposed t → GainsComposed (f t)) (h : GainsComposed s) :
    GainsComposed (s.takeService v f) := by
  unfold State.takeService
  split
  · exact hf s h
  · exact h

/-- A service row: what was due is taken, then the service by its owner. -/
theorem GainsComposed.serviceRow (h : GainsComposed s) (v : Service) {f : State → State}
    (hf : ∀ t, GainsComposed t → GainsComposed (f t)) : GainsComposed (s.act fun t => t.takeService v f) :=
  h.act fun _ => GainsComposed.takeService v hf

theorem GainsComposed.checked (h : GainsComposed s) (checks : List (Bool × ServiceError)) {f : State → State}
    (hf : GainsComposed (f s)) : GainsComposed (s.checked checks f) := by
  unfold State.checked
  split
  · exact h.setService ..
  · exact hf

/-! ## Every command -/

theorem GainsComposed.endForwardedBurst {t : State} (h : GainsComposed s) {st : MemStatus}
    (answers : s.endForwardedBurst st = .next t) : GainsComposed t := by
  have hfreed : GainsComposed (s.event State.freePort) := GainsComposed.event (h.onBus _)
  unfold State.endForwardedBurst at answers
  split at answers
  · split at answers
    · cases answers
      exact hfreed
    · split at answers
      · cases answers
      · cases answers
        exact h.endForwarded ..
  · cases answers
    exact hfreed
  · cases answers
    exact h

theorem GainsComposed.transactionTake {t : State} (h : GainsComposed s) (p : Option Presented)
    (answers : execTransactionTake p s = .next t) : GainsComposed t := by
  unfold execTransactionTake at answers
  split at answers
  · split at answers
    · cases answers
      split
      · exact h.of_unchanged (State.hold_unchanged _ (by decide) (.refl _ _))
      · exact h.settle.present _
    · cases answers
  · cases answers
    exact h.takeIfDue _

theorem GainsComposed.forwardedBurstEnd {t : State} (h : GainsComposed s) (st : MemStatus)
    (answers : execForwardedBurstEnd st s = .next t) : GainsComposed t := by
  unfold execForwardedBurstEnd at answers
  split at answers
  · cases answers
    exact h
  · exact h.settle.endForwardedBurst answers

theorem GainsComposed.verifyBurstEnd {t : State} (h : GainsComposed s) (st : MemStatus) (ws : List Word)
    (answers : execVerifyBurstEnd st ws s = .next t) : GainsComposed t := by
  unfold execVerifyBurstEnd at answers
  split at answers
  · cases answers
    exact h.act fun _ ht => ht.ownBurstEnd _ fun _ _ hu =>
      hu.of_unchanged (State.endVerify_unchanged _ _ (by decide) (.refl _ _))
  · cases answers

theorem GainsComposed.upstreamReset {t : State} (h : GainsComposed s) (answers : execUpstreamReset s = .next t) :
    GainsComposed t := by
  cases answers
  split
  · split
    · exact h
    · exact (h.onLines _).onBus _
  split
  · exact h.settle
  · exact h.settle.of_unchanged (State.upstreamReset_unchanged (by decide) (.refl _ _))

theorem GainsComposed.upstreamResetRelease {t : State} (h : GainsComposed s)
    (answers : execUpstreamResetRelease s = .next t) : GainsComposed t := by
  cases answers
  split
  · exact h.onLines _
  split
  · exact h.settle.of_unchanged (State.upstreamRelease_unchanged (by decide) (.refl _ _))
  · exact h.settle

theorem GainsComposed.powerOnRelease {t : State} (h : GainsComposed s) (strap : Strap)
    (answers : execPowerOnRelease strap s = .next t) : GainsComposed t := by
  cases answers
  split
  · exact GainsComposed.powerUp s strap
  · exact h

theorem GainsComposed.partnerRise {t : State} (h : GainsComposed s) (level : Bool)
    (answers : execPartnerRise level s = .next t) : GainsComposed t := by
  cases answers
  split
  · exact h.onLines _
  · have hseen : GainsComposed (s.settle.onLines fun l => { l with partner := level }) := h.settle.onLines _
    dsimp only
    split
    · exact hseen.of_unchanged (State.partnerHigh_unchanged (by decide) (.refl _ _))
    · exact hseen

/-- A row that names what a window's end does takes that end, or nothing (log 12). -/
theorem GainsComposed.windowRow (h : GainsComposed s) (named : Bool) (e : DueEvent) :
    GainsComposed (if named then s.takeIfDue e else s) := by
  split
  · exact h.takeIfDue e
  · exact h

/-! ### The services -/

theorem GainsComposed.serveSetClock (h : GainsComposed s) : GainsComposed s.serveSetClock :=
  h.checked _ ((h.setClock ..).setService ..)

theorem GainsComposed.serveOpenGate (h : GainsComposed s) : GainsComposed s.serveOpenGate :=
  h.of_unchanged (State.serveOpenGate_unchanged (by decide) (.refl _ _))

theorem GainsComposed.serveCloseGate (h : GainsComposed s) : GainsComposed s.serveCloseGate :=
  h.of_unchanged (State.serveCloseGate_unchanged (by decide) (.refl _ _))

theorem GainsComposed.serveWipe (h : GainsComposed s) : GainsComposed s.serveWipe :=
  h.of_unchanged (State.serveWipe_unchanged (by decide) (.refl _ _))

theorem GainsComposed.serveTest (h : GainsComposed s) : GainsComposed s.serveTest :=
  h.of_unchanged (State.serveTest_unchanged (by decide) (.refl _ _))

theorem GainsComposed.serveClearTile (h : GainsComposed s) : GainsComposed s.serveClearTile :=
  h.checked _ ((h.clearTile _).setService ..)

theorem GainsComposed.serveBlank (h : GainsComposed s) : GainsComposed s.serveBlank :=
  h.checked _ ((h.addReason _).setService ..)

theorem GainsComposed.serveUnblank (h : GainsComposed s) : GainsComposed s.serveUnblank :=
  h.checked _ ((h.removeReason _).setService ..)

theorem GainsComposed.serveSnapshot (h : GainsComposed s) : GainsComposed s.serveSnapshot :=
  h.of_unchanged (State.serveSnapshot_unchanged (by decide) (.refl _ _))

/-! ### The dispatch -/

/-- A row that always answers. -/
theorem GainsComposed.of_next {t u : State} (h : GainsComposed t)
    (answers : (Host.Outcome.next t : Answer) = .next u) : GainsComposed u := by
  cases answers
  exact h

theorem GainsComposed.exec {c : Instr} {t : State} (h : GainsComposed s) (answers : exec c s = .next t) :
    GainsComposed t := by
  cases c with
  | transactionTake p => exact h.transactionTake p answers
  | writeDataWord w en =>
    exact (h.act fun _ ht => ht.of_unchanged (State.writeWord_unchanged _ (by decide) (.refl _ _))).of_next answers
  | readWordDelivery w => exact (h.act fun _ ht => ht.readWord w).of_next answers
  | initiatorShortEnd =>
    exact (h.act fun _ ht => ht.of_unchanged (State.shortEnd_unchanged (by decide) (.refl _ _))).of_next answers
  | forwardedBurstEnd st => exact h.forwardedBurstEnd st answers
  | writeBackBurstEnd st =>
    exact (h.act fun _ ht => ht.ownBurstEnd _ fun _ p hu => hu.endWriteBack p st).of_next answers
  | wipeBurstEnd st => exact (h.act fun _ ht => ht.ownBurstEnd _ fun _ _ hu => hu.endWipe st).of_next answers
  | verifyBurstEnd st ws => exact h.verifyBurstEnd st ws answers
  | decisecondStep =>
    exact (h.act fun _ ht => ht.of_unchanged (State.decisecond_unchanged (by decide) (.refl _ _))).of_next answers
  | starvationGuardClaim | silent | testWaitExpiry | holdOffEnd | cueExpiry | noticeTimeEnd | dwellMet
  | pairWaitExpiry | scanStall | gateWindowEnd | secondStep | noticeGateTimeout => exact (h.takeIfDue _).of_next answers
  | jump | sensorDead | sensorSaturated => exact (h.windowRow _ _).of_next answers
  | partnerRise level => exact h.partnerRise level answers
  | luxPulse ch => exact (h.act fun _ ht => ht.onLight _).of_next answers
  | upstreamReset => exact h.upstreamReset answers
  | upstreamResetRelease => exact h.upstreamResetRelease answers
  | powerOnReset => exact (h.act fun _ ht => ht.powerDown).of_next answers
  | powerOnRelease strap => exact h.powerOnRelease strap answers
  | nop item => exact (h.frameRow fun _ ht => ht.respond .ok item 0).of_next answers
  | read item => exact (h.frameRow fun _ ht => ht.frameRead item).of_next answers
  | resetCauseRead => exact (h.frameRow fun _ ht => ht.frameRead _).of_next answers
  | write item data => exact (h.frameRow fun _ ht => ht.frameWrite item data).of_next answers
  | channelEnableWrite | channelSettingWrite | limitWrite | faceFaultLimitWrite | tileBlankPolicyWrite | trimWrite
  | bandFieldWrite | defaultBandWrite | unsetCeilingWrite | curvePointWrite | layoutWrite =>
    exact (h.itemRow _ _).of_next answers
  | takeFault item => exact (h.frameRow fun _ ht => ht.frameTakeFault item).of_next answers
  | closeSetup => exact (h.serviceRow .closeSetup fun _ ht => ht.closeSetup).of_next answers
  | restart => exact (h.serviceRow .restart fun _ ht => ht.restart).of_next answers
  | setClock => exact (h.serviceRow .setClock fun _ ht => ht.serveSetClock).of_next answers
  | openNoticeGate => exact (h.serviceRow .openNoticeGate fun _ ht => ht.serveOpenGate).of_next answers
  | closeNoticeGate => exact (h.serviceRow .closeNoticeGate fun _ ht => ht.serveCloseGate).of_next answers
  | wipeBuffer => exact (h.serviceRow .wipeBuffer fun _ ht => ht.serveWipe).of_next answers
  | tileTest => exact (h.serviceRow .tileTest fun _ ht => ht.serveTest).of_next answers
  | clearTile => exact (h.serviceRow .clearTile fun _ ht => ht.serveClearTile).of_next answers
  | blankFace => exact (h.serviceRow .blankFace fun _ ht => ht.serveBlank).of_next answers
  | unblankFace => exact (h.serviceRow .unblankFace fun _ ht => ht.serveUnblank).of_next answers
  | captureSnapshot => exact (h.serviceRow .captureSnapshot fun _ ht => ht.serveSnapshot).of_next answers
  | frameCheckFailure edges last => exact (h.act fun _ ht => (ht.linkEdges edges).linkEdge last).of_next answers

end

end Sys2Proof.Safety
end

section
/-! SUPPORT. The pixel word (R110): a channel scaled, and the four fields of a scaled word. -/

namespace Sys2Proof.Machine

/-! ## One channel -/

theorem scaleChannel_quotient_le (c : BitVec 10) {a : Nat} (ha : a ≤ 1024) : c.toNat * a / 1024 ≤ c.toNat :=
  Nat.div_le_of_le_mul (by rw [Nat.mul_comm 1024]; exact Nat.mul_le_mul_left _ ha)

theorem scaleChannel_toNat (c : BitVec 10) {a : Nat} (ha : a ≤ 1024) :
    (scaleChannel c a).toNat = c.toNat * a / 1024 := by
  rw [scaleChannel, BitVec.toNat_ofNat]
  exact Nat.mod_eq_of_lt ((scaleChannel_quotient_le c ha).trans_lt c.isLt)

@[simp] theorem scaleChannel_full (c : BitVec 10) : scaleChannel c 1024 = c := by
  simp [scaleChannel]

@[simp] theorem scaleChannel_dark (c : BitVec 10) : scaleChannel c 0 = 0#10 := by
  simp [scaleChannel]

@[simp] theorem scaleChannel_zero (a : Nat) : scaleChannel 0#10 a = 0#10 := by
  simp [scaleChannel]

/-! ## The fields of a word -/

/-- A word is its upper field and its three channels. -/
theorem word_eq_fields (w : Word) :
    w.extractLsb' 30 2 ++ w.extractLsb' 20 10 ++ w.extractLsb' 10 10 ++ w.extractLsb' 0 10 = w := by
  rw [BitVec.extractLsb'_append_extractLsb'_eq_extractLsb' (by rfl),
    BitVec.extractLsb'_append_extractLsb'_eq_extractLsb' (by rfl),
    BitVec.extractLsb'_append_extractLsb'_eq_extractLsb' (by rfl)]
  exact BitVec.extractLsb'_eq_self

section
variable (w : Word) (a : Nat)

theorem scaleWord_blue : (scaleWord w a).extractLsb' 0 10 = scaleChannel (w.extractLsb' 0 10) a :=
  BitVec.extractLsb'_append_eq_right

theorem scaleWord_green : (scaleWord w a).extractLsb' 10 10 = scaleChannel (w.extractLsb' 10 10) a := by
  unfold scaleWord
  rw [BitVec.extractLsb'_append_eq_of_le (by decide)]
  exact BitVec.extractLsb'_append_eq_right

theorem scaleWord_red : (scaleWord w a).extractLsb' 20 10 = scaleChannel (w.extractLsb' 20 10) a := by
  unfold scaleWord
  rw [BitVec.extractLsb'_append_eq_of_le (by decide), BitVec.extractLsb'_append_eq_of_le (by decide)]
  exact BitVec.extractLsb'_append_eq_right

theorem scaleWord_upper : (scaleWord w a).extractLsb' 30 2 = w.extractLsb' 30 2 := by
  unfold scaleWord
  rw [BitVec.extractLsb'_append_eq_of_le (by decide), BitVec.extractLsb'_append_eq_of_le (by decide)]
  exact BitVec.extractLsb'_append_eq_left

theorem scaleWord_full : scaleWord w 1024 = w := by
  simp only [scaleWord, scaleChannel_full]
  exact word_eq_fields w

theorem scaleWord_dark : scaleWord w 0 = w.extractLsb' 30 2 ++ 0#30 := by
  have hzeros (u : BitVec 2) : (u ++ 0#10 ++ 0#10 ++ 0#10).toNat = (u ++ 0#30).toNat := by
    simp only [BitVec.toNat_append, BitVec.toNat_ofNat, Nat.zero_mod, Nat.or_zero, ← Nat.shiftLeft_add]
  simp only [scaleWord, scaleChannel_dark]
  exact BitVec.eq_of_toNat_eq (hzeros _)

theorem scaleWord_zero : scaleWord 0 a = 0 := by
  have hfield (start len : Nat) : (0 : Word).extractLsb' start len = 0#len := BitVec.extractLsb'_zero
  simp only [scaleWord, hfield, scaleChannel_zero]
  rfl

end

end Sys2Proof.Machine
end

section
/-! The statements on the tiles and dimming (06). -/

namespace Sys2Proof.Safety

open Sys2Proof.Machine

/-- Settles O3: the front command is one of the rows, and each keeps the gains composed. -/
theorem gainsStayComposed : Obligations.GainsStayComposed := by
  intro s t h hstep
  unfold step at hstep
  split at hstep
  · exact h.of_next hstep
  · exact GainsComposed.exec (h.withPending _) hstep

/-- Settles O22: field by field, with the worked word by evaluation. -/
theorem pixelScaling : Obligations.PixelScaling := by
  refine ⟨fun w a ha => ?_, fun w => ⟨scaleWord_full w, scaleWord_dark w⟩, scaleWord_zero, by decide⟩
  rw [scaleWord_red, scaleWord_green, scaleWord_blue, scaleChannel_toNat _ ha, scaleChannel_toNat _ ha,
    scaleChannel_toNat _ ha]
  exact ⟨rfl, rfl, rfl, scaleWord_upper w a, scaleChannel_quotient_le _ ha, scaleChannel_quotient_le _ ha,
    scaleChannel_quotient_le _ ha⟩

end Sys2Proof.Safety
end

section
/-! SUPPORT. What every operation of the model keeps: the pending commands, the bounds of the fault queue, of the
waited-grant count and of the tiles' counts, the order of the Cue Queue, and the write-back list. Every lemma
`Keeps.op` says that the operation `op` keeps them. -/

namespace Sys2Proof.Safety

open Sys2Proof.Machine

/-- The state `t` has the pending commands of `s` and each of the five invariants that `s` has. -/
structure Keeps (s t : State) : Prop where
  pending : t.pending = s.pending
  faults : FaultQueueBounded s → FaultQueueBounded t
  guard : GuardBounded s → GuardBounded t
  counts : TileCountsBounded s → TileCountsBounded t
  queue : CueQueueOrdered s → CueQueueOrdered t
  list : WriteBackListed s → WriteBackListed t

/-- The blocks that none of the invariants reads. -/
def uncounted : List Block := [.due, .lines, .table, .face, .light, .scan, .test, .wires, .link, .settings, .governor]

theorem Keeps.refl (s : State) : Keeps s s := ⟨rfl, id, id, id, id, id⟩

theorem Keeps.trans {s t u : State} (h : Keeps s t) (g : Keeps t u) : Keeps s u :=
  ⟨g.pending.trans h.pending, g.faults ∘ h.faults, g.guard ∘ h.guard, g.counts ∘ h.counts, g.queue ∘ h.queue,
    g.list ∘ h.list⟩

section
variable {s t u : State}

theorem Keeps.aside (h : Keeps s t) (frame : Unchanged uncounted t u) : Keeps s u := by
  have hpending : u.pending = t.pending := frame.agree .pending (by decide)
  have hfaults : u.faults = t.faults := frame.agree .faults (by decide)
  have hbus : u.bus = t.bus := frame.agree .bus (by decide)
  have htiles : u.tiles = t.tiles := frame.agree .tiles (by decide)
  have hcues : u.cues = t.cues := frame.agree .cues (by decide)
  refine h.trans ⟨hpending, ?_, ?_, ?_, ?_, ?_⟩
  · simp [FaultQueueBounded, hfaults]
  · simp [GuardBounded, hbus]
  · simp [TileCountsBounded, State.tile, htiles]
  · simp [CueQueueOrdered, hcues]
  · simp [WriteBackListed, State.slot, hcues]

/-! ## One block -/

theorem Keeps.onDue (h : Keeps s t) (f : List DueEvent → List DueEvent) : Keeps s (t.onDue f) :=
  h.aside (State.onDue_unchanged _ (by decide) (.refl _ _))
theorem Keeps.onLines (h : Keeps s t) (f : Lines → Lines) : Keeps s (t.onLines f) :=
  h.aside (State.onLines_unchanged _ (by decide) (.refl _ _))
theorem Keeps.onTable (h : Keeps s t) (f : BufferTable → BufferTable) : Keeps s (t.onTable f) :=
  h.aside (State.onTable_unchanged _ (by decide) (.refl _ _))
theorem Keeps.onBuffer (h : Keeps s t) (k : BufferNo) (f : BufferRecord → BufferRecord) : Keeps s (t.onBuffer k f) :=
  h.onTable _
theorem Keeps.onFace (h : Keeps s t) (f : ShowUnit → ShowUnit) : Keeps s (t.onFace f) :=
  h.aside (State.onFace_unchanged _ (by decide) (.refl _ _))
theorem Keeps.onLight (h : Keeps s t) (f : LightUnit → LightUnit) : Keeps s (t.onLight f) :=
  h.aside (State.onLight_unchanged _ (by decide) (.refl _ _))
theorem Keeps.onScan (h : Keeps s t) (f : ScanUnit → ScanUnit) : Keeps s (t.onScan f) :=
  h.aside (State.onScan_unchanged _ (by decide) (.refl _ _))
theorem Keeps.onTest (h : Keeps s t) (f : TestRecord → TestRecord) : Keeps s (t.onTest f) :=
  h.aside (State.onTest_unchanged _ (by decide) (.refl _ _))
theorem Keeps.onWires (h : Keeps s t) (f : LinkWires → LinkWires) : Keeps s (t.onWires f) :=
  h.aside (State.onWires_unchanged _ (by decide) (.refl _ _))
theorem Keeps.onLink (h : Keeps s t) (f : LinkState → LinkState) : Keeps s (t.onLink f) :=
  h.aside (State.onLink_unchanged _ (by decide) (.refl _ _))
theorem Keeps.onSettings (h : Keeps s t) (f : Settings → Settings) : Keeps s (t.onSettings f) :=
  h.aside (State.onSettings_unchanged _ (by decide) (.refl _ _))
theorem Keeps.setService (h : Keeps s t) (st : ServiceState) (e : ServiceError) : Keeps s (t.setService st e) :=
  h.onLink _

/-! ## The fault queue (R157) -/

theorem Keeps.onFaults (h : Keeps s t) {f : FaultUnit → FaultUnit}
    (hf : FaultQueueBounded t → FaultQueueBounded (t.onFaults f)) : Keeps s (t.onFaults f) :=
  h.trans ⟨rfl, hf, id, id, id, id⟩

/-- R157: a record joins a queue that has room, or the count that saturates. -/
theorem FaultUnit.join_bounded {f : FaultUnit} (r : FaultRecord) (h : f.queue.length ≤ 32 ∧ f.overflow ≤ 255) :
    (f.join r).queue.length ≤ 32 ∧ (f.join r).overflow ≤ 255 := by
  unfold FaultUnit.join
  split
  next room => exact ⟨by simpa using room, h.2⟩
  next => exact ⟨h.1, Nat.min_le_left _ _⟩

theorem Keeps.offer (h : Keeps s t) (k : FaultKind) (tile : Option TileNo) (detail : Half) :
    Keeps s (t.offer k tile detail) := h.onFaults (FaultUnit.join_bounded _)

theorem Keeps.putReason (h : Keeps s t) (x : BlankReason) (b : Bool) : Keeps s (t.putReason x b) := h.onFaults id

/-- R158: a record leaves the queue, or the count returns to 0. -/
theorem FaultUnit.take_bounded {f : FaultUnit} (h : f.queue.length ≤ 32 ∧ f.overflow ≤ 255) :
    f.take.2.queue.length ≤ 32 ∧ f.take.2.overflow ≤ 255 := by
  obtain ⟨hqueue, hoverflow⟩ := h
  unfold FaultUnit.take
  split
  next r rest e =>
    rw [e, List.length_cons] at hqueue
    exact ⟨Nat.le_of_succ_le hqueue, hoverflow⟩
  next => exact ⟨hqueue, Nat.zero_le _⟩

/-! ## The tiles' counts (R130, R140, R145) -/

/-- Of the blocks that the invariants read the Tile Table alone has changed, and in no tile out of range. -/
theorem Keeps.ofTiles (h : Keeps s t) (frame : Unchanged (.tiles :: uncounted) t u)
    (hf : ∀ i, TileCounts (t.tile i) → TileCounts (u.tile i)) : Keeps s u := by
  have hpending : u.pending = t.pending := frame.agree .pending (by decide)
  have hfaults : u.faults = t.faults := frame.agree .faults (by decide)
  have hbus : u.bus = t.bus := frame.agree .bus (by decide)
  have hcues : u.cues = t.cues := frame.agree .cues (by decide)
  refine h.trans ⟨hpending, ?_, ?_, fun hc i => hf i (hc i), ?_, ?_⟩
  · simp [FaultQueueBounded, hfaults]
  · simp [GuardBounded, hbus]
  · simp [CueQueueOrdered, hcues]
  · simp [WriteBackListed, State.slot, hcues]

theorem Keeps.onTile (h : Keeps s t) (i : TileNo) {f : TileRecord → TileRecord}
    (hf : TileCounts (t.tile i) → TileCounts (f (t.tile i))) : Keeps s (t.onTile i f) := by
  refine h.ofTiles (State.onTile_unchanged _ _ (by decide) (.refl _ _)) fun j hj => ?_
  by_cases same : j = i
  · rw [same] at hj ⊢
    exact (t.onTile_tile_self i f).symm ▸ hf hj
  · exact (t.onTile_tile_of_ne f same).symm ▸ hj

/-- A change of the scan record that keeps the history short and the silence count in range. -/
theorem Keeps.onTileScan (h : Keeps s t) (i : TileNo) {f : TileScan → TileScan}
    (hf : TileCounts (t.tile i) → (f (t.tile i).scan).history.length ≤ 4 ∧ (f (t.tile i).scan).silence ≤ 255) :
    Keeps s (t.onTileScan i f) :=
  h.onTile i fun hc => ⟨(hf hc).1, (hf hc).2, hc.2.2⟩

theorem TileCounts.cut {r : TileRecord} (h : TileCounts r) (g : GainContext) (i : TileNo) :
    TileCounts (g.cut i r) := by
  unfold GainContext.cut
  split <;> exact h

theorem TileCounts.rampStep {r : TileRecord} (h : TileCounts r) (up down : Nat) : TileCounts (rampStep up down r) := by
  unfold Machine.rampStep
  split <;> exact h

theorem TileCounts.retarget {r : TileRecord} (h : TileCounts r) (g : GainContext) (i : TileNo) :
    TileCounts (g.retarget i r) := TileCounts.cut (r := { r with target := g.target i r }) h g i

theorem TileCounts.rebound {r : TileRecord} (h : TileCounts r) (g : GainContext) (i : TileNo) :
    TileCounts (g.rebound i r) := TileCounts.cut (r := { r with target := g.target i r, bound := g.bound r }) h g i

theorem Keeps.retargetTile (h : Keeps s t) (i : TileNo) : Keeps s (t.retargetTile i) :=
  h.onTile i fun hc => TileCounts.retarget hc _ i

theorem Keeps.reboundTile (h : Keeps s t) (i : TileNo) : Keeps s (t.reboundTile i) :=
  h.onTile i fun hc => TileCounts.rebound hc _ i

theorem Keeps.retargetAll (h : Keeps s t) : Keeps s t.retargetAll :=
  h.ofTiles (State.retargetAll_unchanged (by decide) (.refl _ _)) fun i hc =>
    (t.retargetAll_tile i).symm ▸ TileCounts.retarget hc _ i

theorem Keeps.handPair (h : Keeps s t) (c fg : Nat) : Keeps s (t.handPair c fg) := by
  refine h.ofTiles (State.handPair_unchanged _ _ (by decide) (.refl _ _)) fun i hc => ?_
  unfold State.handPair State.tile
  rw [State.onTiles_tiles, Table.get_mapIdx]
  exact TileCounts.rebound hc _ i

theorem Keeps.setTrim (h : Keeps s t) (i : TileNo) (v : Nat) : Keeps s (t.setTrim i v) :=
  (h.onTile i id).reboundTile i

theorem Keeps.setDerate (h : Keeps s t) (i : TileNo) (b : Bool) : Keeps s (t.setDerate i b) := by
  unfold State.setDerate
  split
  · exact h
  · exact (h.onTile i id).retargetTile i

theorem Keeps.rampAll (h : Keeps s t) : Keeps s t.rampAll :=
  h.ofTiles (State.rampAll_unchanged (by decide) (.refl _ _)) fun i hc =>
    (t.rampAll_tile i).symm ▸ TileCounts.rampStep hc _ _

/-! ## The blank reasons and tile states (R146 to R155) -/

theorem Keeps.addReason (h : Keeps s t) (x : BlankReason) : Keeps s (t.addReason x) := by
  unfold State.addReason
  split
  · exact h
  split
  · exact h.putReason x true
  · exact ((h.putReason x true).offer ..).retargetAll

theorem Keeps.removeReason (h : Keeps s t) (x : BlankReason) : Keeps s (t.removeReason x) := by
  unfold State.removeReason
  split
  · exact h
  split
  · exact h.putReason x false
  · exact ((h.putReason x false).offer ..).retargetAll

theorem Keeps.faceLimitCheck (h : Keeps s t) : Keeps s t.faceLimitCheck := by
  unfold State.faceLimitCheck
  split
  · exact h.addReason _
  · exact h.removeReason _

theorem Keeps.countFaulted (h : Keeps s t) (count : FaultUnit → Nat) :
    Keeps s (t.onFaults fun f => { f with faultedCount := count f }) :=
  h.onFaults (f := fun f => { f with faultedCount := count f }) id

theorem Keeps.enterFaulted (h : Keeps s t) (i : TileNo) : Keeps s (t.enterFaulted i) := by
  have hentered : Keeps s (t.onTile i fun r => { r with state := .faulted }) := h.onTile i id
  unfold State.enterFaulted
  exact Keeps.faceLimitCheck (Keeps.countFaulted ((hentered.offer ..).retargetTile i) _)

theorem Keeps.leaveFaulted (h : Keeps s t) (i : TileNo) (detail : Half) : Keeps s (t.leaveFaulted i detail) := by
  have hleft : Keeps s (t.onTile i fun r => { r with state := .lit, counter := 0 }) :=
    h.onTile i fun hc => ⟨hc.1, hc.2.1, Nat.zero_le _⟩
  unfold State.leaveFaulted
  exact Keeps.faceLimitCheck (Keeps.countFaulted ((hleft.offer ..).retargetTile i) _)

theorem Keeps.evaluateTile (h : Keeps s t) (i : TileNo) : Keeps s (t.evaluateTile i) := by
  unfold State.evaluateTile
  dsimp only
  split
  · exact h
  split
  · exact h.enterFaulted i
  split
  · split
    · exact (h.onTile i id).offer ..
    · exact h
  · exact h.onTile i id

theorem Keeps.evaluateTiles (h : Keeps s t) : Keeps s t.evaluateTiles :=
  List.foldlRecOn _ _ h fun _ ht i _ => ht.evaluateTile i

/-- The counter alone is written, within its range. -/
theorem Keeps.setCounter (h : Keeps s t) (i : TileNo) {c : TileRecord → Nat}
    (hc : (t.tile i).counter ≤ 255 → c (t.tile i) ≤ 255) : Keeps s (t.onTile i fun r => { r with counter := c r }) :=
  h.onTile i fun ⟨hhistory, hsilence, hcounter⟩ => ⟨hhistory, hsilence, hc hcounter⟩

theorem Keeps.tileEvent (h : Keeps s t) (i : TileNo) (e : TileEvent) : Keeps s (t.tileEvent i e) := by
  unfold State.tileEvent
  split
  · exact h
  · exact (h.setCounter i fun _ => Nat.min_le_left _ _).evaluateTile i

theorem Keeps.goodReport (h : Keeps s t) (i : TileNo) : Keeps s (t.goodReport i) := by
  unfold State.goodReport
  split
  · exact h
  · exact (h.setCounter i fun hc => (Nat.sub_le _ _).trans hc).evaluateTile i

theorem Keeps.clearTile (h : Keeps s t) (i : TileNo) : Keeps s (t.clearTile i) := by
  unfold State.clearTile
  split
  · exact h.leaveFaulted i 1
  · exact h.onTile i fun hc => ⟨hc.1, hc.2.1, Nat.zero_le _⟩

theorem Keeps.tilePassed (h : Keeps s t) (i : TileNo) : Keeps s (t.tilePassed i) := by
  unfold State.tilePassed
  split
  · exact h.leaveFaulted i 2
  · exact h

theorem Keeps.tileFailed (h : Keeps s t) (i : TileNo) : Keeps s (t.tileFailed i) := by
  have hfull : Keeps s (t.onTile i fun r => { r with counter := 255 }) := h.setCounter i fun _ => Nat.le_refl _
  unfold State.tileFailed
  dsimp only
  split
  · exact hfull
  · exact hfull.enterFaulted i

/-! ## The Tile test, reports and silence (R129 to R140, R164 to R168) -/

theorem Keeps.endTest (h : Keeps s t) (i : TileNo) (passed : Bool) : Keeps s (t.endTest i passed) := by
  unfold State.endTest
  split
  · exact ((h.tilePassed i).setService ..).onTest _
  · exact ((h.tileFailed i).setService ..).onTest _

theorem Keeps.endAttempt (h : Keeps s t) (r : AttemptResult) : Keeps s (t.endAttempt r) := by
  have hmarked : Keeps s (t.onTest fun t => { t with lastResult := some r }) := h.onTest _
  unfold State.endAttempt
  dsimp only
  split
  · exact hmarked
  split
  · exact hmarked.endTest _ true
  split
  · exact hmarked.onTest _
  · exact hmarked.endTest _ false

theorem Keeps.testReport (h : Keeps s t) (seq : Byte) (c : Comparison) (dark : BitVec 12) :
    Keeps s (t.testReport seq c dark) := by
  unfold State.testReport
  split
  · exact (h.onTest _).endAttempt _
  · exact h

theorem Keeps.beginAttempt (h : Keeps s t) : Keeps s t.beginAttempt :=
  h.aside (State.beginAttempt_unchanged (by decide) (.refl _ _))

theorem Keeps.testStep (h : Keeps s t) : Keeps s t.testStep := by
  have hdropped : Keeps s (t.onTest fun u => u.dropNamed t.face.sequence) := h.onTest _
  unfold State.testStep
  split
  · dsimp only
    split
    · split
      · exact ((hdropped.onTest _).endAttempt _).beginAttempt
      · exact hdropped.onTest _
    · exact hdropped.onTest _
    · exact hdropped.beginAttempt
    · exact hdropped
  · exact h

theorem Keeps.endWait (h : Keeps s t) : Keeps s t.endWait := by
  unfold State.endWait
  split
  · exact (h.endAttempt _).beginAttempt
  · exact h

theorem Keeps.fileReport (h : Keeps s t) (i : TileNo) (r : Report) (c : Comparison) :
    Keeps s (t.fileReport i r c) := h.onTileScan i fun hc => ⟨hc.1, Nat.zero_le _⟩

theorem Keeps.handOvertemp (h : Keeps s t) (i : TileNo) (r : Report) : Keeps s (t.handOvertemp i r) := by
  unfold State.handOvertemp
  dsimp only
  split
  · exact (h.offer ..).setDerate i _
  · exact h.setDerate i _

theorem Keeps.handEvents (h : Keeps s t) (i : TileNo) (r : Report) (c : Comparison) :
    Keeps s (t.handEvents i r c) := by
  unfold State.handEvents
  dsimp only
  split
  · exact h.goodReport i
  · exact List.foldlRecOn _ _ h fun _ ht e _ => ht.tileEvent i e

theorem Keeps.judgeReport (h : Keeps s t) (i : TileNo) (r : Report) : Keeps s (t.judgeReport i r) := by
  unfold State.judgeReport
  dsimp only
  split
  · exact (h.fileReport ..).testReport ..
  · exact ((h.fileReport ..).handEvents ..).handOvertemp i r

theorem Keeps.holdReport (h : Keeps s t) (i : TileNo) (r : Option Report) :
    Keeps s (t.onTileScan i fun u => { u with held := r }) := h.onTileScan i fun hc => ⟨hc.1, hc.2.1⟩

theorem Keeps.makeReport (h : Keeps s t) (i : TileNo) (w3 : Word) : Keeps s (t.makeReport i w3) := by
  unfold State.makeReport
  dsimp only
  split
  · exact h.offer ..
  split
  · exact h.holdReport i _
  · exact h.judgeReport i _

theorem Keeps.reportNoted (h : Keeps s t) (w : NotedWord 128) : Keeps s (t.reportNoted w) := by
  unfold State.reportNoted
  split
  · exact h.makeReport ..
  · exact h

theorem Keeps.makeReports (h : Keeps s t) : Keeps s t.makeReports :=
  List.foldlRecOn _ _ (h.onScan _) fun _ ht w _ => ht.reportNoted w

theorem Keeps.judgeHeld (h : Keeps s t) (i : TileNo) : Keeps s (t.judgeHeld i) := by
  unfold State.judgeHeld
  split
  · exact (h.holdReport i _).judgeReport i _
  · exact h

theorem Keeps.judgeHeldReports (h : Keeps s t) : Keeps s t.judgeHeldReports :=
  List.foldlRecOn _ _ h fun _ ht i _ => ht.judgeHeld i

/-- R130: an entry joins a history of at most four, the oldest leaving a full one. -/
theorem appendHistory_length_le {l : List HistoryEntry} (e : HistoryEntry) (h : l.length ≤ 4) :
    (appendHistory l e).length ≤ 4 := by
  unfold appendHistory
  split <;> simp <;> omega

theorem TileCounts.refresh {r : TileRecord} (h : TileCounts r) (opened : Option Byte) (n words : Nat) (i : TileNo) :
    TileCounts (r.refresh opened n words i) := by
  unfold TileRecord.refresh
  split
  · split
    · exact ⟨appendHistory_length_le _ h.1, h.2⟩
    · exact h
  · exact h

theorem Keeps.closeRefresh (h : Keeps s t) : Keeps s t.closeRefresh := by
  refine h.ofTiles (State.closeRefresh_unchanged (by decide) (.refl _ _)) fun i hc => ?_
  unfold State.closeRefresh State.tile
  rw [State.onScan_tiles, State.onTiles_tiles, Table.get_mapIdx]
  exact TileCounts.refresh hc ..

theorem Keeps.silenceSteps (h : Keeps s t) : Keeps s t.silenceSteps := by
  refine h.ofTiles (State.silenceSteps_unchanged (by decide) (.refl _ _)) fun i hc => ?_
  unfold State.silenceSteps State.tile
  rw [State.onTiles_tiles, Table.get_mapIdx]
  split
  · exact ⟨hc.1, Nat.min_le_left _ _, hc.2.2⟩
  · exact hc

theorem Keeps.fallSilent (h : Keeps s t) (i : TileNo) : Keeps s (t.fallSilent i) := by
  unfold State.fallSilent
  split
  · exact Keeps.tileEvent (h.onTileScan i fun hc => ⟨hc.1, Nat.zero_le _⟩) i _
  · exact h

end
end Sys2Proof.Safety
end

section
/-! SUPPORT. What every operation of the Cue unit, the engines, the Show unit and the bus path keeps. -/

namespace Sys2Proof.Safety

open Sys2Proof.Machine

/-- R17: the bound of the waited-grant count, read from the bus alone. -/
def WaitBounded (b : BusState) : Prop := b.waited ≤ 8 ∧ (b.anyRequest = false → b.waited = 0)

/-- R17: with no request left pending the count is 0. -/
theorem WaitBounded.withdrawn {b : BusState} (h : b.waited ≤ 8) : WaitBounded b.withdrawn := by
  unfold BusState.withdrawn
  split
  next pends => exact ⟨h, fun none => by rw [pends] at none; cases none⟩
  next => exact ⟨Nat.zero_le _, fun _ => rfl⟩

theorem WaitBounded.withdrawVerify {b : BusState} (h : WaitBounded b) : WaitBounded b.withdrawVerify := by
  unfold BusState.withdrawVerify
  split
  · exact WaitBounded.withdrawn h.1
  · exact h

/-- R17: a forwarded grant raises the count to 8 at most, and only while a request pends. -/
theorem WaitBounded.forwardedGrant {b : BusState} (h : WaitBounded b) (port : Option Burst) :
    WaitBounded { b with port := port, waited := b.forwardedGrant } := by
  unfold BusState.forwardedGrant
  split
  next pends => exact ⟨Nat.min_le_left _ _, fun idle => absurd (pends.symm.trans idle) (by decide)⟩
  next => exact h

/-- The engines' requests only grow in number as they are raised. -/
theorem raised_isSome {current : Option OwnRequest} (busy : Bool) (next : Option OwnRequest)
    (h : current.isSome = true) : (raised current busy next).isSome = true := by
  cases current with
  | none => cases h
  | some r => rfl

theorem WaitBounded.raised {b : BusState} (h : WaitBounded b) (x y z : Bool) (p q r : Option OwnRequest) :
    WaitBounded { b with writeBackReq := raised b.writeBackReq x p, wipeReq := raised b.wipeReq y q
                         verifyReq := raised b.verifyReq z r } := by
  refine ⟨h.1, fun none => h.2 ?_⟩
  simp only [BusState.anyRequest, Bool.or_eq_false_iff] at none ⊢
  obtain ⟨⟨hwriteBack, hwipe⟩, hverify⟩ := none
  have back {c : Option OwnRequest} {busy : Bool} {n : Option OwnRequest}
      (e : (Machine.raised c busy n).isSome = false) : c.isSome = false := by
    by_contra pending
    rw [raised_isSome busy n (Bool.eq_true_of_not_eq_false pending)] at e
    cases e
  exact ⟨⟨back hwriteBack, back hwipe⟩, back hverify⟩

section
variable {s t u : State}

/-! ## The bus -/

theorem Keeps.onBus (h : Keeps s t) {f : BusState → BusState} (hf : WaitBounded t.bus → WaitBounded (f t.bus)) :
    Keeps s (t.onBus f) := h.trans ⟨rfl, id, hf, id, id, id⟩

theorem Keeps.stopVerify (h : Keeps s t) : Keeps s t.stopVerify :=
  (h.onTable _).onBus fun hb => hb.withdrawVerify

theorem Keeps.abortVerify (h : Keeps s t) (k : BufferNo) : Keeps s (t.abortVerify k) := by
  unfold State.abortVerify
  split
  · exact h.stopVerify
  · exact h

theorem Keeps.releaseBuffer (h : Keeps s t) (k : BufferNo) : Keeps s (t.releaseBuffer k) :=
  (h.abortVerify k).onBuffer k _

theorem Keeps.freePort (h : Keeps s t) : Keeps s t.freePort := h.onBus id

theorem Keeps.complete (h : Keeps s t) (st : Completion) : Keeps s (t.complete st) := h.onBus id

theorem Keeps.prepare (h : Keeps s t) : Keeps s t.prepare := by
  unfold State.prepare
  exact Keeps.onBus (h.aside (State.verifyChoice_unchanged (by decide) (State.wipeChoice_unchanged (by decide) (.refl _ _))))
    fun hb => hb.raised ..

/-! ## The Cue unit (R55, R63) -/

/-- The Cue unit changes in fields that the invariants do not read. -/
theorem Keeps.onCues (h : Keeps s t) {f : CueUnit → CueUnit} (hqueue : (f t.cues).queue = t.cues.queue)
    (hslots : (f t.cues).slots = t.cues.slots) (hlist : (f t.cues).writeBack = t.cues.writeBack) :
    Keeps s (t.onCues f) := by
  refine h.trans ⟨rfl, id, id, id, ?_, ?_⟩
  · simp [CueQueueOrdered, hqueue]
  · simp [WriteBackListed, State.slot, hslots, hlist]

theorem Keeps.ofQueue (h : Keeps s t) {f : CueUnit → CueUnit} (hslots : (f t.cues).slots = t.cues.slots)
    (hlist : (f t.cues).writeBack = t.cues.writeBack) (hf : CueQueueOrdered t → CueQueueOrdered (t.onCues f)) :
    Keeps s (t.onCues f) := by
  refine h.trans ⟨rfl, id, id, id, hf, ?_⟩
  simp [WriteBackListed, State.slot, hslots, hlist]

/-- A slot's record changes, but not whether it is listed. -/
theorem Keeps.onSlot (h : Keeps s t) (n : SlotNo) {f : SlotRecord → SlotRecord}
    (hf : (f (t.slot n)).listed = (t.slot n).listed) : Keeps s (t.onSlot n f) := by
  refine h.trans ⟨rfl, id, id, id, id, fun ⟨hnodup, hlisted⟩ => ⟨hnodup, fun m => ?_⟩⟩
  have hslot : ((t.onSlot n f).slot m).listed = (t.slot m).listed := by
    rw [State.slot, State.onSlot, State.onCues_cues, Table.get_modify]
    split
    next e => rw [e]; exact hf
    next => rfl
  rw [hslot]
  exact hlisted m

/-- R63: a slot joins the tail of the list where it does not stand in it. -/
theorem Keeps.listSlot (h : Keeps s t) (n : SlotNo) : Keeps s (t.listSlot n) := by
  unfold State.listSlot
  split
  · exact h
  next unlisted =>
    refine h.trans ⟨rfl, id, id, id, id, fun ⟨hnodup, hlisted⟩ => ?_⟩
    have absent : n ∉ t.cues.writeBack := fun hn => unlisted ((hlisted n).mpr hn)
    refine ⟨List.nodup_append.mpr ⟨hnodup, List.nodup_singleton n, fun a ha b hb e => ?_⟩, fun m => ?_⟩
    · rw [List.mem_singleton.mp hb] at e
      exact absent (e ▸ ha)
    · simp only [State.slot, State.onSlot, State.onCues_cues, Table.get_modify, List.mem_append, List.mem_singleton]
      split
      next e => simp [e]
      next e =>
        have := hlisted m
        simp only [State.slot] at this
        simp [this, e]

theorem Keeps.setOutcome (h : Keeps s t) (n : SlotNo) {f : SlotRecord → SlotRecord}
    (hf : (f (t.slot n)).listed = (t.slot n).listed) : Keeps s (t.setOutcome n f) := (h.onSlot n hf).listSlot n

theorem Keeps.closeSlot (h : Keeps s t) (n : SlotNo) (o : CueOutcome) (reason : Option Reason) :
    Keeps s (t.closeSlot n o reason) := h.setOutcome n rfl

theorem tail_filter_subset {α : Type} (p : α → Bool) (l : List α) : (l.filter p).tail ⊆ l.tail := by
  cases l with
  | nil => exact fun _ h => h
  | cons a l =>
    rw [List.filter_cons]
    split
    · exact List.filter_subset_self l
    · exact fun _ h => List.filter_subset_self l (List.tail_subset _ h)

/-- R55: cues that leave the queue leave it in order. -/
theorem Keeps.filterQueue (h : Keeps s t) (p : QueueEntry → Bool) :
    Keeps s (t.onCues fun c => { c with queue := c.queue.filter p }) :=
  h.ofQueue rfl rfl fun ⟨hlength, htail⟩ =>
    ⟨(List.length_filter_le _ _).trans hlength, fun e he => htail e (tail_filter_subset p _ he)⟩

theorem Keeps.dequeue (h : Keeps s t) (n : SlotNo) : Keeps s (t.dequeue n) := h.filterQueue _

/-- R55: the cues of the queue keep their kinds and their places. -/
theorem Keeps.mapQueue (h : Keeps s t) {f : QueueEntry → QueueEntry} (hf : ∀ e, (f e).kind = e.kind) :
    Keeps s (t.onCues fun c => { c with queue := c.queue.map f }) := by
  refine h.ofQueue rfl rfl fun ⟨hlength, htail⟩ => ⟨by simpa using hlength, fun e he => ?_⟩
  rw [State.onCues_cues, ← List.map_tail] at he
  obtain ⟨a, ha, rfl⟩ := List.mem_map.mp he
  rw [hf a]
  exact htail a ha

/-- R53, R55: a cue joins a queue that has room, a NOTICE at the head of one that holds none. -/
theorem Keeps.placeCue (h : Keeps s t) (e : QueueEntry) (room : t.cues.queue.length < 8)
    (lone : e.kind = .notice → ∀ q ∈ t.cues.queue, q.kind ≠ .notice) :
    Keeps s (t.onCues fun c => { c with queue := QueueEntry.place c.queue e }) := by
  refine h.ofQueue rfl rfl fun ⟨_, htail⟩ => ?_
  simp only [CueQueueOrdered, State.onCues_cues, QueueEntry.place, beq_iff_eq]
  split
  next notice => exact ⟨room, lone notice⟩
  next other =>
    refine ⟨by simpa using room, fun q hq => ?_⟩
    cases hqueue : t.cues.queue with
    | nil => rw [hqueue] at hq; cases hq
    | cons a rest =>
      rw [hqueue] at hq htail
      rcases List.mem_append.mp hq with hq | hq
      · exact htail q hq
      · rw [List.mem_singleton.mp hq]
        exact other

theorem Keeps.releaseEntryBuffer (h : Keeps s t) (e : QueueEntry) : Keeps s (t.releaseEntryBuffer e) := by
  unfold State.releaseEntryBuffer
  split
  · exact h.releaseBuffer _
  · exact h

theorem Keeps.endQueued (h : Keeps s t) (e : QueueEntry) (o : CueOutcome) : Keeps s (t.endQueued e o) :=
  ((h.dequeue _).closeSlot ..).releaseEntryBuffer e

theorem Keeps.rejectQueued (h : Keeps s t) (n : SlotNo) (reason : Reason) : Keeps s (t.rejectQueued n reason) :=
  (h.dequeue n).closeSlot ..

theorem Keeps.rejectCommit (h : Keeps s t) (n : SlotNo) (kind : Option CueKind) (k : BufferNo) (w7 : Word)
    (reason : Reason) : Keeps s (t.rejectCommit n kind k w7 reason) := (h.onSlot n rfl).closeSlot ..

theorem Keeps.handBuffer (h : Keeps s t) (e : QueueEntry) : Keeps s (t.handBuffer e) := by
  unfold State.handBuffer
  split
  · exact h.onBuffer _ _
  · exact h

theorem Keeps.noticeTakesVerify (h : Keeps s t) (e : QueueEntry) : Keeps s (t.noticeTakesVerify e) := by
  unfold State.noticeTakesVerify
  split
  · exact h.stopVerify
  · exact h

theorem Keeps.acceptCue (h : Keeps s t) (n : SlotNo) (kind : CueKind) (k : BufferNo) (w7 : Word)
    (room : t.cues.queue.length < 8) (lone : kind = .notice → t.queuedNotice = none) :
    Keeps s (t.acceptCue n kind k w7) := by
  have hpending : Keeps s (t.onSlot n fun r => r.committed .pending (some kind) k w7) := h.onSlot n rfl
  refine Keeps.noticeTakesVerify (Keeps.handBuffer (hpending.placeCue _ room fun notice q hq => ?_) _) _
  have hnone := List.find?_eq_none.mp (lone notice) q hq
  simpa using hnone

theorem Keeps.handNoticeEnd (h : Keeps s t) : Keeps s t.handNoticeEnd :=
  h.aside (State.handNoticeEnd_unchanged (by decide) (.refl _ _))

theorem Keeps.acceptWithdraw (h : Keeps s t) (n : SlotNo) (k : BufferNo) (w7 : Word) :
    Keeps s (t.acceptWithdraw n k w7) := by
  unfold State.acceptWithdraw
  refine Keeps.closeSlot (Keeps.onSlot ?_ n rfl) ..
  split
  · exact h.endQueued ..
  · exact h.handNoticeEnd

/-- R51: a cue that passes its checks finds room in the queue. -/
theorem commitCheck_room {k : BufferNo} {kind : CueKind} (h : t.commitCheck (some kind) k = none)
    (joins : kind ≠ .withdraw) : t.cues.queue.length < 8 := by
  have hbuffer (e : t.bufferChecks k = none) : t.cues.queue.length < 8 := by
    unfold State.bufferChecks at e
    split at e
    · cases e
    · split at e
      · cases e
      · omega
  unfold State.commitCheck at h
  cases kind with
  | frame =>
    dsimp only at h
    split at h
    · cases h
    · exact hbuffer h
  | notice =>
    dsimp only at h
    split at h
    · cases h
    · split at h
      · cases h
      · exact hbuffer h
  | blank =>
    dsimp only at h
    split at h
    · cases h
    · omega
  | withdraw => exact absurd rfl joins

/-- R51: a NOTICE that passes its checks finds no other in the queue. -/
theorem commitCheck_lone {k : BufferNo} (h : t.commitCheck (some .notice) k = none) : t.queuedNotice = none := by
  simp only [State.commitCheck] at h
  split at h
  · cases h
  split at h
  · cases h
  next about =>
    simp only [State.noticeAbout, Bool.or_eq_true, not_or, Bool.not_eq_true, Option.isSome_eq_false_iff,
      Option.isNone_iff_eq_none] at about
    exact about.1

theorem Keeps.judgeCommit (h : Keeps s t) (n : SlotNo) (w7 : Word) : Keeps s (t.judgeCommit n w7) := by
  unfold State.judgeCommit
  dsimp only
  split
  · exact h.rejectCommit ..
  · exact h.acceptWithdraw ..
  next kind joins hcheck hkind =>
    rw [hkind] at hcheck
    refine h.acceptCue n kind _ w7 (commitCheck_room hcheck joins) fun notice => ?_
    · subst notice
      exact commitCheck_lone hcheck
  · exact h

theorem Keeps.judgeNoted (h : Keeps s t) (w : NotedWord 32) : Keeps s (t.judgeNoted w) := by
  unfold State.judgeNoted
  split
  · exact h.judgeCommit ..
  · exact h

theorem Keeps.dropNotedCues (h : Keeps s t) : Keeps s t.dropNotedCues := h.onCues rfl rfl rfl

theorem Keeps.judgeCommits (h : Keeps s t) : Keeps s t.judgeCommits :=
  List.foldlRecOn _ _ h.dropNotedCues fun _ ht w _ => ht.judgeNoted w

theorem Keeps.cancelQueue (h : Keeps s t) : Keeps s t.cancelQueue :=
  List.foldlRecOn _ _ h fun _ ht e _ => ht.endQueued e _

theorem Keeps.takeCueWord (h : Keeps s t) (n : SlotNo) (word : Nat) (d : DataWord) :
    Keeps s (t.takeCueWord n word d) := by
  unfold State.takeCueWord
  split
  · exact h.onCues rfl rfl rfl
  split
  · exact h.onCues rfl rfl rfl
  · exact h

/-! ## Grants and what follows an event (R16, R17) -/

/-- R63, R64: the slot at the head of the list leaves it as its write-back is granted. -/
theorem Keeps.grantWriteBack (h : Keeps s t) (r : OwnRequest) : Keeps s (t.grantWriteBack r) := by
  unfold State.grantWriteBack
  split
  next n rest hlist =>
    refine h.trans ⟨rfl, id, fun _ => ⟨Nat.zero_le _, fun _ => rfl⟩, id, id, fun ⟨hnodup, hlisted⟩ => ?_⟩
    rw [hlist] at hnodup hlisted
    obtain ⟨absent, hrest⟩ := List.nodup_cons.mp hnodup
    refine ⟨hrest, fun m => ?_⟩
    simp only [State.slot, State.onSlot, State.onCues_cues, State.onBus_cues, Table.get_modify]
    split
    next e => simp [e, absent]
    next e =>
      have := hlisted m
      simp only [State.slot, List.mem_cons] at this
      simp [this, e]
  next => exact h.onBus fun hb => WaitBounded.withdrawn hb.1

theorem Keeps.grantOwn (h : Keeps s t) : Keeps s t.grantOwn := by
  unfold State.grantOwn
  split
  · exact h.grantWriteBack _
  · exact h.onBus fun _ => ⟨Nat.zero_le _, fun _ => rfl⟩
  · exact h.onBus fun _ => ⟨Nat.zero_le _, fun _ => rfl⟩
  · exact h

theorem Keeps.arbitrate (h : Keeps s t) : Keeps s t.arbitrate := by
  unfold State.arbitrate
  split
  · exact h
  split
  · exact h.onDue _
  split
  · exact h.onDue _
  · exact h.grantOwn

theorem Keeps.settlePair (h : Keeps s t) (before : Option SlotNo) : Keeps s (t.settlePair before) :=
  h.aside (State.settlePair_unchanged _ (by decide) (.refl _ _))

/-- An event keeps what its own effect keeps. -/
theorem Keeps.event {f : State → State} (h : Keeps s (f t)) : Keeps s (t.event f) :=
  ((h.settlePair _).prepare).arbitrate

/-! ## The ends of own bursts -/

theorem Keeps.emptySlot (h : Keeps s t) (n : SlotNo) : Keeps s (t.emptySlot n) := by
  unfold State.emptySlot State.freeRetired
  refine Keeps.onTable (h.onSlot n ?_) _
  split <;> rfl

theorem Keeps.endWriteBack (h : Keeps s t) (p : Burst) (st : MemStatus) : Keeps s (t.endWriteBack p st) := by
  unfold State.endWriteBack
  split
  next n hn =>
    have hfinal {u : State} (hu : Keeps s u) : Keeps s (if p.carriesFinal then u.emptySlot n else u) := by
      split
      · exact hu.emptySlot n
      · exact hu
    cases st with
    | ok => exact hfinal h
    | error => exact hfinal (h.offer ..)
  · exact h

theorem Keeps.endWipe (h : Keeps s t) (st : MemStatus) : Keeps s (t.endWipe st) := by
  have hended {u : State} (hu : Keeps s u) (k : BufferNo) (r : ServiceState) (e : ServiceError) :
      Keeps s (u.endWipeService k r e).endSweep :=
    hu.aside (State.endSweep_unchanged (by decide)
      (State.endWipeService_unchanged _ _ _ (by decide) (.refl _ _)))
  unfold State.endWipe
  split
  · exact h
  next k hk =>
    split
    · exact hended ((h.onBuffer k _).offer ..) ..
    · dsimp only
      split
      · exact hended (h.onBuffer k _) ..
      · exact h.onBuffer k _

theorem Keeps.rejectVerify (h : Keeps s t) (k : BufferNo) (crc : Option Half) (reason : Reason) :
    Keeps s (t.rejectVerify k crc reason) := by
  unfold State.rejectVerify
  dsimp only
  split
  · exact Keeps.rejectQueued (((h.onTable _).onBuffer k _).onBuffer k _) ..
  · exact ((h.onTable _).onBuffer k _).onBuffer k _

theorem Keeps.finishVerify (h : Keeps s t) (w : VerifyWork) : Keeps s (t.finishVerify w) := by
  unfold State.finishVerify
  split
  · exact (h.onTable _).onBuffer _ _
  · exact h.rejectVerify ..

theorem Keeps.endVerify (h : Keeps s t) (st : MemStatus) (ws : List Word) : Keeps s (t.endVerify st ws) := by
  unfold State.endVerify
  split
  · exact h
  split
  · exact h.rejectVerify ..
  dsimp only
  split
  · exact h.finishVerify _
  · exact h.onTable _

/-! ## The Show unit (R69 to R77) -/

theorem Keeps.showFirst (h : Keeps s t) (e : QueueEntry) : Keeps s (t.showFirst e) := h.setOutcome _ rfl

theorem Keeps.setInterim (h : Keeps s t) (n : SlotNo) (o : CueOutcome) : Keeps s (t.setInterim n o) :=
  h.setOutcome n rfl

theorem Keeps.retireShowing (h : Keeps s t) : Keeps s t.retireShowing := by
  unfold State.retireShowing
  split
  · exact (h.onBuffer _ _).closeSlot ..
  · exact h.closeSlot ..
  · exact h

theorem Keeps.bufferToShowing (h : Keeps s t) (b : Option BufferNo) : Keeps s (t.bufferToShowing b) :=
  h.aside (State.bufferToShowing_unchanged _ (by decide) (.refl _ _))

theorem Keeps.swapIn (h : Keeps s t) (e : QueueEntry) : Keeps s (t.swapIn e) := by
  unfold State.swapIn
  exact (((h.dequeue _).bufferToShowing _).showFirst e).onFace _

theorem Keeps.suspendShowing (h : Keeps s t) : Keeps s t.suspendShowing := by
  unfold State.suspendShowing
  split
  · exact (h.onBuffer _ _).setInterim ..
  · exact h.setInterim ..
  · exact h

theorem Keeps.preempt (h : Keeps s t) (e : QueueEntry) : Keeps s (t.preempt e) := by
  unfold State.preempt
  exact (((h.suspendShowing.dequeue _).bufferToShowing _).showFirst e).onFace _

theorem Keeps.closeNotice (h : Keeps s t) : Keeps s t.closeNotice := by
  unfold State.closeNotice
  dsimp only
  split
  · exact ((h.onFace _).onBuffer _ _).closeSlot ..
  · exact h.onFace _

theorem Keeps.resume (h : Keeps s t) (sel : Showing) (n : SlotNo) (c : Fin 4) : Keeps s (t.resume sel n c) := by
  unfold State.resume
  exact (h.setInterim ..).onFace _

theorem Keeps.endNotice (h : Keeps s t) : Keeps s t.endNotice := by
  unfold State.endNotice
  dsimp only
  split
  · exact (h.closeNotice.onBuffer _ _).resume ..
  · exact h.closeNotice.resume ..
  split
  · exact h.closeNotice.swapIn _
  · exact h.closeNotice.onFace _

theorem Keeps.showDecision (h : Keeps s t) : Keeps s t.showDecision := by
  unfold State.showDecision
  split
  · split
    · exact h.endNotice
    · exact h
  split
  · exact h.preempt _
  split
  · split
    · exact h.retireShowing.swapIn _
    · exact h
  · exact h

theorem Keeps.resumeScan (h : Keeps s t) : Keeps s t.resumeScan := by
  unfold State.resumeScan
  dsimp only
  split
  · exact (h.offer ..).onFace _
  · exact h.onFace _

theorem Keeps.showRefreshStart (h : Keeps s t) : Keeps s t.showRefreshStart :=
  (h.onFace _).resumeScan.showDecision.settlePair _

theorem Keeps.refreshStart (h : Keeps s t) : Keeps s t.refreshStart :=
  have hramped := (h.showRefreshStart.onBus (f := fun b => { b with errorMark := false }) id).rampAll
  hramped.closeRefresh.judgeHeldReports.silenceSteps.testStep.onDue _

/-! ## The bus path (R2 to R22) -/

theorem Keeps.tellBuffers (h : Keeps s t) (r : TxRecord) : Keeps s (t.tellBuffers r) :=
  h.aside (State.tellBuffers_unchanged _ (by decide) (.refl _ _))

theorem Keeps.enact (h : Keeps s t) (r : TxRecord) : Keeps s (t.enact r) := by
  have htold : Keeps s ((t.onBus fun b => { b with upstream := some r, presented := none }).tellBuffers r) :=
    Keeps.tellBuffers (h.onBus id) r
  unfold State.enact
  dsimp only
  split
  · exact htold.onBus fun hb => hb.forwardedGrant _
  split
  · exact (htold.complete _).arbitrate
  · exact htold.arbitrate

theorem Keeps.takeTransaction (h : Keeps s t) (p : Presented) : Keeps s (t.takeTransaction p) := by
  unfold State.takeTransaction
  refine Keeps.enact (Keeps.prepare ?_) _
  split
  · exact h.refreshStart
  · exact h

theorem Keeps.handWord (h : Keeps s t) (r : TxRecord) (d : DataWord) : Keeps s (t.handWord r d) := by
  unfold State.handWord
  dsimp only
  split
  · exact h.takeCueWord ..
  · exact h.aside (State.takeReportWord_unchanged _ _ _ (by decide) (.refl _ _))
  · exact h

theorem WaitBounded.takeWord {b : BusState} (h : WaitBounded b) (r : TxRecord) (d : DataWord) :
    WaitBounded (b.takeWord r d) := by
  unfold BusState.takeWord
  split <;> exact h

theorem Keeps.finishRefused (h : Keeps s t) (r : TxRecord) : Keeps s (t.finishRefused r) := by
  unfold State.finishRefused
  split
  · exact (h.complete _).arbitrate
  · exact h

theorem Keeps.writeWord (h : Keeps s t) (d : DataWord) : Keeps s (t.writeWord d) := by
  unfold State.writeWord
  split
  · split
    · exact Keeps.finishRefused ((h.handWord _ d).onBus fun hb => hb.takeWord ..) _
    · exact h
  · exact h

theorem Keeps.countWord (h : Keeps s t) (offset : Nat) (w : Word) : Keeps s (t.countWord offset w) :=
  h.onTileScan _ fun hc => ⟨hc.1, hc.2.1⟩

theorem Keeps.deliverWord (h : Keeps s t) (r : TxRecord) (w : Word) : Keeps s (t.deliverWord r w) := by
  unfold State.deliverWord
  split
  · exact (h.countWord ..).onBus id
  · exact h.onBus id

theorem Keeps.finishAnswer (h : Keeps s t) (r : TxRecord) : Keeps s (t.finishAnswer r) := by
  unfold State.finishAnswer
  split
  · exact (h.complete _).arbitrate
  · exact h

theorem Keeps.readWord (h : Keeps s t) (w : Word) : Keeps s (t.readWord w) := by
  unfold State.readWord
  split
  · split
    · exact (h.deliverWord ..).finishAnswer _
    · exact h
  · exact h

theorem Keeps.shortEnd (h : Keeps s t) : Keeps s t.shortEnd := by
  unfold State.shortEnd
  split
  · split
    · split
      · exact h.onBus id
      · exact h.onBus id
      · exact h.onBus id
      · exact (h.complete _).arbitrate
      · exact (h.complete _).arbitrate
    · exact h
  · exact h

theorem Keeps.handStatus (h : Keeps s t) (r : TxRecord) (st : MemStatus) : Keeps s (t.handStatus r st) := by
  unfold State.handStatus
  dsimp only
  split
  · split
    · exact h.judgeCommits
    · exact h.dropNotedCues
  split
  · split
    · exact h.makeReports
    · exact h.onScan _
  · exact h

theorem Keeps.memoryErrorRecord (h : Keeps s t) (r : TxRecord) (st : MemStatus) :
    Keeps s (t.memoryErrorRecord r st) := by
  unfold State.memoryErrorRecord
  split
  · exact (h.offer ..).onBus id
  · exact h

theorem Keeps.endForwarded (h : Keeps s t) (r : TxRecord) (st : MemStatus) : Keeps s (t.endForwarded r st) :=
  Keeps.event ((h.freePort.complete _).handStatus r st |>.memoryErrorRecord r st)

theorem Keeps.ownBurstEnd (h : Keeps s t) (e : Engine) {f : State → Burst → State}
    (hf : ∀ u p, Keeps s u → Keeps s (f u p)) : Keeps s (t.ownBurstEnd e f) := by
  unfold State.ownBurstEnd
  split
  · exact h
  next p hp =>
    refine Keeps.event ?_
    split
    · exact h.freePort
    · exact hf _ p h.freePort

theorem Keeps.abandonUpstream (h : Keeps s t) : Keeps s t.abandonUpstream := (h.onLines _).onBus id

/-! ## The count through an upstream reset (R17, R21) -/

theorem grantOwn_waited_le (t : State) : t.grantOwn.bus.waited ≤ t.bus.waited := by
  unfold State.grantOwn
  split
  · unfold State.grantWriteBack
    split
    · exact Nat.zero_le _
    · simp only [State.onBus_bus, BusState.withdrawn]
      split
      · exact Nat.le_refl _
      · exact Nat.zero_le _
  · exact Nat.zero_le _
  · exact Nat.zero_le _
  · exact Nat.le_refl _

theorem arbitrate_waited_le (t : State) : t.arbitrate.bus.waited ≤ t.bus.waited := by
  unfold State.arbitrate
  split
  · exact Nat.le_refl _
  split
  · exact Nat.le_refl _
  split
  · exact Nat.le_refl _
  · exact grantOwn_waited_le t

theorem prepare_waited (t : State) : t.prepare.bus.waited = t.bus.waited := by
  have hbus : t.wipeChoice.verifyChoice.bus = t.bus :=
    (State.verifyChoice_unchanged (xs := [.table]) (by decide)
      (State.wipeChoice_unchanged (by decide) (.refl _ t))).agree .bus (by decide)
  calc t.prepare.bus.waited = t.wipeChoice.verifyChoice.bus.waited := rfl
    _ = t.bus.waited := by rw [hbus]

/-- What follows an event raises no count. -/
theorem after_waited_le (before t : State) : (State.after before t).bus.waited ≤ t.bus.waited := by
  have hpair : (t.settlePair before.headSlot).bus = t.bus :=
    (State.settlePair_unchanged (xs := [.due, .face]) _ (by decide) (.refl _ t)).agree .bus (by decide)
  calc (State.after before t).bus.waited
      ≤ (t.settlePair before.headSlot).prepare.bus.waited := arbitrate_waited_le _
    _ = t.bus.waited := by rw [prepare_waited, hpair]

/-- The event of an upstream reset carries the count through (log 36); the rule of the last request withdrawn
ends the reset. -/
theorem Keeps.upstreamReset (h : Keeps s t) : Keeps s t.upstreamReset := by
  have hnoted : Keeps t t.abandonUpstream.dropNotedCues.dropNotedReports :=
    (Keeps.refl t).abandonUpstream.dropNotedCues.onScan _
  have hreturned := hnoted.cancelQueue.onTable fun u =>
    { u with records := u.records.mapIdx BufferRecord.upstreamReset }
  have hafter (u : State) : Keeps u (State.after t.abandonUpstream u) :=
    (((Keeps.refl u).settlePair _).prepare).arbitrate
  have hreset (u : State) := hafter (u.onBus fun b => { b with waited := t.bus.waited })
  refine h.trans ⟨?_, ?_, ?_, ?_, ?_, ?_⟩
  · exact (hreset _).pending.trans hreturned.pending
  · exact fun g => (hreset _).faults (hreturned.faults g)
  · exact fun g => WaitBounded.withdrawn ((after_waited_le _ _).trans g.1)
  · exact fun g => (hreset _).counts (hreturned.counts g)
  · exact fun g => (hreset _).queue (hreturned.queue g)
  · exact fun g => (hreset _).list (hreturned.list g)

end
end Sys2Proof.Safety
end

section
/-! SUPPORT. What a step can do, said once: the operations that the commands are made of, on the states they run
in, and every command as a chain of them. -/

namespace Sys2Proof.Safety

open Sys2Proof.Machine

/-- One operation of a command, with what the command has found before it. -/
inductive Effect : State → State → Prop
  | aside {s t : State} (frame : Unchanged [.due, .light, .scan, .test, .wires, .link] s t) : Effect s t
  | lines {s : State} (f : Lines → Lines) (hrst : (f s.lines).rstn = s.lines.rstn) : Effect s (s.onLines f)
  | presented (s : State) (p : Presented) : Effect s (s.onBus fun b => { b with presented := some p })
  | take (s : State) (p : Presented) (ready : s.portReady = true) : Effect s (s.takeTransaction p)
  | guardGrant (s : State) : Effect s s.guardGrant
  | fallSilent (s : State) (i : TileNo) : Effect s (s.fallSilent i)
  | endWait (s : State) : Effect s s.endWait
  | endHoldOff (s : State) (n : SlotNo) : Effect s (s.endHoldOff n)
  | expireCue (s : State) (n : SlotNo) : Effect s (s.expireCue n)
  | endNoticeTime (s : State) (n : SlotNo) : Effect s (s.endNoticeTime n)
  | meetDwell (s : State) : Effect s s.meetDwell
  | expirePairWait (s : State) : Effect s s.expirePairWait
  | stallScan (s : State) : Effect s s.stallScan
  | takeWindowEnd (s : State) (ch : Channel) : Effect s (s.takeWindowEnd ch)
  | secondStep (s : State) : Effect s s.secondStep
  | timeoutGate (s : State) : Effect s s.timeoutGate
  | writeWord (s : State) (d : DataWord) : Effect s (s.writeWord d)
  | readWord (s : State) (w : Word) : Effect s (s.readWord w)
  | shortEnd (s : State) : Effect s s.shortEnd
  | forwardedEnd {s : State} {p : Burst} (hport : s.bus.port = some p) (forwarded : p.source = .forwarded)
      (r : TxRecord) (st : MemStatus) : Effect s (s.endForwarded r st)
  | forwardedDrop {s : State} {p : Burst} (hport : s.bus.port = some p) (forwarded : p.source = .forwarded) :
      Effect s (s.event State.freePort)
  | writeBackEnd (s : State) (st : MemStatus) : Effect s (s.ownBurstEnd .writeBack fun u p => u.endWriteBack p st)
  | wipeEnd (s : State) (st : MemStatus) : Effect s (s.ownBurstEnd .wipe fun u _ => u.endWipe st)
  | verifyEnd (s : State) (st : MemStatus) (ws : List Word) :
      Effect s (s.ownBurstEnd .verify fun u _ => u.endVerify st ws)
  | decisecond (s : State) : Effect s s.decisecond
  | abandon {s : State} (hrst : s.lines.rstn = true) : Effect s s.abandonUpstream
  | upstreamReset (s : State) : Effect s s.upstreamReset
  | upstreamRelease (s : State) : Effect s s.upstreamRelease
  | powerDown (s : State) : Effect s s.powerDown
  | powerUp (s : State) (strap : Strap) : Effect s (s.powerUp strap)
  | store {s : State} {it : Item} {v : Half} (passes : s.writeRefusal it v = none) : Effect s (s.storeItem v it)
  | takeFault (s : State) : Effect s (s.onFaults fun _ => s.faults.take.2)
  | closeSetup (s : State) : Effect s s.closeSetup
  | restart (s : State) : Effect s s.restart
  | setClock (s : State) (minute second day : Nat) : Effect s (s.setClock minute second day)
  | openGate {s : State} (running : s.running = true) (n : Nat) : Effect s (s.setGate (.opened n))
  | partnerHigh (s : State) : Effect s s.partnerHigh
  | closeGate (s : State) : Effect s s.serveCloseGate
  | wipe {s : State} (running : s.running = true) {k : BufferNo} (free : s.wipeRefused k = false) :
      Effect s (s.event fun u => (u.onBuffer k BufferRecord.toWiping).setService .inProgress .none)
  | clearTile (s : State) (i : TileNo) : Effect s (s.clearTile i)
  | addReason (s : State) (x : BlankReason) : Effect s (s.addReason x)
  | removeReason (s : State) (x : BlankReason) : Effect s (s.removeReason x)

/-- A chain of operations. -/
abbrev Effects : State → State → Prop := Relation.ReflTransGen Effect

theorem Effects.refl (s : State) : Effects s s := Relation.ReflTransGen.refl

/-- The chain's last operation. -/
theorem Effects.then {s t u : State} (h : Effects s t) (g : Effect t u) : Effects s u := h.tail g

theorem Effect.one {s t : State} (g : Effect s t) : Effects s t := Relation.ReflTransGen.single g

/-- What every operation keeps, a chain keeps. -/
theorem Effects.induct {P : State → Prop} (keeps : ∀ {s t}, Effect s t → P s → P t) {s t : State} (h : Effects s t)
    (start : P s) : P t := by
  induction h with
  | refl => exact start
  | tail _ g ih => exact keeps g ih

section
variable {s t : State}

/-! ## What is due (log 2) -/

theorem Effects.takePresented (h : Effects s t) : Effects s t.takePresented := by
  unfold State.takePresented
  split
  · split
    next ready => exact h.then (.take _ _ ready)
    next => exact h
  · exact h

theorem Effects.dropDue (h : Effects s t) (e : DueEvent) : Effects s (t.dropDue e) :=
  h.then (.aside (State.dropDue_unchanged _ (by decide) (.refl _ _)))

theorem Effects.takeDue (h : Effects s t) (e : DueEvent) : Effects s (t.takeDue e) := by
  cases e with
  | guardClaim => exact h.then (.guardGrant _)
  | takePresented => exact h.takePresented
  | silent i => exact h.then (.fallSilent _ i)
  | testWaitExpiry => exact h.then (.endWait _)
  | holdOffEnd n => exact h.then (.endHoldOff _ n)
  | cueExpiry n => exact h.then (.expireCue _ n)
  | noticeTimeEnd n => exact h.then (.endNoticeTime _ n)
  | dwellMet => exact h.then (.meetDwell _)
  | pairWaitExpiry => exact h.then (.expirePairWait _)
  | scanStall => exact h.then (.stallScan _)
  | gateWindowEnd ch => exact h.then (.takeWindowEnd _ ch)
  | secondStep => exact h.then (.secondStep _)
  | noticeGateTimeout => exact h.then (.timeoutGate _)

theorem Effects.takeIfDue (h : Effects s t) (e : DueEvent) : Effects s (t.takeIfDue e) := by
  unfold State.takeIfDue
  split
  · exact (h.dropDue e).takeDue e
  · exact h

theorem Effects.settleWithin (n : Nat) {t : State} (h : Effects s t) : Effects s (t.settleWithin n) := by
  induction n generalizing t with
  | zero => exact h
  | succ n ih =>
    unfold State.settleWithin
    split
    · exact h
    · exact ih ((h.dropDue _).takeDue _)

theorem Effects.settle (h : Effects s t) : Effects s t.settle := h.settleWithin settleBound

/-- A command's own effect follows what was due. -/
theorem Effects.act {f : State → State} (hf : ∀ u, Effects s u → Effects s (f u)) : Effects s (s.act f) := by
  unfold State.act
  split
  · exact .refl s
  · exact hf _ (Effects.refl s).settle

theorem Effects.present (h : Effects s t) (p : Presented) : Effects s (t.present p) := by
  unfold State.present
  split
  · exact h
  · exact (h.then (.presented _ p)).takePresented

/-! ## Frames (R172 to R177) -/

theorem Effects.clockFrame (h : Effects s t) : Effects s t.clockFrame :=
  h.then (.aside (State.clockFrame_unchanged (by decide) (.refl _ _)))

theorem Effects.respond (h : Effects s t) (o : LinkOutcome) (item data : Half) :
    Effects s (t.respond o item data) :=
  h.then (.aside (State.respond_unchanged _ _ _ (by decide) (.refl _ _)))

theorem Effects.setService (h : Effects s t) (st : ServiceState) (e : ServiceError) :
    Effects s (t.setService st e) :=
  h.then (.aside (State.setService_unchanged _ _ (by decide) (.refl _ _)))

theorem Effects.frameRead (h : Effects s t) (number : Half) : Effects s (t.frameRead number) :=
  h.then (.aside (State.frameRead_unchanged _ (by decide) (.refl _ _)))

theorem Effects.frameWrite (h : Effects s t) (number v : Half) : Effects s (t.frameWrite number v) := by
  unfold State.frameWrite
  split
  next it hit =>
    unfold State.writeItem
    split
    next => exact h.respond ..
    next passes => exact (h.then (.store passes)).respond ..
  next => exact h.respond ..

theorem Effects.frameTakeFault (h : Effects s t) (number : Half) : Effects s (t.frameTakeFault number) := by
  unfold State.frameTakeFault
  exact Effects.respond ((h.then (.takeFault t)).then
    (.aside (State.onLink_unchanged _ (by decide) (.refl _ _)))) ..

theorem Effects.frameAction (h : Effects s t) (f : BitVec 48) : Effects s (t.frameAction f) := by
  unfold State.frameAction
  split
  · exact h.respond ..
  split
  · exact h.frameRead _
  split
  · exact h.frameWrite ..
  split
  · exact h.frameTakeFault _
  · exact h.respond ..

theorem Effects.frameEnd (h : Effects s t) (bits : Nat) (f : BitVec 48) : Effects s (t.frameEnd bits f) := by
  unfold State.frameEnd
  split
  · exact h.respond ..
  split
  · exact h.respond ..
  · exact h.frameAction f

theorem Effects.onWires (h : Effects s t) (f : LinkWires → LinkWires) : Effects s (t.onWires f) :=
  h.then (.aside (State.onWires_unchanged _ (by decide) (.refl _ _)))

theorem Effects.linkEdge (h : Effects s t) (e : LinkEdge) : Effects s (t.linkEdge e) := by
  unfold State.linkEdge
  cases e with
  | selectFall => exact h.onWires _
  | clockRise d => exact h.onWires _
  | clockFall => exact h.onWires _
  | selectRise =>
    dsimp only [State.endFrame]
    split
    · exact (h.onWires _).frameEnd ..
    · exact h

theorem Effects.linkEdges (h : Effects s t) (es : List LinkEdge) : Effects s (t.linkEdges es) :=
  List.foldlRecOn _ _ h fun _ ht e _ => ht.linkEdge e

/-! ## The services (R181) -/

theorem Effects.takeService (h : Effects s t) (v : Service) {f : State → State} (hf : Effects s (f t)) :
    Effects s (t.takeService v f) := by
  unfold State.takeService
  split
  · exact hf
  · exact h

/-- R181: the first check that fails ends the service; where none does it acts. -/
theorem Effects.checked (h : Effects s t) {checks : List (Bool × ServiceError)} {f : State → State}
    (hf : (∀ c ∈ checks, c.1 = false) → Effects s (f t)) : Effects s (t.checked checks f) := by
  unfold State.checked
  split
  · exact h.setService ..
  next passes =>
    exact hf fun c hc => Bool.eq_false_of_not_eq_true (List.find?_eq_none.mp passes c hc)

theorem Effects.serveSetClock (h : Effects s t) : Effects s t.serveSetClock :=
  h.checked fun _ => (h.then (.setClock ..)).setService ..

theorem Effects.serveOpenGate (h : Effects s t) : Effects s t.serveOpenGate :=
  h.checked fun passes => (h.then (.openGate (by simpa using passes _ (List.mem_cons_self ..)) _)).setService ..

theorem Effects.serveWipe (h : Effects s t) : Effects s t.serveWipe := by
  unfold State.serveWipe
  refine h.checked fun passes => h.then (.wipe ?_ ?_)
  · simpa using passes _ (List.mem_cons_self ..)
  · exact passes (t.wipeRefused _, .bufferState) (by simp)

theorem Effects.serveTest (h : Effects s t) : Effects s t.serveTest :=
  h.then (.aside (State.serveTest_unchanged (by decide) (.refl _ _)))

theorem Effects.serveClearTile (h : Effects s t) : Effects s t.serveClearTile :=
  h.checked fun _ => (h.then (.clearTile ..)).setService ..

theorem Effects.serveBlank (h : Effects s t) : Effects s t.serveBlank :=
  h.checked fun _ => (h.then (.addReason ..)).setService ..

theorem Effects.serveUnblank (h : Effects s t) : Effects s t.serveUnblank :=
  h.checked fun _ => (h.then (.removeReason ..)).setService ..

theorem Effects.serveSnapshot (h : Effects s t) : Effects s t.serveSnapshot :=
  h.then (.aside (State.serveSnapshot_unchanged (by decide) (.refl _ _)))

/-! ## The commands that answer by cases -/

/-- The burst that holds the port is a forwarded one. -/
theorem forwardedBurst_eq_some {p : Burst} (h : s.forwardedBurst = some p) :
    s.bus.port = some p ∧ p.source = .forwarded := by
  unfold State.forwardedBurst at h
  split at h
  next q hq =>
    split at h
    next forwarded =>
      cases h
      exact ⟨hq, by simpa using forwarded⟩
    next => cases h
  next => cases h

theorem Effects.endForwardedBurst {u : State} (h : Effects s t) {st : MemStatus}
    (answers : t.endForwardedBurst st = .next u) : Effects s u := by
  unfold State.endForwardedBurst at answers
  split at answers
  next p r hp hr =>
    obtain ⟨hport, forwarded⟩ := forwardedBurst_eq_some hp
    split at answers
    · cases answers
      exact h.then (.forwardedDrop hport forwarded)
    · split at answers
      · cases answers
      · cases answers
        exact h.then (.forwardedEnd hport forwarded ..)
  next p hp _ =>
    obtain ⟨hport, forwarded⟩ := forwardedBurst_eq_some hp
    cases answers
    exact h.then (.forwardedDrop hport forwarded)
  next =>
    cases answers
    exact h

theorem Effects.hold (h : Effects s t) (p : Presented) : Effects s (t.hold p) := by
  unfold State.hold
  split
  · exact h
  · exact h.then (.presented _ p)

theorem Effects.transactionTake (p : Option Presented) (answers : execTransactionTake p s = .next t) :
    Effects s t := by
  unfold execTransactionTake at answers
  split at answers
  · split at answers
    · cases answers
      split
      · exact (Effects.refl s).hold _
      · exact (Effects.refl s).settle.present _
    · cases answers
  · cases answers
    exact (Effects.refl s).takeIfDue _

theorem Effects.verifyBurstEnd (st : MemStatus) (ws : List Word) (answers : execVerifyBurstEnd st ws s = .next t) :
    Effects s t := by
  unfold execVerifyBurstEnd at answers
  split at answers
  · cases answers
    exact Effects.act fun _ h => h.then (.verifyEnd ..)
  · cases answers

theorem Effects.execUpstreamReset (answers : execUpstreamReset s = .next t) : Effects s t := by
  cases answers
  split
  next hrst =>
    split
    · exact .refl s
    · exact (Effect.abandon hrst).one
  next =>
    split
    · exact (Effects.refl s).settle
    · exact (Effects.refl s).settle.then (.upstreamReset _)

theorem Effects.execUpstreamResetRelease (answers : execUpstreamResetRelease s = .next t) : Effects s t := by
  cases answers
  split
  · exact (Effect.lines (fun l => { l with fbrst := false }) rfl).one
  split
  · exact (Effects.refl s).settle.then (.upstreamRelease _)
  · exact (Effects.refl s).settle

theorem Effects.execPartnerRise (level : Bool) (answers : execPartnerRise level s = .next t) : Effects s t := by
  have lined {u : State} (h : Effects s u) : Effects s (u.onLines fun l => { l with partner := level }) :=
    h.then (.lines _ rfl)
  cases answers
  split
  · exact lined (.refl s)
  · dsimp only
    split
    · exact (lined (Effects.refl s).settle).then (.partnerHigh _)
    · exact lined (Effects.refl s).settle

theorem Effects.execPowerOnRelease (strap : Strap) (answers : execPowerOnRelease strap s = .next t) :
    Effects s t := by
  cases answers
  split
  · exact (Effect.powerUp s strap).one
  · exact .refl s

theorem Effects.execForwardedBurstEnd (st : MemStatus) (answers : execForwardedBurstEnd st s = .next t) :
    Effects s t := by
  unfold Machine.execForwardedBurstEnd at answers
  split at answers
  · cases answers
    exact .refl s
  · exact (Effects.refl s).settle.endForwardedBurst answers

/-! ## Every command -/

/-- A row that always answers. -/
theorem Effects.of_next {u : State} (h : Effects s t) (answers : (Host.Outcome.next t : Answer) = .next u) :
    Effects s u := by
  cases answers
  exact h

theorem Effects.frameRow {f : State → State} (hf : ∀ {u}, Effects s u → Effects s (f u)) :
    Effects s (s.act fun u => f u.clockFrame) := Effects.act fun _ h => hf h.clockFrame

theorem Effects.serviceRow (v : Service) {f : State → State} (hf : ∀ {u}, Effects s u → Effects s (f u)) :
    Effects s (s.act fun u => u.takeService v f) := Effects.act fun _ h => h.takeService v (hf h)

/-- A row that names what a window's end does takes that end, or nothing (log 12). -/
theorem Effects.windowRow (named : Bool) (e : DueEvent) : Effects s (if named then s.takeIfDue e else s) := by
  split
  · exact (Effects.refl s).takeIfDue e
  · exact .refl s

/-- The one inversion of a step: every command that answers is a chain of the operations. -/
theorem exec_effects {c : Instr} (answers : exec c s = .next t) : Effects s t := by
  cases c with
  | transactionTake p => exact .transactionTake p answers
  | writeDataWord w en => exact (Effects.act fun _ h => h.then (.writeWord ..)).of_next answers
  | readWordDelivery w => exact (Effects.act fun _ h => h.then (.readWord ..)).of_next answers
  | initiatorShortEnd => exact (Effects.act fun _ h => h.then (.shortEnd _)).of_next answers
  | forwardedBurstEnd st => exact .execForwardedBurstEnd st answers
  | writeBackBurstEnd st => exact (Effects.act fun _ h => h.then (.writeBackEnd ..)).of_next answers
  | wipeBurstEnd st => exact (Effects.act fun _ h => h.then (.wipeEnd ..)).of_next answers
  | verifyBurstEnd st ws => exact .verifyBurstEnd st ws answers
  | decisecondStep => exact (Effects.act fun _ h => h.then (.decisecond _)).of_next answers
  | starvationGuardClaim | silent | testWaitExpiry | holdOffEnd | cueExpiry | noticeTimeEnd | dwellMet
  | pairWaitExpiry | scanStall | gateWindowEnd | secondStep | noticeGateTimeout =>
    exact ((Effects.refl s).takeIfDue _).of_next answers
  | jump | sensorDead | sensorSaturated => exact (Effects.windowRow _ _).of_next answers
  | partnerRise level => exact .execPartnerRise level answers
  | luxPulse ch =>
    exact (Effects.act fun _ h => h.then (.aside (State.setChannel_unchanged _ _ (by decide) (.refl _ _)))).of_next
      answers
  | upstreamReset => exact .execUpstreamReset answers
  | upstreamResetRelease => exact .execUpstreamResetRelease answers
  | powerOnReset => exact (Effects.act fun _ h => h.then (.powerDown _)).of_next answers
  | powerOnRelease strap => exact .execPowerOnRelease strap answers
  | nop item => exact (Effects.frameRow fun h => h.respond .ok item 0).of_next answers
  | read item => exact (Effects.frameRow fun h => h.frameRead item).of_next answers
  | resetCauseRead => exact (Effects.frameRow fun h => h.frameRead _).of_next answers
  | write item data => exact (Effects.frameRow fun h => h.frameWrite item data).of_next answers
  | channelEnableWrite | channelSettingWrite | limitWrite | faceFaultLimitWrite | tileBlankPolicyWrite | trimWrite
  | bandFieldWrite | defaultBandWrite | unsetCeilingWrite | curvePointWrite | layoutWrite =>
    exact (Effects.frameRow fun h => h.frameWrite _ _).of_next answers
  | takeFault item => exact (Effects.frameRow fun h => h.frameTakeFault item).of_next answers
  | closeSetup => exact (Effects.serviceRow .closeSetup fun h => h.then (.closeSetup _)).of_next answers
  | restart => exact (Effects.serviceRow .restart fun h => h.then (.restart _)).of_next answers
  | setClock => exact (Effects.serviceRow .setClock fun h => h.serveSetClock).of_next answers
  | openNoticeGate => exact (Effects.serviceRow .openNoticeGate fun h => h.serveOpenGate).of_next answers
  | closeNoticeGate => exact (Effects.serviceRow .closeNoticeGate fun h => h.then (.closeGate _)).of_next answers
  | wipeBuffer => exact (Effects.serviceRow .wipeBuffer fun h => h.serveWipe).of_next answers
  | tileTest => exact (Effects.serviceRow .tileTest fun h => h.serveTest).of_next answers
  | clearTile => exact (Effects.serviceRow .clearTile fun h => h.serveClearTile).of_next answers
  | blankFace => exact (Effects.serviceRow .blankFace fun h => h.serveBlank).of_next answers
  | unblankFace => exact (Effects.serviceRow .unblankFace fun h => h.serveUnblank).of_next answers
  | captureSnapshot => exact (Effects.serviceRow .captureSnapshot fun h => h.serveSnapshot).of_next answers
  | frameCheckFailure edges last =>
    exact (Effects.act fun _ h => (h.linkEdges edges).linkEdge last).of_next answers

end

/-! ## What every operation keeps -/

section
variable {s t : State}

theorem Keeps.recomputeLight (h : Keeps s t) : Keeps s t.recomputeLight := by
  unfold State.recomputeLight
  dsimp only
  split
  · exact h
  · exact (h.onLight _).handPair ..

theorem Keeps.endWindow (h : Keeps s t) (ch : Channel) : Keeps s (t.endWindow ch) := by
  have hmoved : Keeps s (t.setChannel ch (t.windowResult ch).1) := h.onLight _
  unfold State.endWindow
  dsimp only
  split
  · exact (hmoved.offer ..).recomputeLight
  · exact hmoved.recomputeLight

theorem Keeps.takeWindowEnd (h : Keeps s t) (ch : Channel) : Keeps s (t.takeWindowEnd ch) := by
  unfold State.takeWindowEnd
  split
  · exact h.endWindow ch
  · exact h

theorem Keeps.expirePairWait (h : Keeps s t) : Keeps s t.expirePairWait := by
  unfold State.expirePairWait
  split
  · exact (h.onFace _).offer ..
  · exact h

theorem Keeps.stallScan (h : Keeps s t) : Keeps s t.stallScan := by
  unfold State.stallScan
  split
  · exact ((h.onFace _).offer ..).aside (State.stallTest_unchanged (by decide) (.refl _ _))
  · exact h

theorem Keeps.secondStep (h : Keeps s t) : Keeps s t.secondStep := by
  have hclocked : Keeps s t.tickClock := (h.onLight _).recomputeLight
  unfold State.secondStep
  dsimp only
  split
  · split
    · exact hclocked.onDue _
    · exact hclocked.onTable _
  · exact hclocked

theorem Keeps.timeoutGate (h : Keeps s t) : Keeps s t.timeoutGate := by
  unfold State.timeoutGate
  split
  · split
    · exact Keeps.event (f := State.closeGate) ((h.onTable _).onBuffer _ _)
    · exact h
  · exact h

theorem Keeps.guardGrant (h : Keeps s t) : Keeps s t.guardGrant := by
  unfold State.guardGrant
  split
  · exact h.grantOwn
  · exact h

theorem Keeps.onEntry (h : Keeps s t) (n : SlotNo) {f : QueueEntry → QueueEntry} (hf : ∀ e, (f e).kind = e.kind) :
    Keeps s (t.onEntry n f) := by
  refine h.mapQueue fun e => ?_
  split
  · exact hf e
  · rfl

theorem Keeps.endHoldOff (h : Keeps s t) (n : SlotNo) : Keeps s (t.endHoldOff n) := by
  refine Keeps.event (h.onEntry n fun e => ?_)
  split <;> rfl

theorem Keeps.expireCue (h : Keeps s t) (n : SlotNo) : Keeps s (t.expireCue n) := by
  unfold State.expireCue
  split
  · split
    · exact Keeps.event (h.endQueued ..)
    · exact h
  · exact h

theorem Keeps.endNoticeTime (h : Keeps s t) (n : SlotNo) : Keeps s (t.endNoticeTime n) := by
  unfold State.endNoticeTime
  split
  · exact Keeps.handNoticeEnd (h.onSlot n rfl)
  · exact h

theorem Keeps.meetDwell (h : Keeps s t) : Keeps s t.meetDwell := by
  unfold State.meetDwell
  split
  · exact Keeps.event (h.onFace _)
  · exact h

/-- R57 to R61: a decisecond step moves counts alone in the queue and the slots. -/
theorem Keeps.decisecond (h : Keeps s t) : Keeps s t.decisecond := by
  have hqueue := h.mapQueue (f := QueueEntry.step) fun _ => rfl
  have hslots : Keeps s (t.onCues fun c =>
      { c with queue := c.queue.map QueueEntry.step, slots := c.slots.mapIdx (SlotRecord.step t.face.showing.slot) }) := by
    refine hqueue.trans ⟨rfl, id, id, id, id, fun ⟨hnodup, hlisted⟩ => ⟨hnodup, fun n => ?_⟩⟩
    have hslot := hlisted n
    simp only [State.slot, State.onCues_cues, Table.get_mapIdx, SlotRecord.step] at hslot ⊢
    exact hslot
  unfold State.decisecond
  exact ((hslots.onFace _).onLight _).onDue _

theorem Keeps.upstreamRelease (h : Keeps s t) : Keeps s t.upstreamRelease := (h.onLines _).arbitrate

theorem Keeps.powerDown (h : Keeps s t) : Keeps s t.powerDown := by
  have hlow := ((h.onLines fun l => { l with rstn := true }).onBus (f := BusState.idle)
    fun _ => ⟨Nat.zero_le _, fun _ => rfl⟩).onDue fun _ => []
  have hlost := (hlow.dropNotedCues.onScan fun c => { c with noted := [] }).onWires LinkWires.released
  exact hlost.onFaults (f := fun f => { f with queue := [], overflow := 0 }) fun _ => ⟨Nat.zero_le _, Nat.zero_le _⟩

end

/-- R192: every invariant holds of the values after power-on. -/
theorem Keeps.powerOn (s : State) (strap : Strap) : Keeps s ((State.powerOn strap).withPending s.pending) where
  pending := rfl
  faults _ := ⟨Nat.zero_le _, Nat.zero_le _⟩
  guard _ := ⟨Nat.zero_le _, fun _ => rfl⟩
  counts _ i := by
    have htile : ((State.powerOn strap).withPending s.pending).tile i = TileRecord.powerOn := Table.get_fill ..
    rw [htile]
    decide
  queue _ := ⟨Nat.zero_le _, fun _ h => by cases h⟩
  list _ := by
    refine ⟨List.nodup_nil, fun n => ?_⟩
    have hslot : ((State.powerOn strap).withPending s.pending).slot n = SlotRecord.powerOn := Table.get_fill ..
    have hlist : ((State.powerOn strap).withPending s.pending).cues.writeBack = [] := rfl
    rw [hslot, hlist]
    simp [SlotRecord.powerOn]

section
variable {s t : State}

theorem Keeps.powerUp (s : State) (strap : Strap) : Keeps s (s.powerUp strap) :=
  (((Keeps.powerOn s strap).onLines _).onBus id).arbitrate

/-- R32, R67, R125: RESTART empties the queue and the list, and every slot is unlisted. -/
theorem Keeps.restart (h : Keeps s t) : Keeps s t.restart := by
  have hpath := (h.aside (State.withGovernor_unchanged .setup (by decide) (.refl _ _))).onBus
    (f := BusState.restarted) fun _ => ⟨Nat.zero_le _, fun _ => rfl⟩
  have htable := hpath.onTable fun _ => BufferTable.restarted
  have hcleared := htable.trans (u := ((((t.withGovernor .setup).onBus BusState.restarted).onTable
      fun _ => BufferTable.restarted).onCues CueUnit.restarted))
    ⟨rfl, id, id, id, fun _ => ⟨Nat.zero_le _, fun _ h => by cases h⟩, fun _ => ⟨List.nodup_nil, fun n => by
      simp [State.slot, CueUnit.restarted, SlotRecord.powerOn]⟩⟩
  have hface := hcleared.onFace fun _ => ShowUnit.powerOn
  have hdark := hface.ofTiles (State.onTiles_unchanged TileTable.restarted (by decide) (.refl _ _)) fun i _ => by
    simp [State.tile, TileTable.restarted, TileRecord.restarted, TileScan.powerOn, TileCounts]
  exact (((hdark.onScan _).onFaults (f := FaultUnit.restarted) id).onLink _).arbitrate

theorem Keeps.writeOperating (h : Keeps s t) (i : Fin 36) (v : Half) : Keeps s (t.writeOperating i v) := by
  have hstored (j : Fin 36) : Keeps s (t.storeOperating j v) := h.onSettings _
  unfold State.writeOperating
  split
  case h_1 | h_2 => exact ((hstored _).onLight _).recomputeLight
  case h_13 | h_14 => exact (hstored i).evaluateTiles
  case h_15 => exact (hstored 22).retargetAll
  case h_16 => exact (hstored 23).faceLimitCheck
  case h_21 => exact hstored i
  all_goals exact (hstored i).recomputeLight

theorem Keeps.writeLayout (h : Keeps s t) (i : Fin 15) (v : Half) : Keeps s (t.writeLayout i v) := by
  unfold State.writeLayout
  dsimp only
  split
  · exact (h.onSettings _).retargetAll
  · exact h.onSettings _

theorem Keeps.storeItem (h : Keeps s t) (v : Half) (it : Item) : Keeps s (t.storeItem v it) := by
  unfold State.storeItem
  cases it
  case layout i => exact h.writeLayout i v
  case operating i => exact h.writeOperating i v
  case curve p f => exact (h.onSettings _).recomputeLight
  case band b f => exact (h.onSettings _).recomputeLight
  case trim i => exact h.setTrim i _
  case param | call | tileSelect => exact h.onLink _
  all_goals exact h

theorem Keeps.closeSetup (h : Keeps s t) : Keeps s t.closeSetup := by
  unfold State.closeSetup
  split
  · exact h.setService ..
  · refine Keeps.event ?_
    unfold State.validateLayout
    dsimp only
    split
    · refine Keeps.setService (Keeps.retargetAll (Keeps.onFace ?_ _)) ..
      exact (h.onSettings _).aside (State.withGovernor_unchanged .running (by decide) (.refl _ _))
    · exact (h.onSettings _).setService ..

end

theorem Effect.keeps {s t : State} (e : Effect s t) : Keeps s t := by
  have h := Keeps.refl s
  cases e with
  | aside frame => exact h.aside (frame.mono (by decide))
  | lines f => exact h.onLines f
  | presented => exact h.onBus id
  | take p => exact h.takeTransaction _
  | guardGrant => exact h.guardGrant
  | fallSilent i => exact h.fallSilent i
  | endWait => exact h.endWait
  | endHoldOff n => exact h.endHoldOff n
  | expireCue n => exact h.expireCue n
  | endNoticeTime n => exact h.endNoticeTime n
  | meetDwell => exact h.meetDwell
  | expirePairWait => exact h.expirePairWait
  | stallScan => exact h.stallScan
  | takeWindowEnd ch => exact h.takeWindowEnd ch
  | secondStep => exact h.secondStep
  | timeoutGate => exact h.timeoutGate
  | writeWord d => exact h.writeWord d
  | readWord w => exact h.readWord w
  | shortEnd => exact h.shortEnd
  | forwardedEnd _ _ r st => exact h.endForwarded r st
  | forwardedDrop => exact Keeps.event h.freePort
  | writeBackEnd st => exact h.ownBurstEnd _ fun _ p hu => hu.endWriteBack p st
  | wipeEnd st => exact h.ownBurstEnd _ fun _ _ hu => hu.endWipe st
  | verifyEnd st ws => exact h.ownBurstEnd _ fun _ _ hu => hu.endVerify st ws
  | decisecond => exact h.decisecond
  | abandon => exact h.abandonUpstream
  | upstreamReset => exact h.upstreamReset
  | upstreamRelease => exact h.upstreamRelease
  | powerDown => exact h.powerDown
  | powerUp strap => exact Keeps.powerUp s strap
  | store => exact h.storeItem _ _
  | takeFault => exact h.onFaults FaultUnit.take_bounded
  | closeSetup => exact h.closeSetup
  | restart => exact h.restart
  | setClock => exact (h.onLight _).recomputeLight
  | openGate => exact h.onTable _
  | partnerHigh => exact h.aside (State.partnerHigh_unchanged (by decide) (.refl _ _))
  | closeGate => exact Keeps.event (((h.onTable _).onBuffer _ _).setService ..)
  | wipe => exact Keeps.event ((h.onBuffer _ _).setService ..)
  | clearTile i => exact h.clearTile i
  | addReason x => exact h.addReason x
  | removeReason x => exact h.removeReason x

theorem exec_keeps {c : Instr} {s t : State} (answers : exec c s = .next t) : Keeps s t :=
  (exec_effects answers).induct (P := Keeps s) (fun e h => h.trans e.keeps) (Keeps.refl s)

/-- A step runs the front command with the queue's rest, or idles. -/
theorem step_cases {s t : State} (hstep : step s = .next t) :
    t = s ∨ ∃ c rest, s.pending = c :: rest ∧ exec c (s.withPending rest) = .next t := by
  unfold step at hstep
  split at hstep
  next =>
    cases hstep
    exact .inl rfl
  next c rest hpending => exact .inr ⟨c, rest, hpending, hstep⟩

/-- What a step keeps of the invariants that do not read the pending commands. -/
theorem step_keeps {s t : State} (hstep : step s = .next t) :
    (FaultQueueBounded s → FaultQueueBounded t) ∧ (GuardBounded s → GuardBounded t) ∧
      (TileCountsBounded s → TileCountsBounded t) ∧ (CueQueueOrdered s → CueQueueOrdered t) ∧
      (WriteBackListed s → WriteBackListed t) := by
  rcases step_cases hstep with rfl | ⟨c, rest, _, answers⟩
  · exact ⟨id, id, id, id, id⟩
  · have h := exec_keeps answers
    exact ⟨h.faults, h.guard, h.counts, h.queue, h.list⟩

/-- Settles O4: three of the invariants that every operation keeps. -/
theorem countsStayInRange : Obligations.CountsStayInRange := by
  intro s t hfaults hguard hcounts hstep
  obtain ⟨keepsFaults, keepsGuard, keepsCounts, _⟩ := step_keeps hstep
  exact ⟨keepsFaults hfaults, keepsGuard hguard, keepsCounts hcounts⟩

/-- Settles O5: cues leave the queue anywhere, and join it only where their checks have passed. -/
theorem cueQueueStaysOrdered : Obligations.CueQueueStaysOrdered := by
  intro s t h hstep
  obtain ⟨_, _, _, keepsQueue, _⟩ := step_keeps hstep
  exact keepsQueue h

/-- Settles O6: a slot joins the list where it is not listed, and its flag falls as it is granted. -/
theorem writeBackListStaysExact : Obligations.WriteBackListStaysExact := by
  intro s t h hstep
  obtain ⟨_, _, _, _, keepsList⟩ := step_keeps hstep
  exact keepsList h

/-- Settles O1: the front command runs on the rest, and no operation writes the pending commands. -/
theorem stepRunsFrontCommand : Obligations.StepRunsFrontCommand := by
  refine ⟨fun c rest s h => ?_, fun c s t answers => (exec_keeps answers).pending, fun s h => ?_⟩
  · unfold step
    rw [h]
  · unfold step
    rw [h]

end Sys2Proof.Safety
end

section
/-! SUPPORT. The pair lines (R80): SWAPRDY is settled at the end of every event, and no operation outside one
moves what the handshake reads. -/

namespace Sys2Proof.Safety

open Sys2Proof.Machine

/-- What the handshake reads stands: the strap, the governor, SWAPRDY and dwell, the queue, the STAGED buffers. -/
structure PairSame (s t : State) : Prop where
  strap : t.settings.pairsel = s.settings.pairsel
  governor : t.governor = s.governor
  ready : t.face.swapReady = s.face.swapReady
  dwell : t.face.dwell = .met ↔ s.face.dwell = .met
  queue : t.cues.queue = s.cues.queue
  staged : ∀ k, t.bufferState k = .staged ↔ s.bufferState k = .staged

/-- The blocks that the handshake does not read. -/
def unpaired : List Block := [.pending, .due, .lines, .bus, .light, .tiles, .scan, .faults, .test, .wires, .link]

section
variable {s t u : State}

theorem PairSame.trans (h : PairSame s t) (g : PairSame t u) : PairSame s u where
  strap := g.strap.trans h.strap
  governor := g.governor.trans h.governor
  ready := g.ready.trans h.ready
  dwell := g.dwell.trans h.dwell
  queue := g.queue.trans h.queue
  staged k := (g.staged k).trans (h.staged k)

theorem PairSame.of_unchanged (frame : Unchanged unpaired s t) : PairSame s t := by
  have htable : t.table = s.table := frame.agree .table (by decide)
  have hcues : t.cues = s.cues := frame.agree .cues (by decide)
  have hface : t.face = s.face := frame.agree .face (by decide)
  have hsettings : t.settings = s.settings := frame.agree .settings (by decide)
  exact ⟨by rw [hsettings], frame.agree .governor (by decide), by rw [hface], by rw [hface], by rw [hcues],
    fun k => by rw [State.bufferState, State.bufferState, htable]⟩

theorem PairSame.refl (s : State) : PairSame s s := .of_unchanged (.refl _ s)

/-- The engines' and the arbiter's part of what follows an event leaves the handshake's inputs alone. -/
theorem PairSame.of_follows (h : Follows s t) (frame : Unchanged [.due, .bus, .table, .cues] s t) : PairSame s t where
  strap := by rw [frame.agree .settings (by decide)]
  governor := frame.agree .governor (by decide)
  ready := by rw [frame.agree .face (by decide)]
  dwell := by rw [frame.agree .face (by decide)]
  queue := h.ring.2.1
  staged k := by rw [State.bufferState, State.bufferState, ← h.buffers k]

theorem PairSame.prepare (s : State) : PairSame s s.prepare :=
  .of_follows (prepare_follows s) (State.prepare_unchanged (by decide) (.refl _ _))

theorem PairSame.arbitrate (s : State) : PairSame s s.arbitrate :=
  .of_follows (arbitrate_follows s) (State.arbitrate_unchanged (by decide) (.refl _ _))

/-- A head is eligible by its hold-off and the state of its buffer alone. -/
theorem eligible_congr (h : ∀ k, t.bufferState k = .staged ↔ s.bufferState k = .staged) (e : QueueEntry) :
    t.eligible e = s.eligible e := by
  have hstaged (k : BufferNo) : (t.bufferState k == .staged) = (s.bufferState k == .staged) := by
    simp [h k]
  simp only [State.eligible, hstaged]

theorem PairSame.wanted (h : PairSame s t) : t.handshakeWanted = s.handshakeWanted := by
  have hdwell : (t.face.dwell == .met) = (s.face.dwell == .met) := by simp [h.dwell]
  simp only [State.handshakeWanted, State.running, State.head, h.strap, h.governor, hdwell, h.queue,
    eligible_congr h.staged]

theorem SwapReadyWanted.of_same (h : SwapReadyWanted s) (same : PairSame s t) : SwapReadyWanted t := by
  rw [SwapReadyWanted, same.ready, same.wanted]
  exact h

theorem SwapReadyWanted.of_unchanged (h : SwapReadyWanted s) (frame : Unchanged unpaired s t) : SwapReadyWanted t :=
  h.of_same (.of_unchanged frame)

/-! ## The settling -/

/-- Of the Show unit the handshake's conditions read the dwell timer alone. -/
theorem handshakeWanted_onFace {f : ShowUnit → ShowUnit} (hf : (f s.face).dwell = s.face.dwell) :
    (s.onFace f).handshakeWanted = s.handshakeWanted := by
  simp only [State.handshakeWanted, State.running, State.head, State.eligible, State.bufferState,
    State.onFace_settings, State.onFace_governor, State.onFace_face, State.onFace_cues, State.onFace_table, hf]

/-- A handshake that starts raises SWAPRDY under its conditions. -/
theorem startPair_wanted (partner : Bool) (wait : Nat) (wanted : s.handshakeWanted = true) :
    SwapReadyWanted ((s.dropDue .pairWaitExpiry).onFace fun f => f.startPair partner wait) := by
  have hstands : ((s.dropDue .pairWaitExpiry).onFace fun f => f.startPair partner wait).handshakeWanted =
      s.handshakeWanted := handshakeWanted_onFace rfl
  rw [SwapReadyWanted, hstands, wanted]
  rfl

/-- R80: the settling of the pair lines leaves SWAPRDY high exactly under the handshake's conditions. -/
theorem settlePair_wanted (s : State) (before : Option SlotNo) : SwapReadyWanted (s.settlePair before) := by
  unfold State.settlePair
  by_cases ends : (s.face.swapReady && (!s.handshakeWanted || s.headSlot != before)) = true
  · have hdropped : (s.onFace ShowUnit.dropPair).handshakeWanted = s.handshakeWanted := handshakeWanted_onFace rfl
    simp only [ends, if_true, hdropped]
    split
    next starts => exact startPair_wanted _ _ (hdropped.trans (Bool.and_eq_true_iff.mp starts).2)
    next stands =>
      rw [SwapReadyWanted, hdropped]
      simpa [ShowUnit.dropPair] using stands
  · simp only [ends, Bool.false_eq_true, if_false]
    split
    next starts => exact startPair_wanted _ _ (Bool.and_eq_true_iff.mp starts).2
    next stands =>
      rw [SwapReadyWanted]
      cases hready : s.face.swapReady <;> cases hwanted : s.handshakeWanted <;> simp_all

theorem SwapReadyWanted.prepare (h : SwapReadyWanted s) : SwapReadyWanted s.prepare := h.of_same (.prepare s)

theorem SwapReadyWanted.arbitrate (h : SwapReadyWanted s) : SwapReadyWanted s.arbitrate := h.of_same (.arbitrate s)

/-- Whatever the event, what follows it settles the pair lines. -/
theorem SwapReadyWanted.event (f : State → State) : SwapReadyWanted (s.event f) :=
  (settlePair_wanted _ _).prepare.arbitrate

/-! ## The operations outside an event -/

/-- A refresh start settles the pair lines after its decision. -/
theorem SwapReadyWanted.refreshStart (s : State) : SwapReadyWanted s.refreshStart := by
  have hshown : SwapReadyWanted s.showRefreshStart := settlePair_wanted _ _
  refine hshown.of_unchanged (t := s.refreshStart) ?_
  unfold State.refreshStart
  exact State.addDuesFirst_unchanged _ (by decide) <| State.testStep_unchanged (by decide) <|
    State.silenceSteps_unchanged (by decide) <| State.judgeHeldReports_unchanged (by decide) <|
    State.closeRefresh_unchanged (by decide) <| State.rampAll_unchanged (by decide) <|
    State.onBus_unchanged _ (by decide) <| .refl _ _

/-- R25: a write that fills a FREE buffer stages none. -/
theorem PairSame.onBuffer (s : State) (k : BufferNo) {f : BufferRecord → BufferRecord}
    (hf : ∀ r, (f r).state = .staged ↔ r.state = .staged) : PairSame s (s.onBuffer k f) := by
  refine ⟨rfl, rfl, rfl, Iff.rfl, rfl, fun j => ?_⟩
  rw [State.bufferState, State.onBuffer, State.onTable_table, Table.get_modify]
  split
  next e => rw [e]; exact hf _
  next => exact Iff.rfl

theorem BufferRecord.filled_staged (r : BufferRecord) : r.filled.state = .staged ↔ r.state = .staged := by
  unfold BufferRecord.filled
  split
  next free => simp_all
  next => exact Iff.rfl

theorem PairSame.onBuffers (s : State) (ks : List BufferNo) {f : BufferRecord → BufferRecord}
    (hf : ∀ r, (f r).state = .staged ↔ r.state = .staged) : PairSame s (s.onBuffers ks f) :=
  List.foldlRecOn (motive := PairSame s) _ _ (.refl s) fun t ht k _ => ht.trans (.onBuffer t k hf)

theorem PairSame.tellBuffers (s : State) (r : TxRecord) : PairSame s (s.tellBuffers r) := by
  unfold State.tellBuffers
  split
  · dsimp only
    split
    · exact .onBuffers s _ fun _ => Iff.rfl
    · exact .onBuffers s _ BufferRecord.filled_staged
  · exact .refl s

theorem SwapReadyWanted.enact (h : SwapReadyWanted s) (r : TxRecord) : SwapReadyWanted (s.enact r) := by
  have htold : SwapReadyWanted ((s.onBus fun b => { b with upstream := some r, presented := none }).tellBuffers r) :=
    SwapReadyWanted.of_same (s := s.onBus fun b => { b with upstream := some r, presented := none }) h (.tellBuffers _ r)
  unfold State.enact
  dsimp only
  split
  · exact htold.of_unchanged (State.onBus_unchanged _ (by decide) (.refl _ _))
  split
  · exact (htold.of_unchanged (State.complete_unchanged .refused (by decide) (.refl _ _))).arbitrate
  · exact htold.arbitrate

theorem SwapReadyWanted.takeTransaction (h : SwapReadyWanted s) (p : Presented) :
    SwapReadyWanted (s.takeTransaction p) := by
  unfold State.takeTransaction
  refine SwapReadyWanted.enact (SwapReadyWanted.prepare ?_) _
  split
  · exact .refreshStart s
  · exact h

/-- A change of the Cue unit that leaves the queue. -/
theorem PairSame.onCues (s : State) {f : CueUnit → CueUnit} (hf : (f s.cues).queue = s.cues.queue) :
    PairSame s (s.onCues f) := ⟨rfl, rfl, rfl, Iff.rfl, hf, fun _ => Iff.rfl⟩

/-- A change of the Show unit that leaves SWAPRDY and whether dwell is MET. -/
theorem PairSame.onFace (s : State) {f : ShowUnit → ShowUnit} (hready : (f s.face).swapReady = s.face.swapReady)
    (hdwell : (f s.face).dwell = .met ↔ s.face.dwell = .met) : PairSame s (s.onFace f) :=
  ⟨rfl, rfl, hready, hdwell, rfl, fun _ => Iff.rfl⟩

theorem SwapReadyWanted.guardGrant (h : SwapReadyWanted s) : SwapReadyWanted s.guardGrant := by
  unfold State.guardGrant
  split
  next free =>
    have hport : s.bus.port = none := by
      simp only [Bool.and_eq_true, Option.isNone_iff_eq_none] at free
      exact free.1
    exact h.of_same (.of_follows (grantOwn_follows s hport) (State.grantOwn_unchanged (by decide) (.refl _ _)))
  next => exact h

theorem SwapReadyWanted.endNoticeTime (h : SwapReadyWanted s) (n : SlotNo) : SwapReadyWanted (s.endNoticeTime n) := by
  unfold State.endNoticeTime
  split
  · refine h.of_same ((PairSame.onCues s (f := fun c => { c with
      slots := c.slots.modify n fun r => { r with noticeTime := some 0 } }) rfl).trans ?_)
    unfold State.handNoticeEnd
    split
    · exact .onFace _ rfl Iff.rfl
    · exact .refl _
  · exact h

theorem SwapReadyWanted.takeCueWord (h : SwapReadyWanted s) (n : SlotNo) (word : Nat) (d : DataWord) :
    SwapReadyWanted (s.takeCueWord n word d) := by
  unfold State.takeCueWord
  split
  · exact h.of_same (.onCues s rfl)
  split
  · exact h.of_same (.onCues s rfl)
  · exact h

theorem SwapReadyWanted.complete (h : SwapReadyWanted s) (st : Completion) : SwapReadyWanted (s.complete st) :=
  h.of_unchanged (State.complete_unchanged st (by decide) (.refl _ _))

theorem SwapReadyWanted.writeWord (h : SwapReadyWanted s) (d : DataWord) : SwapReadyWanted (s.writeWord d) := by
  have handed (r : TxRecord) : SwapReadyWanted (s.handWord r d) := by
    unfold State.handWord
    dsimp only
    split
    · exact h.takeCueWord ..
    · exact h.of_unchanged (State.takeReportWord_unchanged _ _ _ (by decide) (.refl _ _))
    · exact h
  unfold State.writeWord
  split
  next r hr =>
    split
    · have htaken : SwapReadyWanted ((s.handWord r d).onBus fun b => b.takeWord r d) :=
        (handed r).of_unchanged (State.onBus_unchanged _ (by decide) (.refl _ _))
      unfold State.finishRefused
      split
      · exact (htaken.complete _).arbitrate
      · exact htaken
    · exact h
  next => exact h

theorem SwapReadyWanted.readWord (h : SwapReadyWanted s) (w : Word) : SwapReadyWanted (s.readWord w) := by
  unfold State.readWord
  split
  next r hr =>
    split
    · have hdelivered : SwapReadyWanted (s.deliverWord r w) :=
        h.of_unchanged (State.deliverWord_unchanged _ _ (by decide) (.refl _ _))
      unfold State.finishAnswer
      split
      · exact (hdelivered.complete _).arbitrate
      · exact hdelivered
    · exact h
  next => exact h

theorem SwapReadyWanted.shortEnd (h : SwapReadyWanted s) : SwapReadyWanted s.shortEnd := by
  unfold State.shortEnd
  split
  next r hr =>
    split
    · split
      case h_4 | h_5 => exact (h.complete _).arbitrate
      all_goals exact h.of_unchanged (State.endForwardedShort_unchanged _ (by decide) (.refl _ _))
    · exact h
  next => exact h

theorem SwapReadyWanted.ownBurstEnd (h : SwapReadyWanted s) (e : Engine) (f : State → Burst → State) :
    SwapReadyWanted (s.ownBurstEnd e f) := by
  unfold State.ownBurstEnd
  split
  · exact h
  · exact .event _

/-- R57, R72: a decisecond step lets no hold-off reach 0 and no dwell become MET. -/
theorem SwapReadyWanted.decisecond (h : SwapReadyWanted s) : SwapReadyWanted s.decisecond := by
  have frame : Unchanged [.due, .cues, .face, .light] s s.decisecond :=
    State.decisecond_unchanged (by decide) (.refl _ _)
  have htable : s.decisecond.table = s.table := frame.agree .table (by decide)
  have hqueue : s.decisecond.cues.queue = s.cues.queue.map QueueEntry.step := rfl
  have hdwell : (s.decisecond.face.dwell == .met) = (s.face.dwell == .met) := by
    have hstep : s.decisecond.face.dwell = s.face.dwell.step := rfl
    rw [hstep]
    cases s.face.dwell <;> rfl
  have heligible (e : QueueEntry) : s.decisecond.eligible e.step = s.eligible e := by
    have hholdOff : (countDown e.holdOff == 0) = (e.holdOff == 0) := by
      unfold countDown
      split
      · rfl
      · simp only [Bool.beq_eq_decide_eq, decide_eq_decide]
        omega
    simp only [State.eligible, QueueEntry.step, hholdOff, State.bufferState, htable]
  have hwanted : s.decisecond.handshakeWanted = s.handshakeWanted := by
    have hsettings : s.decisecond.settings = s.settings := frame.agree .settings (by decide)
    have hgovernor : s.decisecond.governor = s.governor := frame.agree .governor (by decide)
    simp only [State.handshakeWanted, State.running, State.head, hsettings, hgovernor, hdwell, hqueue, List.head?_map]
    cases s.cues.queue.head? with
    | none => rfl
    | some e => simp only [Option.map_some, heligible]; rfl
  rw [SwapReadyWanted, hwanted]
  exact h

/-! ## Settings and the governor -/

/-- R187: the strap is read at power-on alone. -/
theorem SwapReadyWanted.onSettings (h : SwapReadyWanted s) {f : Settings → Settings}
    (hf : (f s.settings).pairsel = s.settings.pairsel) (frame : Unchanged unpaired (s.onSettings f) t) :
    SwapReadyWanted t :=
  have same : PairSame s (s.onSettings f) := ⟨hf, rfl, rfl, Iff.rfl, rfl, fun _ => Iff.rfl⟩
  (h.of_same same).of_unchanged frame

theorem SwapReadyWanted.writeOperating (h : SwapReadyWanted s) (i : Fin 36) (v : Half) :
    SwapReadyWanted (s.writeOperating i v) := by
  have hstored (j : Fin 36) (u : State) (frame : Unchanged unpaired (s.storeOperating j v) u) : SwapReadyWanted u :=
    h.onSettings rfl frame
  unfold State.writeOperating
  split
  case h_1 | h_2 =>
    exact hstored _ _ (State.recomputeLight_unchanged (by decide) (State.setChannel_unchanged _ _ (by decide) (.refl _ _)))
  case h_13 | h_14 => exact hstored i _ (State.evaluateTiles_unchanged (by decide) (.refl _ _))
  case h_15 => exact hstored 22 _ (State.retargetAll_unchanged (by decide) (.refl _ _))
  case h_16 => exact hstored 23 _ (State.faceLimitCheck_unchanged (by decide) (.refl _ _))
  case h_21 => exact hstored i _ (.refl _ _)
  all_goals exact hstored i _ (State.recomputeLight_unchanged (by decide) (.refl _ _))

theorem SwapReadyWanted.storeItem (h : SwapReadyWanted s) (v : Half) (it : Item) :
    SwapReadyWanted (s.storeItem v it) := by
  unfold State.storeItem
  cases it
  case layout i =>
    unfold State.writeLayout
    dsimp only
    split
    · exact h.onSettings rfl (State.retargetAll_unchanged (by decide) (.refl _ _))
    · exact h.onSettings rfl (.refl _ _)
  case operating i => exact h.writeOperating i v
  case curve p f => exact h.onSettings rfl (State.recomputeLight_unchanged (by decide) (.refl _ _))
  case band b f => exact h.onSettings rfl (State.recomputeLight_unchanged (by decide) (.refl _ _))
  case trim i => exact h.of_unchanged (State.setTrim_unchanged _ _ (by decide) (.refl _ _))
  case param | call | tileSelect => exact h.of_unchanged (State.onLink_unchanged _ (by decide) (.refl _ _))
  all_goals exact h

/-- In SETUP no handshake is wanted. -/
theorem SwapReadyWanted.of_setup (hsetup : s.governor = .setup) (hready : s.face.swapReady = false) :
    SwapReadyWanted s := by
  rw [SwapReadyWanted, hready]
  simp [State.handshakeWanted, State.running, hsetup]

theorem SwapReadyWanted.restart (s : State) : SwapReadyWanted s.restart := by
  unfold State.restart
  exact SwapReadyWanted.arbitrate (.of_setup rfl rfl)

theorem SwapReadyWanted.powerUp (s : State) (strap : Strap) : SwapReadyWanted (s.powerUp strap) := by
  unfold State.powerUp
  exact SwapReadyWanted.arbitrate (.of_setup rfl rfl)

theorem SwapReadyWanted.powerDown (h : SwapReadyWanted s) : SwapReadyWanted s.powerDown :=
  have hnoted : PairSame s (s.onCues fun c => { c with noted := [] }) := .onCues s rfl
  (h.of_same hnoted).of_same ⟨rfl, rfl, rfl, Iff.rfl, rfl, fun _ => Iff.rfl⟩

end

theorem Effect.swapReady {s t : State} (e : Effect s t) (h : SwapReadyWanted s) : SwapReadyWanted t := by
  cases e with
  | aside frame => exact h.of_unchanged (frame.mono (by decide))
  | lines f => exact h.of_unchanged (State.onLines_unchanged f (by decide) (.refl _ _))
  | presented => exact h.of_unchanged (State.onBus_unchanged _ (by decide) (.refl _ _))
  | take p => exact h.takeTransaction _
  | guardGrant => exact h.guardGrant
  | fallSilent i => exact h.of_unchanged (State.fallSilent_unchanged i (by decide) (.refl _ _))
  | endWait => exact h.of_unchanged (State.endWait_unchanged (by decide) (.refl _ _))
  | endHoldOff n => exact .event _
  | expireCue n =>
    unfold State.expireCue
    split
    · split
      · exact .event _
      · exact h
    · exact h
  | endNoticeTime n => exact h.endNoticeTime n
  | meetDwell =>
    unfold State.meetDwell
    split
    · exact .event _
    · exact h
  | expirePairWait =>
    unfold State.expirePairWait
    split
    · exact (h.of_same (.onFace s (f := fun f => { f with pairWait := .expired }) rfl Iff.rfl)).of_unchanged
        (State.offer_unchanged _ _ _ (by decide) (.refl _ _))
    · exact h
  | stallScan =>
    unfold State.stallScan
    split
    · exact (h.of_same (.onFace s (f := fun f => { f with stalled := true }) rfl Iff.rfl)).of_unchanged
        (State.stallTest_unchanged (by decide) (State.offer_unchanged _ _ _ (by decide) (.refl _ _)))
    · exact h
  | takeWindowEnd ch => exact h.of_unchanged (State.takeWindowEnd_unchanged ch (by decide) (.refl _ _))
  | secondStep =>
    have hclocked : SwapReadyWanted s.tickClock := h.of_unchanged (State.tickClock_unchanged (by decide) (.refl _ _))
    unfold State.secondStep
    dsimp only
    split
    · split
      · exact hclocked.of_unchanged (State.addDue_unchanged _ (by decide) (.refl _ _))
      · exact hclocked.of_same ⟨rfl, rfl, rfl, Iff.rfl, rfl, fun _ => Iff.rfl⟩
    · exact hclocked
  | timeoutGate =>
    unfold State.timeoutGate
    split
    · split
      · exact .event _
      · exact h
    · exact h
  | writeWord d => exact h.writeWord d
  | readWord w => exact h.readWord w
  | shortEnd => exact h.shortEnd
  | forwardedEnd => exact .event _
  | forwardedDrop => exact .event _
  | writeBackEnd | wipeEnd | verifyEnd => exact h.ownBurstEnd ..
  | decisecond => exact h.decisecond
  | abandon => exact h.of_unchanged (State.abandonUpstream_unchanged (by decide) (.refl _ _))
  | upstreamReset =>
    unfold State.upstreamReset
    exact (SwapReadyWanted.event _).of_unchanged (State.onBus_unchanged _ (by decide) (.refl _ _))
  | upstreamRelease =>
    exact SwapReadyWanted.arbitrate (h.of_unchanged (State.onLines_unchanged (fun l => { l with fbrst := false })
      (by decide) (.refl _ _)))
  | powerDown => exact h.powerDown
  | powerUp strap => exact .powerUp s strap
  | store => exact h.storeItem _ _
  | takeFault => exact h.of_unchanged (State.onFaults_unchanged _ (by decide) (.refl _ _))
  | closeSetup =>
    unfold State.closeSetup
    split
    · exact h.of_unchanged (State.setService_unchanged _ _ (by decide) (.refl _ _))
    · exact .event _
  | restart => exact .restart s
  | setClock => exact h.of_unchanged (State.setClock_unchanged _ _ _ (by decide) (.refl _ _))
  | openGate => exact h.of_same ⟨rfl, rfl, rfl, Iff.rfl, rfl, fun _ => Iff.rfl⟩
  | partnerHigh =>
    unfold State.partnerHigh
    split
    · exact h.of_same (.onFace s rfl Iff.rfl)
    · exact h
  | closeGate | wipe => exact .event _
  | clearTile i => exact h.of_unchanged (State.clearTile_unchanged i (by decide) (.refl _ _))
  | addReason x => exact h.of_unchanged (State.addReason_unchanged x (by decide) (.refl _ _))
  | removeReason x => exact h.of_unchanged (State.removeReason_unchanged x (by decide) (.refl _ _))

/-- Settles O7: every operation that can move the conditions is an event, which ends with the pair lines settled. -/
theorem swapReadyStaysWanted : Obligations.SwapReadyStaysWanted := by
  intro s t h hstep
  rcases step_cases hstep with rfl | ⟨c, rest, _, answers⟩
  · exact h
  · exact (exec_effects answers).induct Effect.swapReady (h : SwapReadyWanted (s.withPending rest))

end Sys2Proof.Safety
end

section
/-! SUPPORT. The engines (R15, R36, R37, R41, R42, R64): what holds of their work and of the face in the midst of an
event, for each operation that an event is made of. -/

namespace Sys2Proof.Machine

/-! ## What the operations on a slot and on the queue leave -/

section
variable (s : State)

@[simp] theorem State.listSlot_table (n : SlotNo) : (s.listSlot n).table = s.table :=
  (State.listSlot_unchanged (xs := [.cues]) n (by decide) (.refl _ s)).agree .table (by decide)

@[simp] theorem State.listSlot_face (n : SlotNo) : (s.listSlot n).face = s.face :=
  (State.listSlot_unchanged (xs := [.cues]) n (by decide) (.refl _ s)).agree .face (by decide)

@[simp] theorem State.setOutcome_table (n : SlotNo) (f : SlotRecord → SlotRecord) :
    (s.setOutcome n f).table = s.table :=
  (State.setOutcome_unchanged (xs := [.cues]) n f (by decide) (.refl _ s)).agree .table (by decide)

@[simp] theorem State.setOutcome_face (n : SlotNo) (f : SlotRecord → SlotRecord) :
    (s.setOutcome n f).face = s.face :=
  (State.setOutcome_unchanged (xs := [.cues]) n f (by decide) (.refl _ s)).agree .face (by decide)

@[simp] theorem State.closeSlot_table (n : SlotNo) (o : CueOutcome) (reason : Option Reason) :
    (s.closeSlot n o reason).table = s.table := s.setOutcome_table ..

@[simp] theorem State.closeSlot_face (n : SlotNo) (o : CueOutcome) (reason : Option Reason) :
    (s.closeSlot n o reason).face = s.face := s.setOutcome_face ..

@[simp] theorem State.setInterim_table (n : SlotNo) (o : CueOutcome) : (s.setInterim n o).table = s.table :=
  s.setOutcome_table ..

@[simp] theorem State.setInterim_face (n : SlotNo) (o : CueOutcome) : (s.setInterim n o).face = s.face :=
  s.setOutcome_face ..

@[simp] theorem State.showFirst_table (e : QueueEntry) : (s.showFirst e).table = s.table := s.setOutcome_table ..

@[simp] theorem State.showFirst_face (e : QueueEntry) : (s.showFirst e).face = s.face := s.setOutcome_face ..

@[simp] theorem State.dequeue_table (n : SlotNo) : (s.dequeue n).table = s.table := rfl

@[simp] theorem State.dequeue_face (n : SlotNo) : (s.dequeue n).face = s.face := rfl

/-! ## A buffer's state after an update -/

theorem State.onBuffer_record (k j : BufferNo) (f : BufferRecord → BufferRecord) :
    (s.onBuffer k f).table.records.get j =
      if j = k then f (s.table.records.get k) else s.table.records.get j := Table.get_modify ..

@[simp] theorem State.onBuffer_bufferState_self (k : BufferNo) (f : BufferRecord → BufferRecord) :
    (s.onBuffer k f).bufferState k = (f (s.table.records.get k)).state := by
  rw [State.bufferState, State.onBuffer_record, if_pos rfl]

theorem State.onBuffer_bufferState_of_ne {k j : BufferNo} (f : BufferRecord → BufferRecord) (h : j ≠ k) :
    (s.onBuffer k f).bufferState j = s.bufferState j := by
  rw [State.bufferState, State.onBuffer_record, if_neg h, State.bufferState]

theorem State.bufferState_congr {s t : State} (h : t.table = s.table) (k : BufferNo) :
    t.bufferState k = s.bufferState k := by rw [State.bufferState, State.bufferState, h]

end

/-! ## The bus as a request is withdrawn -/

section
variable (b : BusState)

@[simp] theorem BusState.withdrawn_port : b.withdrawn.port = b.port := by
  unfold BusState.withdrawn; split <;> rfl

@[simp] theorem BusState.withdrawn_writeBackReq : b.withdrawn.writeBackReq = b.writeBackReq := by
  unfold BusState.withdrawn; split <;> rfl

@[simp] theorem BusState.withdrawn_wipeReq : b.withdrawn.wipeReq = b.wipeReq := by
  unfold BusState.withdrawn; split <;> rfl

@[simp] theorem BusState.withdrawn_verifyReq : b.withdrawn.verifyReq = b.verifyReq := by
  unfold BusState.withdrawn; split <;> rfl

@[simp] theorem BusState.withdrawVerify_port : b.withdrawVerify.port = b.port := by
  unfold BusState.withdrawVerify; split <;> simp

@[simp] theorem BusState.withdrawVerify_writeBackReq : b.withdrawVerify.writeBackReq = b.writeBackReq := by
  unfold BusState.withdrawVerify; split <;> simp

@[simp] theorem BusState.withdrawVerify_wipeReq : b.withdrawVerify.wipeReq = b.wipeReq := by
  unfold BusState.withdrawVerify; split <;> simp

@[simp] theorem BusState.withdrawVerify_verifyReq : b.withdrawVerify.verifyReq = none := by
  unfold BusState.withdrawVerify
  split
  next => simp
  next idle => simpa using idle

/-- An update of the burst in flight that leaves its source leaves what is in flight. -/
theorem BusState.inFlight_of_map {b c : BusState} {f : Burst → Burst} (h : c.port = b.port.map f)
    (hf : ∀ p, (f p).source = p.source) (e : Engine) : c.inFlight e = b.inFlight e := by
  unfold BusState.inFlight
  rw [h]
  cases b.port with
  | none => rfl
  | some p => simp [hf p]

theorem BusState.inFlight_of_port {b c : BusState} (h : c.port = b.port) (e : Engine) :
    c.inFlight e = b.inFlight e := by
  unfold BusState.inFlight
  rw [h]

theorem BusState.inFlight_of_none {b : BusState} (h : b.port = none) (e : Engine) : b.inFlight e = false := by
  unfold BusState.inFlight
  rw [h]

theorem BusState.inFlight_iff {b : BusState} {e : Engine} :
    b.inFlight e = true ↔ ∃ p, b.port = some p ∧ p.source = .own e := by
  unfold BusState.inFlight
  cases b.port with
  | none => simp
  | some p => simp

theorem BusState.discardOwn_inFlight (e e' : Engine) : (b.discardOwn e).inFlight e' = b.inFlight e' :=
  BusState.inFlight_of_map (f := fun p => if p.source == .own e then { p with discarded := true } else p) rfl
    (fun p => by split <;> rfl) e'

end

end Sys2Proof.Machine

namespace Sys2Proof.Safety

open Sys2Proof.Machine

/-- What the engines work on and ask for: the first two and the last part of `BuffersHeld`, and `RequestsStand`. -/
structure WorkHeld (s : State) : Prop where
  sweep : ∀ k, s.table.sweeping = some k → s.bufferState k = .wiping
  verify : ∀ w, s.table.verifying = some w → s.bufferState w.buffer = .verifying
  blanks : ∀ e ∈ s.cues.queue, e.kind = .blank → e.buffer = none
  writeBackReq : s.bus.writeBackReq = none ∨
    s.bus.writeBackReq = s.cues.writeBack.head?.map (writeBackRequest s.settings.layout)
  wipeReq : s.bus.wipeReq = none ∨ s.bus.wipeReq = s.table.sweeping.map fun k =>
    wipeRequest s.settings.layout k (s.table.records.get k).progress
  verifyReq : s.bus.verifyReq = none ∨
    s.bus.verifyReq = s.table.verifying.map (verifyRequest s.settings.layout)
  writeBackBusy : s.bus.inFlight .writeBack = true → s.bus.writeBackReq = none
  wipeBusy : s.bus.inFlight .wipe = true → s.bus.wipeReq = none
  verifyBusy : s.bus.inFlight .verify = true → s.bus.verifyReq = none

/-- The buffer that shows and the one suspended stand in the states that say so. -/
structure FaceHeld (s : State) : Prop where
  showing : ∀ k n, s.face.showing = .buffer k n → s.bufferState k = .showing
  suspended : ∀ k n c, s.face.suspended = .buffer k n c → s.bufferState k = .suspended

/-- What holds in the midst of an event. -/
structure EnginesHeld (s : State) : Prop where
  work : WorkHeld s
  face : FaceHeld s

theorem enginesHeld_iff (s : State) : EnginesHeld s ↔ BuffersHeld s ∧ RequestsStand s := by
  constructor
  · rintro ⟨⟨hsweep, hverify, hblanks, hwriteBack, hwipe, hverifyReq, hb, hw, hv⟩, ⟨hshowing, hsuspended⟩⟩
    exact ⟨⟨hsweep, hverify, hshowing, hsuspended, hblanks⟩, hwriteBack, hwipe, hverifyReq, hb, hw, hv⟩
  · rintro ⟨⟨hsweep, hverify, hshowing, hsuspended, hblanks⟩, hwriteBack, hwipe, hverifyReq, hb, hw, hv⟩
    exact ⟨⟨hsweep, hverify, hblanks, hwriteBack, hwipe, hverifyReq, hb, hw, hv⟩, ⟨hshowing, hsuspended⟩⟩

/-- No engine works on the buffer. -/
structure Unworked (s : State) (k : BufferNo) : Prop where
  sweep : s.table.sweeping ≠ some k
  verify : ∀ w, s.table.verifying = some w → w.buffer ≠ k

section
variable {s t : State}

/-! ## The engines' work -/

theorem WorkHeld.of_blocks (h : WorkHeld s) (hbus : t.bus = s.bus) (htable : t.table = s.table)
    (hcues : t.cues = s.cues) (hsettings : t.settings = s.settings) : WorkHeld t := by
  obtain ⟨h1, h2, h3, h4, h5, h6, h7, h8, h9⟩ := h
  constructor <;> simp only [State.bufferState, hbus, htable, hcues, hsettings] <;> assumption

/-- The blocks that the engines' work does not read. -/
def workless : List Block := [.pending, .due, .lines, .face, .light, .tiles, .scan, .faults, .test, .wires, .link, .governor]

theorem WorkHeld.of_unchanged (h : WorkHeld s) (frame : Unchanged workless s t) : WorkHeld t :=
  h.of_blocks (frame.agree .bus (by decide)) (frame.agree .table (by decide)) (frame.agree .cues (by decide))
    (frame.agree .settings (by decide))

/-- A buffer neither WIPING nor VERIFYING is none that an engine works on. -/
theorem WorkHeld.unworked (h : WorkHeld s) {k : BufferNo} (notWiping : s.bufferState k ≠ .wiping)
    (notVerifying : s.bufferState k ≠ .verifying) : Unworked s k :=
  ⟨fun e => notWiping (h.sweep k e), fun w hw e => notVerifying (e ▸ h.verify w hw)⟩

/-- A buffer that no engine works on may change as it will. -/
theorem WorkHeld.onBuffer (h : WorkHeld s) {k : BufferNo} (apart : Unworked s k)
    (f : BufferRecord → BufferRecord) : WorkHeld (s.onBuffer k f) := by
  have other {j : BufferNo} (e : j ≠ k) : (s.onBuffer k f).table.records.get j = s.table.records.get j := by
    rw [s.onBuffer_record, if_neg e]
  have ofSweep {j : BufferNo} (hj : s.table.sweeping = some j) : j ≠ k := fun e => apart.sweep (e ▸ hj)
  refine { h with sweep := fun j hj => ?_, verify := fun w hw => ?_, wipeReq := ?_ }
  · rw [s.onBuffer_bufferState_of_ne f (ofSweep hj)]
    exact h.sweep j hj
  · rw [s.onBuffer_bufferState_of_ne f (apart.verify w hw)]
    exact h.verify w hw
  · have hwork := h.wipeReq
    cases hj : s.table.sweeping with
    | none =>
      rw [hj] at hwork
      exact hwork.imp id fun e => by rw [show (s.onBuffer k f).table.sweeping = none from hj]; exact e
    | some j =>
      rw [hj] at hwork
      refine hwork.imp id fun e => ?_
      rw [show (s.onBuffer k f).table.sweeping = some j from hj, Option.map_some, other (ofSweep hj)]
      exact e

/-- A buffer's record changes but neither its state nor how far its sweep has come. -/
theorem WorkHeld.onBuffer_same (h : WorkHeld s) (k : BufferNo) {f : BufferRecord → BufferRecord}
    (hstate : (f (s.table.records.get k)).state = (s.table.records.get k).state)
    (hprogress : (f (s.table.records.get k)).progress = (s.table.records.get k).progress) :
    WorkHeld (s.onBuffer k f) := by
  have states (j : BufferNo) : (s.onBuffer k f).bufferState j = s.bufferState j := by
    by_cases e : j = k
    · rw [e, s.onBuffer_bufferState_self]; exact hstate
    · exact s.onBuffer_bufferState_of_ne f e
  have progress (j : BufferNo) :
      ((s.onBuffer k f).table.records.get j).progress = (s.table.records.get j).progress := by
    rw [s.onBuffer_record]
    split
    next e => rw [e]; exact hprogress
    next => rfl
  refine { h with sweep := fun j hj => (states j).trans (h.sweep j hj)
                  verify := fun w hw => (states _).trans (h.verify w hw), wipeReq := ?_ }
  simp only [progress]
  exact h.wipeReq

/-- The bus moves, but no request does, and no engine's burst begins. -/
theorem WorkHeld.onBus (h : WorkHeld s) {f : BusState → BusState}
    (hwriteBack : (f s.bus).writeBackReq = s.bus.writeBackReq) (hwipe : (f s.bus).wipeReq = s.bus.wipeReq)
    (hverify : (f s.bus).verifyReq = s.bus.verifyReq)
    (hport : ∀ e, (f s.bus).inFlight e = true → s.bus.inFlight e = true) : WorkHeld (s.onBus f) :=
  { h with
    writeBackReq := by rw [State.onBus_bus, hwriteBack]; exact h.writeBackReq
    wipeReq := by rw [State.onBus_bus, hwipe]; exact h.wipeReq
    verifyReq := by rw [State.onBus_bus, hverify]; exact h.verifyReq
    writeBackBusy := fun e => by rw [State.onBus_bus, hwriteBack]; exact h.writeBackBusy (hport _ e)
    wipeBusy := fun e => by rw [State.onBus_bus, hwipe]; exact h.wipeBusy (hport _ e)
    verifyBusy := fun e => by rw [State.onBus_bus, hverify]; exact h.verifyBusy (hport _ e) }

/-- The Cue unit moves; the list's head stands wherever a request names it, and no BLANK has a buffer. -/
theorem WorkHeld.onCues (h : WorkHeld s) {f : CueUnit → CueUnit}
    (hlist : s.bus.writeBackReq = none ∨ (f s.cues).writeBack.head? = s.cues.writeBack.head?)
    (hqueue : ∀ e ∈ (f s.cues).queue, e.kind = .blank → e.buffer = none) : WorkHeld (s.onCues f) :=
  { h with
    blanks := hqueue
    writeBackReq := hlist.elim .inl fun e => by rw [State.onCues_cues, e]; exact h.writeBackReq }

/-- The Cue unit moves in neither its queue nor its list. -/
theorem WorkHeld.onCues_same (h : WorkHeld s) {f : CueUnit → CueUnit} (hqueue : (f s.cues).queue = s.cues.queue)
    (hlist : (f s.cues).writeBack = s.cues.writeBack) : WorkHeld (s.onCues f) :=
  h.onCues (.inr (by rw [hlist])) (by rw [hqueue]; exact h.blanks)

theorem WorkHeld.listSlot (h : WorkHeld s) (n : SlotNo) : WorkHeld (s.listSlot n) := by
  unfold State.listSlot
  split
  · exact h
  · refine WorkHeld.onCues (h.onCues_same (f := fun c => { c with
      slots := c.slots.modify n fun r => { r with listed := true } }) rfl rfl) ?_ h.blanks
    have hrequest := h.writeBackReq
    cases hlist : s.cues.writeBack with
    | nil =>
      rw [hlist] at hrequest
      exact .inl (hrequest.elim id id)
    | cons m rest => exact .inr (by simp [hlist])

theorem WorkHeld.onSlot (h : WorkHeld s) (n : SlotNo) (f : SlotRecord → SlotRecord) : WorkHeld (s.onSlot n f) :=
  h.onCues_same rfl rfl

theorem WorkHeld.setOutcome (h : WorkHeld s) (n : SlotNo) (f : SlotRecord → SlotRecord) :
    WorkHeld (s.setOutcome n f) := (h.onSlot n f).listSlot n

theorem WorkHeld.closeSlot (h : WorkHeld s) (n : SlotNo) (o : CueOutcome) (reason : Option Reason) :
    WorkHeld (s.closeSlot n o reason) := h.setOutcome ..

theorem WorkHeld.dequeue (h : WorkHeld s) (n : SlotNo) : WorkHeld (s.dequeue n) :=
  h.onCues (.inr rfl) fun e he => h.blanks e (List.mem_of_mem_filter he)

/-- R41, R45: with the verify's work its request goes, and a burst in flight is still the engine's. -/
theorem WorkHeld.stopVerify (h : WorkHeld s) : WorkHeld s.stopVerify := by
  have inFlight (e : Engine) : (s.bus.withdrawVerify.discardOwn .verify).inFlight e = s.bus.inFlight e := by
    rw [BusState.discardOwn_inFlight]
    exact BusState.inFlight_of_port (s.bus.withdrawVerify_port) e
  have hverifyReq : (s.bus.withdrawVerify.discardOwn .verify).verifyReq = none := s.bus.withdrawVerify_verifyReq
  unfold State.stopVerify
  refine { sweep := h.sweep, verify := (fun _ hw => nomatch hw), blanks := h.blanks,
           writeBackReq := ?_, wipeReq := ?_, verifyReq := .inl hverifyReq,
           writeBackBusy := fun e => ?_, wipeBusy := fun e => ?_, verifyBusy := fun _ => hverifyReq }
  · exact s.bus.withdrawVerify_writeBackReq ▸ h.writeBackReq
  · exact s.bus.withdrawVerify_wipeReq ▸ h.wipeReq
  · exact s.bus.withdrawVerify_writeBackReq ▸ h.writeBackBusy ((inFlight _).symm.trans e)
  · exact s.bus.withdrawVerify_wipeReq ▸ h.wipeBusy ((inFlight _).symm.trans e)

/-- The verify engine's work changes while it has no request. -/
theorem WorkHeld.setVerify (h : WorkHeld s) (idle : s.bus.verifyReq = none) (w : Option VerifyWork)
    (hw : ∀ v, w = some v → s.bufferState v.buffer = .verifying) :
    WorkHeld (s.onTable fun t => { t with verifying := w }) :=
  { h with verify := hw, verifyReq := .inl idle }

/-- The sweep ends while the wipe engine has no request. -/
theorem WorkHeld.endSweep (h : WorkHeld s) (idle : s.bus.wipeReq = none) : WorkHeld s.endSweep :=
  { h with sweep := (fun _ hk => nomatch hk), wipeReq := .inl idle }

/-! ## The face -/

theorem FaceHeld.of_states (h : FaceHeld s) (hshowing : t.face.showing = s.face.showing)
    (hsuspended : t.face.suspended = s.face.suspended)
    (states : ∀ k, s.bufferState k = .showing ∨ s.bufferState k = .suspended → t.bufferState k = s.bufferState k) :
    FaceHeld t where
  showing k n e := by
    have hk := h.showing k n (hshowing ▸ e)
    exact (states k (.inl hk)).trans hk
  suspended k n c e := by
    have hk := h.suspended k n c (hsuspended ▸ e)
    exact (states k (.inr hk)).trans hk

theorem FaceHeld.of_blocks (h : FaceHeld s) (htable : t.table = s.table) (hface : t.face = s.face) : FaceHeld t :=
  h.of_states (by rw [hface]) (by rw [hface]) fun k _ => State.bufferState_congr htable k

/-! ## Both -/

/-- The blocks that neither part reads. -/
def engineless : List Block := [.pending, .due, .lines, .light, .tiles, .scan, .faults, .test, .wires, .link, .governor]

theorem EnginesHeld.of_blocks (h : EnginesHeld s) (hbus : t.bus = s.bus) (htable : t.table = s.table)
    (hcues : t.cues = s.cues) (hface : t.face = s.face) (hsettings : t.settings = s.settings) : EnginesHeld t :=
  ⟨h.work.of_blocks hbus htable hcues hsettings, h.face.of_blocks htable hface⟩

theorem EnginesHeld.of_unchanged (h : EnginesHeld s) (frame : Unchanged engineless s t) : EnginesHeld t :=
  h.of_blocks (frame.agree .bus (by decide)) (frame.agree .table (by decide)) (frame.agree .cues (by decide))
    (frame.agree .face (by decide)) (frame.agree .settings (by decide))

/-- A buffer that no engine works on and that neither shows nor is suspended may change as it will. -/
theorem EnginesHeld.onBuffer (h : EnginesHeld s) {k : BufferNo} (apart : Unworked s k)
    (notShowing : s.bufferState k ≠ .showing) (notSuspended : s.bufferState k ≠ .suspended)
    (f : BufferRecord → BufferRecord) : EnginesHeld (s.onBuffer k f) := by
  refine ⟨h.work.onBuffer apart f, h.face.of_states rfl rfl fun j hj => s.onBuffer_bufferState_of_ne f fun e => ?_⟩
  subst e
  exact hj.elim notShowing notSuspended

/-- The states in which no engine and not the face holds a buffer. -/
def Idle (st : BufferState) : Prop := st ≠ .wiping ∧ st ≠ .verifying ∧ st ≠ .showing ∧ st ≠ .suspended

theorem EnginesHeld.onBuffer_idle (h : EnginesHeld s) {k : BufferNo} (idle : Idle (s.bufferState k))
    (f : BufferRecord → BufferRecord) : EnginesHeld (s.onBuffer k f) := by
  obtain ⟨notWiping, notVerifying, notShowing, notSuspended⟩ := idle
  exact h.onBuffer (h.work.unworked notWiping notVerifying) notShowing notSuspended f

theorem EnginesHeld.onBuffer_same (h : EnginesHeld s) (k : BufferNo) {f : BufferRecord → BufferRecord}
    (hstate : (f (s.table.records.get k)).state = (s.table.records.get k).state)
    (hprogress : (f (s.table.records.get k)).progress = (s.table.records.get k).progress) :
    EnginesHeld (s.onBuffer k f) := by
  refine ⟨h.work.onBuffer_same k hstate hprogress, h.face.of_states rfl rfl fun j _ => ?_⟩
  by_cases e : j = k
  · rw [e, s.onBuffer_bufferState_self]; exact hstate
  · exact s.onBuffer_bufferState_of_ne f e

/-- A record is changed where its buffer stands idle, and stands elsewhere. -/
theorem EnginesHeld.onBuffer_if (h : EnginesHeld s) (k : BufferNo) {f : BufferRecord → BufferRecord}
    (hf : Idle (s.bufferState k) ∨ f (s.table.records.get k) = s.table.records.get k) :
    EnginesHeld (s.onBuffer k f) := by
  rcases hf with idle | stands
  · exact h.onBuffer_idle idle f
  · exact h.onBuffer_same k (by rw [stands]) (by rw [stands])

theorem EnginesHeld.closeSlot (h : EnginesHeld s) (n : SlotNo) (o : CueOutcome) (reason : Option Reason) :
    EnginesHeld (s.closeSlot n o reason) := ⟨h.work.closeSlot .., h.face.of_blocks (by simp) (by simp)⟩

theorem EnginesHeld.onSlot (h : EnginesHeld s) (n : SlotNo) (f : SlotRecord → SlotRecord) :
    EnginesHeld (s.onSlot n f) := ⟨h.work.onSlot .., h.face.of_blocks rfl rfl⟩

theorem EnginesHeld.dequeue (h : EnginesHeld s) (n : SlotNo) : EnginesHeld (s.dequeue n) :=
  ⟨h.work.dequeue n, h.face.of_blocks rfl rfl⟩

theorem EnginesHeld.onBus (h : EnginesHeld s) {f : BusState → BusState}
    (hwriteBack : (f s.bus).writeBackReq = s.bus.writeBackReq) (hwipe : (f s.bus).wipeReq = s.bus.wipeReq)
    (hverify : (f s.bus).verifyReq = s.bus.verifyReq)
    (hport : ∀ e, (f s.bus).inFlight e = true → s.bus.inFlight e = true) : EnginesHeld (s.onBus f) :=
  ⟨h.work.onBus hwriteBack hwipe hverify hport, h.face.of_blocks rfl rfl⟩

theorem EnginesHeld.onCues_same (h : EnginesHeld s) {f : CueUnit → CueUnit}
    (hqueue : (f s.cues).queue = s.cues.queue) (hlist : (f s.cues).writeBack = s.cues.writeBack) :
    EnginesHeld (s.onCues f) := ⟨h.work.onCues_same hqueue hlist, h.face.of_blocks rfl rfl⟩

/-- The face turns in neither what shows nor what is suspended. -/
theorem EnginesHeld.onFace (h : EnginesHeld s) {f : ShowUnit → ShowUnit}
    (hshowing : (f s.face).showing = s.face.showing) (hsuspended : (f s.face).suspended = s.face.suspended) :
    EnginesHeld (s.onFace f) :=
  ⟨h.work.of_blocks rfl rfl rfl rfl, h.face.of_states hshowing hsuspended fun _ _ => rfl⟩

/-! ## Buffers that leave a use (R28 to R31) -/

theorem EnginesHeld.stopVerify (h : EnginesHeld s) : EnginesHeld s.stopVerify :=
  ⟨h.work.stopVerify, h.face.of_states rfl rfl fun _ _ => rfl⟩

theorem EnginesHeld.abortVerify (h : EnginesHeld s) (k : BufferNo) : EnginesHeld (s.abortVerify k) := by
  unfold State.abortVerify
  split
  · exact h.stopVerify
  · exact h

/-- What the giving up of a verify leaves: every record, and another buffer's verify. -/
theorem abortVerify_records (s : State) (k : BufferNo) : (s.abortVerify k).table.records = s.table.records := by
  unfold State.abortVerify
  split <;> rfl

theorem abortVerify_apart (s : State) (k : BufferNo) {w : VerifyWork}
    (hw : (s.abortVerify k).table.verifying = some w) : w.buffer ≠ k := by
  unfold State.abortVerify at hw
  split at hw
  · cases hw
  next other =>
    intro e
    simp [State.isVerifying, hw, e] at other

theorem EnginesHeld.releaseBuffer (h : EnginesHeld s) (k : BufferNo) : EnginesHeld (s.releaseBuffer k) := by
  have haborted := h.abortVerify k
  unfold State.releaseBuffer
  by_cases verifying : (s.abortVerify k).bufferState k = .verifying
  · refine haborted.onBuffer ⟨fun e => ?_, fun _ hw => abortVerify_apart s k hw⟩ ?_ ?_ _
    · have := haborted.work.sweep k e
      rw [verifying] at this
      cases this
    · rw [verifying]; decide
    · rw [verifying]; decide
  by_cases staged : (s.abortVerify k).bufferState k = .staged
  · exact haborted.onBuffer_idle (by rw [staged, Idle]; decide) _
  · refine haborted.onBuffer_if k (.inr ?_)
    rw [State.bufferState] at verifying staged
    simp [verifying, staged]

theorem EnginesHeld.releaseEntryBuffer (h : EnginesHeld s) (e : QueueEntry) :
    EnginesHeld (s.releaseEntryBuffer e) := by
  unfold State.releaseEntryBuffer
  split
  · exact h.releaseBuffer _
  · exact h

theorem EnginesHeld.endQueued (h : EnginesHeld s) (e : QueueEntry) (o : CueOutcome) :
    EnginesHeld (s.endQueued e o) := ((h.dequeue _).closeSlot ..).releaseEntryBuffer e

theorem EnginesHeld.rejectQueued (h : EnginesHeld s) (n : SlotNo) (reason : Reason) :
    EnginesHeld (s.rejectQueued n reason) := (h.dequeue n).closeSlot ..

theorem EnginesHeld.cancelQueue (h : EnginesHeld s) : EnginesHeld s.cancelQueue :=
  List.foldlRecOn _ _ h fun _ ht e _ => ht.endQueued e _

theorem EnginesHeld.closeGate (h : EnginesHeld s) : EnginesHeld s.closeGate := by
  have hset : EnginesHeld (s.setGate .closed) := ⟨⟨h.work.sweep, h.work.verify, h.work.blanks, h.work.writeBackReq,
    h.work.wipeReq, h.work.verifyReq, h.work.writeBackBusy, h.work.wipeBusy, h.work.verifyBusy⟩,
    h.face.of_states rfl rfl fun _ _ => rfl⟩
  unfold State.closeGate
  refine hset.onBuffer_if _ ?_
  by_cases filling : s.bufferState noticeBuffer = .filling
  · exact .inl (show Idle (s.bufferState noticeBuffer) by rw [filling, Idle]; decide)
  · right
    have hrecord : ((s.setGate .closed).table.records.get noticeBuffer).state ≠ .filling := filling
    simp [hrecord]

end
end Sys2Proof.Safety
end

section
/-! SUPPORT. The engines in the midst of an event: commits, the ends of own bursts, and the Show unit's decision. -/

namespace Sys2Proof.Safety

open Sys2Proof.Machine

section
variable {s t : State}

/-! ## Commits (R51 to R54) -/

/-- R53, R55: the new entry joins; a BLANK names no buffer. -/
theorem EnginesHeld.placeCue (h : EnginesHeld s) (e : QueueEntry) (blank : e.kind = .blank → e.buffer = none) :
    EnginesHeld (s.onCues fun c => { c with queue := QueueEntry.place c.queue e }) := by
  refine ⟨h.work.onCues (.inr rfl) fun q hq => ?_, h.face.of_blocks rfl rfl⟩
  have hplaced : q = e ∨ q ∈ s.cues.queue := by
    unfold QueueEntry.place at hq
    split at hq
    · exact List.mem_cons.mp hq
    · exact (List.mem_append.mp hq).symm.imp List.mem_singleton.mp id
  rcases hplaced with rfl | hq
  · exact blank
  · exact h.work.blanks q hq

/-- R27: the buffer of an accepted cue was FILLING. -/
theorem EnginesHeld.handBuffer (h : EnginesHeld s) (e : QueueEntry)
    (filling : ∀ k, e.buffer = some k → s.bufferState k = .filling) : EnginesHeld (s.handBuffer e) := by
  unfold State.handBuffer
  split
  next k hk => exact h.onBuffer_idle (by rw [filling k hk, Idle]; decide) _
  next => exact h

theorem EnginesHeld.noticeTakesVerify (h : EnginesHeld s) (e : QueueEntry) :
    EnginesHeld (s.noticeTakesVerify e) := by
  unfold State.noticeTakesVerify
  split
  · exact h.stopVerify
  · exact h

theorem EnginesHeld.acceptCue (h : EnginesHeld s) (n : SlotNo) (kind : CueKind) (k : BufferNo) (w7 : Word)
    (filling : ∀ j, keptBuffer (some kind) k = some j → s.bufferState j = .filling) :
    EnginesHeld (s.acceptCue n kind k w7) := by
  unfold State.acceptCue
  refine EnginesHeld.noticeTakesVerify (EnginesHeld.handBuffer (EnginesHeld.placeCue (h.onSlot n _) _ ?_) _ ?_) _
  · intro blank
    simp only [State.newEntry] at blank ⊢
    rw [blank, keptBuffer]
  · exact filling

/-- R51: a cue that passes its checks finds the buffer it names FILLING. -/
theorem commitCheck_filling {kind : CueKind} {k j : BufferNo} (h : s.commitCheck (some kind) k = none)
    (names : keptBuffer (some kind) k = some j) : s.bufferState j = .filling := by
  have hbuffer (e : s.bufferChecks k = none) : s.bufferState k = .filling := by
    unfold State.bufferChecks at e
    split at e
    · cases e
    next filling => simpa using filling
  unfold State.commitCheck at h
  cases kind with
  | frame =>
    cases names
    dsimp only at h
    split at h
    · cases h
    · exact hbuffer h
  | notice =>
    cases names
    dsimp only at h
    split at h
    · cases h
    · split at h
      · cases h
      · exact hbuffer h
  | blank => cases names
  | withdraw => cases names

theorem EnginesHeld.rejectCommit (h : EnginesHeld s) (n : SlotNo) (kind : Option CueKind) (k : BufferNo) (w7 : Word)
    (reason : Reason) : EnginesHeld (s.rejectCommit n kind k w7 reason) := (h.onSlot n _).closeSlot ..

theorem EnginesHeld.handNoticeEnd (h : EnginesHeld s) : EnginesHeld s.handNoticeEnd := by
  unfold State.handNoticeEnd
  split
  · exact h.onFace rfl rfl
  · exact h

theorem EnginesHeld.acceptWithdraw (h : EnginesHeld s) (n : SlotNo) (k : BufferNo) (w7 : Word) :
    EnginesHeld (s.acceptWithdraw n k w7) := by
  unfold State.acceptWithdraw
  refine EnginesHeld.closeSlot (EnginesHeld.onSlot ?_ n _) ..
  split
  · exact h.endQueued ..
  · exact h.handNoticeEnd

theorem EnginesHeld.judgeCommit (h : EnginesHeld s) (n : SlotNo) (w7 : Word) : EnginesHeld (s.judgeCommit n w7) := by
  unfold State.judgeCommit
  dsimp only
  split
  · exact h.rejectCommit ..
  · exact h.acceptWithdraw ..
  next kind joins hcheck hkind =>
    rw [hkind] at hcheck
    exact h.acceptCue n kind _ w7 fun j => commitCheck_filling hcheck
  · exact h

theorem EnginesHeld.judgeNoted (h : EnginesHeld s) (w : NotedWord 32) : EnginesHeld (s.judgeNoted w) := by
  unfold State.judgeNoted
  split
  · exact h.judgeCommit ..
  · exact h

theorem EnginesHeld.dropNotedCues (h : EnginesHeld s) : EnginesHeld s.dropNotedCues := h.onCues_same rfl rfl

theorem EnginesHeld.judgeCommits (h : EnginesHeld s) : EnginesHeld s.judgeCommits :=
  List.foldlRecOn _ _ h.dropNotedCues fun _ ht w _ => ht.judgeNoted w

theorem EnginesHeld.handStatus (h : EnginesHeld s) (r : TxRecord) (st : MemStatus) :
    EnginesHeld (s.handStatus r st) := by
  unfold State.handStatus
  dsimp only
  split
  · split
    · exact h.judgeCommits
    · exact h.dropNotedCues
  split
  · split
    · exact h.of_unchanged (State.makeReports_unchanged (by decide) (.refl _ _))
    · exact h.of_unchanged (State.dropNotedReports_unchanged (by decide) (.refl _ _))
  · exact h

theorem EnginesHeld.freePort (h : EnginesHeld s) : EnginesHeld s.freePort :=
  h.onBus rfl rfl rfl fun _ busy => by cases busy

theorem EnginesHeld.complete (h : EnginesHeld s) (st : Completion) : EnginesHeld (s.complete st) :=
  h.onBus rfl rfl rfl fun _ => id

theorem EnginesHeld.memoryErrorRecord (h : EnginesHeld s) (r : TxRecord) (st : MemStatus) :
    EnginesHeld (s.memoryErrorRecord r st) := by
  unfold State.memoryErrorRecord
  split
  · exact (h.of_unchanged (State.offer_unchanged _ _ _ (by decide) (.refl _ _))).onBus rfl rfl rfl fun _ => id
  · exact h

/-! ## The ends of own bursts (R37, R38, R42 to R44, R65) -/

/-- R30: only a RETIRING buffer falls FREE. -/
theorem EnginesHeld.freeRetired (h : EnginesHeld s) (n : SlotNo) : EnginesHeld (s.freeRetired n) := by
  have hrecord (k : BufferNo) (held : s.bufferState k ≠ .retiring) :
      (s.freeRetired n).table.records.get k = s.table.records.get k := by
    unfold State.freeRetired
    rw [State.onTable_table, Table.get_map]
    simp only [State.bufferState] at held
    simp [held]
  have hstate (k : BufferNo) (held : s.bufferState k ≠ .retiring) :
      (s.freeRetired n).bufferState k = s.bufferState k := by rw [State.bufferState, hrecord k held, State.bufferState]
  have hsweep (k : BufferNo) (hk : s.table.sweeping = some k) : s.bufferState k ≠ .retiring := by
    rw [h.work.sweep k hk]; decide
  refine ⟨{ h.work with sweep := fun k hk => ?_, verify := fun w hw => ?_, wipeReq := ?_ },
    h.face.of_states rfl rfl fun k hk => hstate k ?_⟩
  · exact (hstate k (hsweep k hk)).trans (h.work.sweep k hk)
  · exact (hstate _ (by rw [h.work.verify w hw]; decide)).trans (h.work.verify w hw)
  · refine h.work.wipeReq.imp id fun e => ?_
    rw [show (s.freeRetired n).bus = s.bus from rfl, e]
    cases hk : s.table.sweeping with
    | none => rw [show (s.freeRetired n).table.sweeping = none from hk]; rfl
    | some k =>
      rw [show (s.freeRetired n).table.sweeping = some k from hk, Option.map_some, Option.map_some,
        hrecord k (hsweep k hk)]
      rfl
  · rcases hk with hk | hk <;> rw [hk] <;> decide

theorem EnginesHeld.emptySlot (h : EnginesHeld s) (n : SlotNo) : EnginesHeld (s.emptySlot n) :=
  (h.onSlot n _).freeRetired n

theorem EnginesHeld.offer (h : EnginesHeld s) (k : FaultKind) (tile : Option TileNo) (detail : Half) :
    EnginesHeld (s.offer k tile detail) := h.of_unchanged (State.offer_unchanged _ _ _ (by decide) (.refl _ _))

theorem EnginesHeld.endWriteBack (h : EnginesHeld s) (p : Burst) (st : MemStatus) :
    EnginesHeld (s.endWriteBack p st) := by
  unfold State.endWriteBack
  split
  next n hn =>
    have hfinal {u : State} (hu : EnginesHeld u) : EnginesHeld (if p.carriesFinal then u.emptySlot n else u) := by
      split
      · exact hu.emptySlot n
      · exact hu
    cases st with
    | ok => exact hfinal h
    | error => exact hfinal (h.offer ..)
  · exact h

/-- R37, R38: as its sweep ends a buffer leaves WIPING. -/
theorem EnginesHeld.leaveWiping (h : EnginesHeld s) (idle : s.bus.wipeReq = none) {k : BufferNo}
    (hk : s.table.sweeping = some k) (f : BufferRecord → BufferRecord) :
    EnginesHeld (s.onBuffer k f).endSweep := by
  have hwiping := h.work.sweep k hk
  have hended : EnginesHeld s.endSweep := ⟨h.work.endSweep idle, h.face.of_states rfl rfl fun _ _ => rfl⟩
  have apart : Unworked s.endSweep k :=
    ⟨fun e => (nomatch e), fun w hw e => by
      have := h.work.verify w hw
      rw [e, hwiping] at this
      cases this⟩
  exact hended.onBuffer apart (by rw [show s.endSweep.bufferState k = _ from hwiping]; decide)
    (by rw [show s.endSweep.bufferState k = _ from hwiping]; decide) f

/-- How far a sweep has come may change while the wipe engine has no request. -/
theorem EnginesHeld.onBuffer_state (h : EnginesHeld s) (idle : s.bus.wipeReq = none) (k : BufferNo)
    {f : BufferRecord → BufferRecord} (hf : (f (s.table.records.get k)).state = (s.table.records.get k).state) :
    EnginesHeld (s.onBuffer k f) := by
  have states (j : BufferNo) : (s.onBuffer k f).bufferState j = s.bufferState j := by
    by_cases e : j = k
    · rw [e, s.onBuffer_bufferState_self]; exact hf
    · exact s.onBuffer_bufferState_of_ne f e
  exact ⟨{ h.work with sweep := fun j hj => (states j).trans (h.work.sweep j hj)
                       verify := fun w hw => (states _).trans (h.work.verify w hw), wipeReq := .inl idle },
    h.face.of_states rfl rfl fun j _ => states j⟩

theorem EnginesHeld.endWipe (h : EnginesHeld s) (idle : s.bus.wipeReq = none) (st : MemStatus) :
    EnginesHeld (s.endWipe st) := by
  have hended {u v : State} (hu : EnginesHeld u.endSweep) (frame : Unchanged [.faults, .link] u v) :
      EnginesHeld v.endSweep :=
    hu.of_blocks (frame.agree .bus (by decide)) (by
      rw [State.endSweep, State.endSweep, State.onTable_table, State.onTable_table, frame.agree .table (by decide)])
      (frame.agree .cues (by decide)) (frame.agree .face (by decide)) (frame.agree .settings (by decide))
  unfold State.endWipe
  split
  · exact h
  next k hk =>
    split
    · exact hended (h.leaveWiping idle hk _)
        (State.endWipeService_unchanged _ _ _ (by decide) (State.offer_unchanged _ _ _ (by decide) (.refl _ _)))
    · dsimp only
      split
      · exact hended (h.leaveWiping idle hk _) (State.endWipeService_unchanged _ _ _ (by decide) (.refl _ _))
      · exact h.onBuffer_state idle k rfl

/-! ### A verify (R42 to R44) -/

/-- As its work ends the verify engine leaves the buffer, which no engine then works on. -/
theorem EnginesHeld.endVerifyWork (h : EnginesHeld s) (idle : s.bus.verifyReq = none) :
    EnginesHeld (s.onTable fun t => { t with verifying := none }) :=
  ⟨h.work.setVerify idle none nofun, h.face.of_states rfl rfl fun _ _ => rfl⟩

/-- The record of a buffer that stands VERIFYING while the verify engine is idle may change as it will. -/
theorem EnginesHeld.onBuffer_verified (h : EnginesHeld s) (idle : s.table.verifying = none) {k : BufferNo}
    (hk : s.bufferState k = .verifying) (f : BufferRecord → BufferRecord) : EnginesHeld (s.onBuffer k f) := by
  refine h.onBuffer ⟨fun e => ?_, fun w hw => ?_⟩ (by rw [hk]; decide) (by rw [hk]; decide) f
  · have := h.work.sweep k e
    rw [hk] at this
    cases this
  · rw [idle] at hw
    cases hw

theorem EnginesHeld.rejectVerify (h : EnginesHeld s) (idle : s.bus.verifyReq = none) {k : BufferNo}
    (hk : s.bufferState k = .verifying) (crc : Option Half) (reason : Reason) :
    EnginesHeld (s.rejectVerify k crc reason) := by
  have hmarked := (h.endVerifyWork idle).onBuffer_verified rfl (k := k) hk fun r => { r with lastCrc := crc }
  have hreturned := hmarked.onBuffer_verified (k := k) rfl
    (by rw [State.onBuffer_bufferState_self]; exact hk)
    fun r => if k == noticeBuffer && !State.gateOpen ((s.onTable fun t => { t with verifying := none }).onBuffer k
      fun r => { r with lastCrc := crc }) then r.toWiping else r.toFilling
  unfold State.rejectVerify
  dsimp only
  split
  · exact hreturned.rejectQueued ..
  · exact hreturned

theorem EnginesHeld.endVerify (h : EnginesHeld s) (idle : s.bus.verifyReq = none) (st : MemStatus) (ws : List Word) :
    EnginesHeld (s.endVerify st ws) := by
  unfold State.endVerify
  split
  · exact h
  next w hw =>
    have hk := h.work.verify w hw
    split
    · exact h.rejectVerify idle hk ..
    dsimp only
    split
    · unfold State.finishVerify
      split
      · exact (h.endVerifyWork idle).onBuffer_verified rfl hk _
      · exact h.rejectVerify idle hk ..
    · exact ⟨h.work.setVerify idle _ fun v hv => by cases hv; exact hk, h.face.of_states rfl rfl fun _ _ => rfl⟩

/-! ## Writes and resets of the records (R25, R26, R31) -/

/-- Records change where their buffers stand idle, and stand elsewhere. -/
theorem EnginesHeld.onRecords (h : EnginesHeld s) {f : Fin 8 → BufferRecord → BufferRecord}
    (hf : ∀ k, Idle (s.bufferState k) ∨ f k (s.table.records.get k) = s.table.records.get k) :
    EnginesHeld (s.onTable fun t => { t with records := t.records.mapIdx f }) := by
  have hrecord (k : BufferNo) (busy : ¬ Idle (s.bufferState k)) :
      ((s.table.records).mapIdx f).get k = s.table.records.get k := by
    rw [Table.get_mapIdx]
    exact (hf k).resolve_left busy
  have hstate (k : BufferNo) (st : BufferState) (hk : s.bufferState k = st) (busy : ¬ Idle st) :
      (s.onTable fun t => { t with records := t.records.mapIdx f }).bufferState k = st := by
    subst hk
    rw [State.bufferState, State.onTable_table, hrecord k busy, State.bufferState]
  refine ⟨{ h.work with sweep := fun k hk => hstate k _ (h.work.sweep k hk) (by unfold Idle; decide)
                        verify := fun w hw => hstate _ _ (h.work.verify w hw) (by unfold Idle; decide)
                        wipeReq := ?_ },
    ⟨fun k n e => hstate k _ (h.face.showing k n e) (by unfold Idle; decide),
      fun k n c e => hstate k _ (h.face.suspended k n c e) (by unfold Idle; decide)⟩⟩
  refine h.work.wipeReq.imp id fun e => ?_
  rw [State.onTable_bus, e]
  refine Option.map_congr fun k hk => ?_
  rw [State.onTable_table, hrecord k (by rw [h.work.sweep k hk]; unfold Idle; decide)]
  rfl

theorem EnginesHeld.upstreamResetRecords (h : EnginesHeld s) :
    EnginesHeld (s.onTable fun t => { t with records := t.records.mapIdx BufferRecord.upstreamReset }) := by
  refine h.onRecords fun k => ?_
  by_cases filling : s.bufferState k = .filling
  · exact .inl (by rw [filling, Idle]; decide)
  · exact .inr (by rw [State.bufferState] at filling; simp [BufferRecord.upstreamReset, filling])

/-- R25: a write fills FREE buffers alone. -/
theorem EnginesHeld.tellBuffers (h : EnginesHeld s) (r : TxRecord) : EnginesHeld (s.tellBuffers r) := by
  unfold State.tellBuffers
  split
  · dsimp only
    split
    · exact List.foldlRecOn _ _ h fun _ ht k _ => ht.onBuffer_same k rfl rfl
    · refine List.foldlRecOn _ _ h fun t ht k _ => ht.onBuffer_if k ?_
      by_cases free : t.bufferState k = .free
      · exact .inl (by rw [free, Idle]; decide)
      · exact .inr (by rw [State.bufferState] at free; simp [BufferRecord.filled, free])
  · exact h

end
end Sys2Proof.Safety
end

section
/-! SUPPORT. The Show unit's decision (R74 to R77): what it makes of the buffers and of the face, and that the
engines' part of the state holds through it. -/

namespace Sys2Proof.Machine

/-- The buffer of a selection. -/
def Showing.bufferNo : Showing → Option BufferNo
  | .buffer b _ => some b
  | .blank _ => none
  | .black => none

/-- The buffer of what is suspended. -/
def Suspended.bufferNo : Suspended → Option BufferNo
  | .buffer b _ _ => some b
  | .blank _ _ => none
  | .empty => none

theorem Showing.bufferNo_eq_some {x : Showing} {k : BufferNo} : x.bufferNo = some k ↔ ∃ n, x = .buffer k n := by
  cases x <;> simp [Showing.bufferNo]

theorem Suspended.bufferNo_eq_some {x : Suspended} {k : BufferNo} :
    x.bufferNo = some k ↔ ∃ n c, x = .buffer k n c := by
  cases x <;> simp [Suspended.bufferNo]

@[simp] theorem QueueEntry.selection_bufferNo (e : QueueEntry) : e.selection.bufferNo = e.buffer := by
  unfold QueueEntry.selection
  split
  next b hb => exact hb.symm
  next hb => exact hb.symm

section
variable (s : State)

/-! ## Who may move -/

/-- R56: a head that swaps in. -/
theorem State.swappable_eq_some {e : QueueEntry} : s.swappable = some e ↔
    s.head = some e ∧ e.isFrameOrBlank = true ∧ s.eligible e = true ∧ s.pairCondition e = true := by
  unfold State.swappable
  cases s.head with
  | none => simp
  | some q =>
    simp only [Option.some.injEq, Option.ite_none_right_eq_some, Bool.and_eq_true]
    constructor
    · rintro ⟨⟨⟨kind, eligible⟩, pair⟩, rfl⟩
      exact ⟨rfl, kind, eligible, pair⟩
    · rintro ⟨rfl, kind, eligible, pair⟩
      exact ⟨⟨⟨kind, eligible⟩, pair⟩, rfl⟩

theorem State.preempting_eq_some {e : QueueEntry} : s.preempting = some e ↔
    s.head = some e ∧ e.kind = .notice ∧ s.eligible e = true := by
  unfold State.preempting
  cases s.head with
  | none => simp
  | some q =>
    simp only [Option.some.injEq, Option.ite_none_right_eq_some, Bool.and_eq_true, beq_iff_eq]
    constructor
    · rintro ⟨⟨kind, eligible⟩, rfl⟩
      exact ⟨rfl, kind, eligible⟩
    · rintro ⟨rfl, kind, eligible⟩
      exact ⟨⟨kind, eligible⟩, rfl⟩

/-- R56: an eligible cue that names a buffer, and is no BLANK, finds it STAGED. -/
theorem State.eligible_staged {e : QueueEntry} {k : BufferNo} (h : s.eligible e = true) (hk : e.buffer = some k)
    (named : e.kind ≠ .blank) : s.bufferState k = .staged := by
  unfold State.eligible at h
  rw [hk] at h
  cases hkind : e.kind <;> simp_all

theorem State.mem_queue_of_head {e : QueueEntry} (h : s.head = some e) : e ∈ s.cues.queue := List.mem_of_head? h

/-! ## The buffers through the decision -/

theorem State.onBuffer_bufferState (b : BufferNo) {f : BufferRecord → BufferRecord} {st : BufferState}
    (hf : ∀ r, (f r).state = st) (k : BufferNo) :
    (s.onBuffer b f).bufferState k = if some b = some k then st else s.bufferState k := by
  simp only [Option.some.injEq]
  split
  next e => rw [e, s.onBuffer_bufferState_self]; exact hf _
  next e => exact s.onBuffer_bufferState_of_ne _ fun h => e h.symm

theorem State.bufferToShowing_bufferState (b : Option BufferNo) (k : BufferNo) :
    (s.bufferToShowing b).bufferState k = if b = some k then .showing else s.bufferState k := by
  unfold State.bufferToShowing
  cases b with
  | none => simp
  | some j => exact s.onBuffer_bufferState j (fun _ => rfl) k

@[simp] theorem State.bufferToShowing_face (b : Option BufferNo) : (s.bufferToShowing b).face = s.face := by
  unfold State.bufferToShowing
  split <;> rfl

theorem State.swapIn_bufferState (e : QueueEntry) (k : BufferNo) :
    (s.swapIn e).bufferState k = if e.buffer = some k then .showing else s.bufferState k :=
  calc (s.swapIn e).bufferState k
    _ = ((s.dequeue e.slot).bufferToShowing e.buffer).bufferState k :=
      State.bufferState_congr (((s.dequeue e.slot).bufferToShowing e.buffer).showFirst_table e) k
    _ = _ := (s.dequeue e.slot).bufferToShowing_bufferState e.buffer k

@[simp] theorem State.swapIn_showing (e : QueueEntry) : (s.swapIn e).face.showing = e.selection := rfl

@[simp] theorem State.swapIn_suspended (e : QueueEntry) : (s.swapIn e).face.suspended = s.face.suspended := by
  change (((s.dequeue e.slot).bufferToShowing e.buffer).showFirst e).face.suspended = _
  rw [State.showFirst_face, State.bufferToShowing_face, State.dequeue_face]

theorem State.retireShowing_bufferState (k : BufferNo) :
    s.retireShowing.bufferState k =
      if s.face.showing.bufferNo = some k then .retiring else s.bufferState k := by
  unfold State.retireShowing
  cases s.face.showing with
  | buffer b n =>
    rw [State.bufferState_congr ((s.onBuffer b (BufferRecord.toState .retiring)).closeSlot_table n .retired none)]
    exact s.onBuffer_bufferState b (fun _ => rfl) k
  | blank n =>
    exact State.bufferState_congr (s.closeSlot_table n .retired none) k
  | black => rfl

@[simp] theorem State.retireShowing_face : s.retireShowing.face = s.face := by
  unfold State.retireShowing
  split <;> simp [State.onBuffer]

theorem State.suspendShowing_bufferState (k : BufferNo) :
    s.suspendShowing.bufferState k =
      if s.face.toSuspend.bufferNo = some k then .suspended else s.bufferState k := by
  unfold State.suspendShowing
  cases s.face.toSuspend with
  | buffer b n c =>
    rw [State.bufferState_congr ((s.onBuffer b (BufferRecord.toState .suspended)).setInterim_table n .suspended)]
    exact s.onBuffer_bufferState b (fun _ => rfl) k
  | blank n c =>
    exact State.bufferState_congr (s.setInterim_table n .suspended) k
  | empty => rfl

@[simp] theorem State.suspendShowing_face : s.suspendShowing.face = s.face := by
  unfold State.suspendShowing
  split <;> simp [State.onBuffer]

theorem State.preempt_bufferState (e : QueueEntry) (k : BufferNo) :
    (s.preempt e).bufferState k =
      if e.buffer = some k then .showing
      else if s.face.toSuspend.bufferNo = some k then .suspended else s.bufferState k :=
  calc (s.preempt e).bufferState k
    _ = ((s.suspendShowing.dequeue e.slot).bufferToShowing e.buffer).bufferState k :=
      State.bufferState_congr (((s.suspendShowing.dequeue e.slot).bufferToShowing e.buffer).showFirst_table e) k
    _ = if e.buffer = some k then .showing else s.suspendShowing.bufferState k :=
      (s.suspendShowing.dequeue e.slot).bufferToShowing_bufferState e.buffer k
    _ = _ := by rw [s.suspendShowing_bufferState]

/-- What a notice suspends was showing. -/
theorem ShowUnit.toSuspend_bufferNo {f : ShowUnit} {k : BufferNo} (h : f.toSuspend.bufferNo = some k) :
    f.showing.bufferNo = some k := by
  unfold ShowUnit.toSuspend at h
  split at h
  next b n c hshowing hclass =>
    rw [hshowing]
    exact h
  · cases h
  · cases h

theorem State.closeNotice_bufferState (k : BufferNo) :
    s.closeNotice.bufferState k =
      if s.face.showing.bufferNo = some k then .wiping else s.bufferState k := by
  unfold State.closeNotice
  dsimp only
  cases s.face.showing with
  | buffer b n =>
    rw [State.bufferState_congr (State.closeSlot_table _ n .noticeEnded none)]
    exact State.onBuffer_bufferState _ b (fun _ => rfl) k
  | blank n => rfl
  | black => rfl

@[simp] theorem State.closeNotice_face : s.closeNotice.face = { s.face with noticeEnd := false } := by
  unfold State.closeNotice
  dsimp only
  split <;> simp [State.onBuffer]

end
end Sys2Proof.Machine

namespace Sys2Proof.Safety

open Sys2Proof.Machine

section
variable {s t : State}

/-! ## The engines' work through the decision -/

theorem FaceHeld.of_bufferNo
    (showing : ∀ k, s.face.showing.bufferNo = some k → s.bufferState k = .showing)
    (suspended : ∀ k, s.face.suspended.bufferNo = some k → s.bufferState k = .suspended) : FaceHeld s :=
  ⟨fun k n e => showing k (by rw [e, Showing.bufferNo]), fun k n c e => suspended k (by rw [e, Suspended.bufferNo])⟩

theorem FaceHeld.showing_bufferNo (h : FaceHeld s) {k : BufferNo} (hk : s.face.showing.bufferNo = some k) :
    s.bufferState k = .showing := by
  obtain ⟨n, e⟩ := Showing.bufferNo_eq_some.mp hk
  exact h.showing k n e

theorem FaceHeld.suspended_bufferNo (h : FaceHeld s) {k : BufferNo} (hk : s.face.suspended.bufferNo = some k) :
    s.bufferState k = .suspended := by
  obtain ⟨n, c, e⟩ := Suspended.bufferNo_eq_some.mp hk
  exact h.suspended k n c e

/-- A buffer in a state that no engine's work has may change as it will. -/
theorem WorkHeld.onBuffer_of_state (h : WorkHeld s) {k : BufferNo} {st : BufferState} (hk : s.bufferState k = st)
    (apart : st ≠ .wiping ∧ st ≠ .verifying) (f : BufferRecord → BufferRecord) : WorkHeld (s.onBuffer k f) :=
  h.onBuffer (h.unworked (by rw [hk]; exact apart.1) (by rw [hk]; exact apart.2)) f

theorem WorkHeld.onFace (h : WorkHeld s) (f : ShowUnit → ShowUnit) : WorkHeld (s.onFace f) :=
  h.of_blocks rfl rfl rfl rfl

theorem WorkHeld.bufferToShowing (h : WorkHeld s) (b : Option BufferNo)
    (staged : ∀ k, b = some k → s.bufferState k = .staged) : WorkHeld (s.bufferToShowing b) := by
  unfold State.bufferToShowing
  split
  next k => exact h.onBuffer_of_state (staged k rfl) (by decide) _
  next => exact h

theorem WorkHeld.swapIn (h : WorkHeld s) (e : QueueEntry)
    (staged : ∀ k, e.buffer = some k → s.bufferState k = .staged) : WorkHeld (s.swapIn e) := by
  unfold State.swapIn State.showFirst
  exact (((h.dequeue e.slot).bufferToShowing e.buffer staged).setOutcome ..).onFace _

theorem WorkHeld.retireShowing (h : WorkHeld s) (face : FaceHeld s) : WorkHeld s.retireShowing := by
  unfold State.retireShowing
  split
  next b n hshowing => exact (h.onBuffer_of_state (face.showing b n hshowing) (by decide) _).closeSlot ..
  next n _ => exact h.closeSlot ..
  next => exact h

theorem WorkHeld.suspendShowing (h : WorkHeld s) (face : FaceHeld s) : WorkHeld s.suspendShowing := by
  unfold State.suspendShowing
  split
  next b n c hsuspend =>
    have hb : s.face.showing.bufferNo = some b :=
      ShowUnit.toSuspend_bufferNo (by rw [hsuspend, Suspended.bufferNo])
    exact (h.onBuffer_of_state (face.showing_bufferNo hb) (by decide) _).setOutcome ..
  next n c _ => exact h.setOutcome ..
  next => exact h

theorem WorkHeld.closeNotice (h : WorkHeld s) (face : FaceHeld s) : WorkHeld s.closeNotice := by
  unfold State.closeNotice
  dsimp only
  split
  next b n hshowing =>
    exact ((h.onFace _).onBuffer_of_state (st := .showing) (face.showing b n hshowing) (by decide) _).closeSlot ..
  next => exact h.onFace _

/-- An entry of the queue that is eligible finds the buffer it names STAGED. -/
theorem WorkHeld.eligible_staged (h : WorkHeld s) {e : QueueEntry} (head : s.head = some e)
    (eligible : s.eligible e = true) {k : BufferNo} (hk : e.buffer = some k) : s.bufferState k = .staged := by
  refine s.eligible_staged eligible hk fun blank => ?_
  rw [h.blanks e (s.mem_queue_of_head head) blank] at hk
  cases hk

/-! ## The three moves -/

/-- R75: the outgoing buffer retires, the incoming one shows. -/
theorem EnginesHeld.swap (h : EnginesHeld s) {e : QueueEntry}
    (staged : ∀ k, e.buffer = some k → s.bufferState k = .staged) : EnginesHeld (s.retireShowing.swapIn e) := by
  have hout (k : BufferNo) (st : BufferState) (hk : s.bufferState k = st) (apart : st ≠ .showing) :
      s.retireShowing.bufferState k = st := by
    rw [s.retireShowing_bufferState, if_neg fun out => apart (hk.symm.trans (h.face.showing_bufferNo out)), hk]
  refine ⟨(h.work.retireShowing h.face).swapIn e fun k hk => hout k _ (staged k hk) (by decide),
    .of_bufferNo (fun k hk => ?_) fun k hk => ?_⟩
  · rw [State.swapIn_showing, QueueEntry.selection_bufferNo] at hk
    rw [State.swapIn_bufferState, if_pos hk]
  · rw [State.swapIn_suspended, State.retireShowing_face] at hk
    have hsuspended := h.face.suspended_bufferNo hk
    rw [State.swapIn_bufferState, if_neg, hout k _ hsuspended (by decide)]
    intro incoming
    have := staged k incoming
    rw [hsuspended] at this
    cases this

/-- R76: what shows is suspended, the notice shows. -/
theorem EnginesHeld.preempt (h : EnginesHeld s) {e : QueueEntry}
    (staged : ∀ k, e.buffer = some k → s.bufferState k = .staged) : EnginesHeld (s.preempt e) := by
  have apart {k : BufferNo} (out : s.face.toSuspend.bufferNo = some k) : e.buffer ≠ some k := fun incoming => by
    have := h.face.showing_bufferNo (ShowUnit.toSuspend_bufferNo out)
    rw [staged k incoming] at this
    cases this
  have hwork : WorkHeld (s.preempt e) := by
    unfold State.preempt State.showFirst
    refine WorkHeld.onFace (WorkHeld.setOutcome (((h.work.suspendShowing h.face).dequeue e.slot).bufferToShowing
      e.buffer fun k hk => ?_) ..) _
    change s.suspendShowing.bufferState k = _
    rw [s.suspendShowing_bufferState, if_neg fun out => apart out hk, staged k hk]
  refine ⟨hwork, .of_bufferNo (fun k hk => ?_) fun k hk => ?_⟩
  · rw [State.preempt_bufferState, if_pos]
    exact e.selection_bufferNo.symm.trans hk
  · have out : s.face.toSuspend.bufferNo = some k := hk
    rw [State.preempt_bufferState, if_neg (apart out), if_pos out]

theorem WorkHeld.resume (h : WorkHeld s) (sel : Showing) (n : SlotNo) (c : Fin 4) : WorkHeld (s.resume sel n c) := by
  unfold State.resume State.setInterim
  exact (h.setOutcome ..).onFace _

/-- R77: the notice's buffer is owed a sweep, and what it suspended, or the head, or nothing shows. -/
theorem EnginesHeld.endNotice (h : EnginesHeld s) : EnginesHeld s.endNotice := by
  have hclosed := h.work.closeNotice h.face
  have hstands (k : BufferNo) (st : BufferState) (hk : s.bufferState k = st) (apart : st ≠ .showing) :
      s.closeNotice.bufferState k = st := by
    rw [s.closeNotice_bufferState, if_neg fun out => apart (hk.symm.trans (h.face.showing_bufferNo out)), hk]
  unfold State.endNotice
  dsimp only
  split
  next b n c hsuspended =>
    have hb := hstands b _ (h.face.suspended b n c hsuspended) (by decide)
    refine ⟨(hclosed.onBuffer_of_state hb (by decide) _).resume .., .of_bufferNo (fun k hk => ?_) nofun⟩
    cases hk
    refine (State.bufferState_congr (State.setInterim_table _ n .onFace) b).trans ?_
    exact State.onBuffer_bufferState_self ..
  next n c _ => exact ⟨hclosed.resume .., .of_bufferNo nofun nofun⟩
  next hempty =>
    split
    next e he =>
      obtain ⟨head, -, eligible, -⟩ := s.swappable_eq_some.mp he
      have staged (k : BufferNo) (hk : e.buffer = some k) :=
        hstands k _ (h.work.eligible_staged head eligible hk) (by decide)
      refine ⟨hclosed.swapIn e staged, .of_bufferNo (fun k hk => ?_) fun k hk => ?_⟩
      · rw [State.swapIn_showing, QueueEntry.selection_bufferNo] at hk
        rw [State.swapIn_bufferState, if_pos hk]
      · rw [State.swapIn_suspended, State.closeNotice_face, hempty] at hk
        cases hk
    next =>
      refine ⟨hclosed.onFace _, .of_bufferNo nofun fun k hk => ?_⟩
      change s.closeNotice.face.suspended.bufferNo = some k at hk
      rw [State.closeNotice_face, hempty] at hk
      cases hk

theorem EnginesHeld.showDecision (h : EnginesHeld s) : EnginesHeld s.showDecision := by
  unfold State.showDecision
  split
  · split
    · exact h.endNotice
    · exact h
  split
  next e he =>
    obtain ⟨head, -, eligible⟩ := s.preempting_eq_some.mp he
    exact h.preempt fun k hk => h.work.eligible_staged head eligible hk
  next =>
    split
    · split
      next e he =>
        obtain ⟨head, -, eligible, -⟩ := s.swappable_eq_some.mp he
        exact h.swap fun k hk => h.work.eligible_staged head eligible hk
      next => exact h
    · exact h

theorem EnginesHeld.settlePair (h : EnginesHeld s) (before : Option SlotNo) : EnginesHeld (s.settlePair before) := by
  have hdropped : EnginesHeld
      (if s.face.swapReady && (!s.handshakeWanted || s.headSlot != before) then s.onFace ShowUnit.dropPair else s) := by
    split
    · exact h.onFace rfl rfl
    · exact h
  have hstarted {u : State} (hu : EnginesHeld u) : EnginesHeld
      (if !u.face.swapReady && u.handshakeWanted then (u.dropDue .pairWaitExpiry).onFace fun f =>
        f.startPair u.lines.partner u.settings.pairWait else u) := by
    split
    · exact EnginesHeld.onFace (hu.of_unchanged (State.dropDue_unchanged .pairWaitExpiry (by decide) (.refl _ _))) rfl rfl
    · exact hu
  exact hstarted hdropped

theorem EnginesHeld.showRefreshStart (h : EnginesHeld s) : EnginesHeld s.showRefreshStart := by
  have hresumed : EnginesHeld s.advanceSequence.resumeScan := by
    unfold State.resumeScan State.advanceSequence
    dsimp only
    refine EnginesHeld.onFace ?_ rfl rfl
    split
    · exact EnginesHeld.offer (h.onFace rfl rfl) ..
    · exact h.onFace rfl rfl
  exact hresumed.showDecision.settlePair _

theorem EnginesHeld.refreshStart (h : EnginesHeld s) : EnginesHeld s.refreshStart := by
  have hmarked : EnginesHeld (s.showRefreshStart.onBus fun b => { b with errorMark := false }) :=
    h.showRefreshStart.onBus rfl rfl rfl fun _ => id
  refine hmarked.of_unchanged (t := s.refreshStart) ?_
  unfold State.refreshStart
  exact State.addDuesFirst_unchanged _ (by decide) <| State.testStep_unchanged (by decide) <|
    State.silenceSteps_unchanged (by decide) <| State.judgeHeldReports_unchanged (by decide) <|
    State.closeRefresh_unchanged (by decide) <| State.rampAll_unchanged (by decide) <| .refl _ _

end
end Sys2Proof.Safety
end

section
/-! SUPPORT. The engines as an event ends (R15, R16, R36, R37, R41, R42, R64): their choices, their requests and the
arbiter's grants leave them settled. -/

namespace Sys2Proof.Safety

open Sys2Proof.Machine

section
variable {s t : State}

theorem enginesSettled_iff (s : State) : EnginesSettled s ↔ EnginesHeld s ∧ EnginesBusy s ∧ SetupIdle s := by
  rw [enginesHeld_iff, and_assoc]

theorem EnginesSettled.held (h : EnginesSettled s) : EnginesHeld s := ((enginesSettled_iff s).mp h).1

theorem EnginesSettled.busy (h : EnginesSettled s) : EnginesBusy s := ((enginesSettled_iff s).mp h).2.1

theorem EnginesSettled.setup (h : EnginesSettled s) : SetupIdle s := ((enginesSettled_iff s).mp h).2.2

theorem EnginesSettled.of_parts (held : EnginesHeld s) (busy : EnginesBusy s) (setup : SetupIdle s) :
    EnginesSettled s := (enginesSettled_iff s).mpr ⟨held, busy, setup⟩

/-! ## SETUP -/

theorem SetupIdle.of_running (h : s.running = true) : SetupIdle s := fun hsetup => by
  simp [State.running, hsetup] at h

theorem SetupIdle.of_parts (h : SetupIdle s) (hgovernor : t.governor = s.governor) (htable : t.table = s.table)
    (hqueue : t.cues.queue = s.cues.queue) (hlist : t.cues.writeBack = s.cues.writeBack) : SetupIdle t := by
  intro hsetup
  obtain ⟨idleTable, idleQueue, idleList⟩ := h (hgovernor ▸ hsetup)
  exact ⟨htable.trans idleTable, hqueue.trans idleQueue, hlist.trans idleList⟩

/-- What runs while an engine or the Cue unit has work runs in RUNNING. -/
theorem SetupIdle.running (h : SetupIdle s)
    (work : s.table ≠ BufferTable.powerOn ∨ s.cues.queue ≠ [] ∨ s.cues.writeBack ≠ []) : s.governor = .running := by
  cases hgovernor : s.governor with
  | running => rfl
  | setup =>
    obtain ⟨idleTable, idleQueue, idleList⟩ := h hgovernor
    rcases work with work | work | work <;> contradiction

/-! ## The engines' choices (R36, R41) -/

theorem nextWipe_eq_some {k : BufferNo} (h : s.nextWipe = some k) : s.bufferState k = .wiping := by
  simpa using List.find?_some h

theorem nextWipe_eq_none : s.nextWipe = none ↔ ∀ k, s.bufferState k ≠ .wiping := by
  simp [State.nextWipe]

theorem verifyOf_eq_some {e : QueueEntry} {w : VerifyWork} : s.verifyOf e = some w ↔
    e.buffer = some w.buffer ∧ e.expected = some w.expected ∧ s.bufferState w.buffer = .verifying ∧
      w.wordsRead = 0 ∧ w.running = crc16Init := by
  obtain ⟨buffer, expected, wordsRead, running⟩ := w
  unfold State.verifyOf
  cases e.buffer with
  | none => simp
  | some k =>
    cases e.expected with
    | none => simp
    | some c =>
      simp only [beq_iff_eq, Option.ite_none_right_eq_some, Option.some.injEq, VerifyWork.mk.injEq]
      constructor
      · rintro ⟨verifying, rfl, rfl, rfl, rfl⟩
        exact ⟨rfl, rfl, verifying, rfl, rfl⟩
      · rintro ⟨rfl, rfl, verifying, rfl, rfl⟩
        exact ⟨verifying, rfl, rfl, rfl, rfl⟩

theorem verifyOf_eq_none {e : QueueEntry} : s.verifyOf e = none ↔ ¬ WaitsForVerify s e := by
  unfold State.verifyOf WaitsForVerify
  cases e.buffer with
  | none => simp
  | some k => cases e.expected <;> simp

theorem EnginesHeld.wipeChoice (h : EnginesHeld s) : EnginesHeld s.wipeChoice := by
  unfold State.wipeChoice
  split
  next k hidle hk =>
    have idle : s.bus.wipeReq = none := by
      have := h.work.wipeReq
      rwa [hidle, Option.map_none, or_self] at this
    have chosen : EnginesHeld (s.onTable fun t => { t with sweeping := some k }) :=
      ⟨{ h.work with sweep := fun j hj => by cases hj; exact nextWipe_eq_some hk, wipeReq := .inl idle },
        h.face.of_states rfl rfl fun _ _ => rfl⟩
    exact chosen.onBuffer_state idle k rfl
  next => exact h

theorem EnginesHeld.verifyChoice (h : EnginesHeld s) : EnginesHeld s.verifyChoice := by
  unfold State.verifyChoice
  split
  next w hidle hw =>
    obtain ⟨e, -, he⟩ := List.exists_of_findSome?_eq_some hw
    obtain ⟨-, -, verifying, -, -⟩ := verifyOf_eq_some.mp he
    have idle : s.bus.verifyReq = none := by
      have := h.work.verifyReq
      rwa [hidle, Option.map_none, or_self] at this
    exact ⟨h.work.setVerify idle _ fun v hv => by cases hv; exact verifying, h.face.of_states rfl rfl fun _ _ => rfl⟩
  next => exact h

/-- The states of the buffers through the choices. -/
theorem wipeChoice_bufferState (s : State) (k : BufferNo) : s.wipeChoice.bufferState k = s.bufferState k := by
  rw [State.bufferState, State.bufferState, ← (wipeChoice_follows s).buffers k]

theorem verifyChoice_bufferState (s : State) (k : BufferNo) : s.verifyChoice.bufferState k = s.bufferState k := by
  rw [State.bufferState, State.bufferState, ← (verifyChoice_follows s).buffers k]

theorem prepare_bufferState (s : State) (k : BufferNo) : s.prepare.bufferState k = s.bufferState k := by
  rw [State.bufferState, State.bufferState, ← (prepare_follows s).buffers k]

theorem wipeChoice_busy (s : State) (h : s.wipeChoice.table.sweeping = none) (k : BufferNo) :
    s.bufferState k ≠ .wiping := by
  unfold State.wipeChoice at h
  split at h
  · cases h
  next stands =>
    refine nextWipe_eq_none.mp ?_ k
    cases hnext : s.nextWipe with
    | none => rfl
    | some j => exact absurd hnext (stands j h)

theorem verifyChoice_busy (s : State) (h : s.verifyChoice.table.verifying = none) {e : QueueEntry}
    (he : e ∈ s.cues.queue) : ¬ WaitsForVerify s e := by
  unfold State.verifyChoice at h
  split at h
  · cases h
  next stands =>
    have hnone : s.cues.queue.findSome? s.verifyOf = none := by
      cases hnext : s.cues.queue.findSome? s.verifyOf with
      | none => rfl
      | some w => exact absurd hnext (stands w h)
    exact verifyOf_eq_none.mp (List.findSome?_eq_none_iff.mp hnone e he)

theorem wipeChoice_cues (s : State) : s.wipeChoice.cues = s.cues := by
  unfold State.wipeChoice
  split <;> rfl

theorem verifyChoice_cues (s : State) : s.verifyChoice.cues = s.cues := by
  unfold State.verifyChoice
  split <;> rfl

theorem verifyChoice_sweeping (s : State) : s.verifyChoice.table.sweeping = s.table.sweeping := by
  unfold State.verifyChoice
  split <;> rfl

/-- In SETUP nothing is there to choose. -/
theorem choices_idle (htable : s.table = BufferTable.powerOn) (hqueue : s.cues.queue = []) :
    s.wipeChoice.verifyChoice = s := by
  have hwipe : s.wipeChoice = s := by
    have hnext : s.nextWipe = none := nextWipe_eq_none.mpr fun k => by
      rw [State.bufferState, htable]
      simp [BufferTable.powerOn, BufferRecord.powerOn]
    unfold State.wipeChoice
    rw [hnext]
    split
    next _ h => cases h
    next => rfl
  rw [hwipe]
  unfold State.verifyChoice
  rw [hqueue, htable]
  rfl

/-! ## The requests (R15) -/

theorem raised_cases {current next : Option OwnRequest} {busy : Bool} :
    raised current busy next = current ∧ (current.isSome = true ∨ busy = true) ∨
      raised current busy next = next ∧ current = none ∧ busy = false := by
  unfold raised
  cases current <;> cases busy <;> simp

theorem raised_stands {current next : Option OwnRequest} {busy : Bool} (h : current = none ∨ current = next) :
    raised current busy next = none ∨ raised current busy next = next := by
  rcases raised_cases (current := current) (next := next) (busy := busy) with ⟨e, -⟩ | ⟨e, -⟩
  · rw [e]; exact h
  · exact .inr e

theorem raised_busy {current next : Option OwnRequest} {busy : Bool} (h : busy = true → current = none)
    (hbusy : busy = true) : raised current busy next = none := by
  unfold raised
  simp [h hbusy, hbusy]

theorem raised_asks {current next : Option OwnRequest} {busy : Bool} (h : next.isSome = true) :
    (raised current busy next).isSome = true ∨ busy = true := by
  unfold raised
  cases current <;> cases busy <;> simp_all

/-- The requests as the engines raise them. -/
theorem prepare_bus (s : State) : s.prepare.bus = { s.wipeChoice.verifyChoice.bus with
    writeBackReq := raised s.wipeChoice.verifyChoice.bus.writeBackReq
      (s.wipeChoice.verifyChoice.bus.inFlight .writeBack)
      (s.wipeChoice.verifyChoice.cues.writeBack.head?.map (writeBackRequest s.wipeChoice.verifyChoice.settings.layout))
    wipeReq := raised s.wipeChoice.verifyChoice.bus.wipeReq (s.wipeChoice.verifyChoice.bus.inFlight .wipe)
      (s.wipeChoice.verifyChoice.table.sweeping.map fun k => wipeRequest s.wipeChoice.verifyChoice.settings.layout k
        (s.wipeChoice.verifyChoice.table.records.get k).progress)
    verifyReq := raised s.wipeChoice.verifyChoice.bus.verifyReq (s.wipeChoice.verifyChoice.bus.inFlight .verify)
      (s.wipeChoice.verifyChoice.table.verifying.map
        (verifyRequest s.wipeChoice.verifyChoice.settings.layout)) } := rfl

theorem prepare_inFlight (s : State) (e : Engine) :
    s.prepare.bus.inFlight e = s.wipeChoice.verifyChoice.bus.inFlight e := rfl

theorem EnginesHeld.prepare (held : EnginesHeld s) : EnginesHeld s.prepare := by
  have hchosen := held.wipeChoice.verifyChoice
  refine ⟨{ hchosen.work with writeBackReq := ?_, wipeReq := ?_, verifyReq := ?_, writeBackBusy := ?_, wipeBusy := ?_, verifyBusy := ?_ },
    hchosen.face.of_states rfl rfl fun _ _ => rfl⟩
  · rw [prepare_bus]; exact raised_stands hchosen.work.writeBackReq
  · rw [prepare_bus]; exact raised_stands hchosen.work.wipeReq
  · rw [prepare_bus]; exact raised_stands hchosen.work.verifyReq
  · rw [prepare_inFlight, prepare_bus]; exact raised_busy hchosen.work.writeBackBusy
  · rw [prepare_inFlight, prepare_bus]; exact raised_busy hchosen.work.wipeBusy
  · rw [prepare_inFlight, prepare_bus]; exact raised_busy hchosen.work.verifyBusy

/-- The engines choose and ask. -/
theorem EnginesSettled.prepare (held : EnginesHeld s) (setup : SetupIdle s) : EnginesSettled s.prepare := by
  have hbus := prepare_bus s
  have htable : s.prepare.table = s.wipeChoice.verifyChoice.table := rfl
  have hcues : s.prepare.cues = s.wipeChoice.verifyChoice.cues := rfl
  have hqueue : s.prepare.cues.queue = s.cues.queue := (prepare_follows s).ring.2.1
  have hflight := prepare_inFlight s
  refine .of_parts held.prepare ⟨?_, ?_, ?_, ?_, ?_⟩ ?_
  · intro idle k
    rw [htable, verifyChoice_sweeping] at idle
    rw [prepare_bufferState]
    exact wipeChoice_busy s idle k
  · intro idle e he
    have hwaits := verifyChoice_busy s.wipeChoice idle (e := e) (by rw [wipeChoice_cues, ← hqueue]; exact he)
    simpa only [WaitsForVerify, prepare_bufferState, wipeChoice_bufferState] using hwaits
  · intro hlist
    rw [hflight, hbus]
    refine raised_asks ?_
    rw [← hcues]
    cases hcase : s.prepare.cues.writeBack with
    | nil => exact absurd hcase hlist
    | cons n rest => rfl
  · intro hsweep
    rw [hflight, hbus]
    exact raised_asks (by rw [Option.isSome_map, ← htable]; exact hsweep)
  · intro hverify
    rw [hflight, hbus]
    exact raised_asks (by rw [Option.isSome_map, ← htable]; exact hverify)
  · intro hsetup
    have hgovernor : s.prepare.governor = s.governor := (prepare_follows s).blocks.agree .governor (by decide)
    obtain ⟨idleTable, idleQueue, idleList⟩ := setup (hgovernor ▸ hsetup)
    rw [htable, hcues, choices_idle idleTable idleQueue]
    exact ⟨idleTable, idleQueue, idleList⟩

/-! ## Operations that move no engine -/

/-- Nothing of what the engines' part of the state reads has moved. -/
theorem EnginesSettled.of_parts_eq (h : EnginesSettled s) (hbus : t.bus = s.bus) (htable : t.table = s.table)
    (hqueue : t.cues.queue = s.cues.queue) (hlist : t.cues.writeBack = s.cues.writeBack)
    (hshowing : t.face.showing = s.face.showing) (hsuspended : t.face.suspended = s.face.suspended)
    (hlayout : t.settings.layout = s.settings.layout) (hgovernor : t.governor = s.governor) : EnginesSettled t := by
  simpa only [EnginesSettled, BuffersHeld, RequestsStand, EnginesBusy, WaitsForVerify, SetupIdle, State.bufferState,
    hbus, htable, hqueue, hlist, hshowing, hsuspended, hlayout, hgovernor] using h

/-- The blocks that the engines' part of the state does not read. -/
def settledless : List Block := [.pending, .due, .lines, .light, .tiles, .scan, .faults, .test, .wires, .link]

theorem EnginesSettled.of_unchanged (h : EnginesSettled s) (frame : Unchanged settledless s t) : EnginesSettled t := by
  have hcues : t.cues = s.cues := frame.agree .cues (by decide)
  have hface : t.face = s.face := frame.agree .face (by decide)
  have hsettings : t.settings = s.settings := frame.agree .settings (by decide)
  exact h.of_parts_eq (frame.agree .bus (by decide)) (frame.agree .table (by decide)) (by rw [hcues]) (by rw [hcues])
    (by rw [hface]) (by rw [hface]) (by rw [hsettings]) (frame.agree .governor (by decide))

/-- The bus moves, but no request does, and no engine's burst begins or ends. -/
theorem EnginesSettled.onBus (h : EnginesSettled s) {f : BusState → BusState}
    (hwriteBack : (f s.bus).writeBackReq = s.bus.writeBackReq) (hwipe : (f s.bus).wipeReq = s.bus.wipeReq)
    (hverify : (f s.bus).verifyReq = s.bus.verifyReq) (hport : ∀ e, (f s.bus).inFlight e = s.bus.inFlight e) :
    EnginesSettled (s.onBus f) := by
  refine .of_parts (h.held.onBus hwriteBack hwipe hverify fun e he => (hport e).symm.trans he) ?_
    (h.setup.of_parts rfl rfl rfl rfl)
  obtain ⟨sweeps, verifies, writesBack, asksWipe, asksVerify⟩ := h.busy
  refine ⟨sweeps, verifies, ?_, ?_, ?_⟩
  · rw [State.onBus_bus, hwriteBack, hport]; exact writesBack
  · rw [State.onBus_bus, hwipe, hport]; exact asksWipe
  · rw [State.onBus_bus, hverify, hport]; exact asksVerify

/-! ## The arbiter (R16) -/

/-- An engine's burst in flight is that engine's alone. -/
theorem inFlight_own {b : BusState} {p : Burst} {e : Engine} (hport : b.port = some p) (own : p.source = .own e)
    (e' : Engine) : b.inFlight e' = true ↔ e' = e := by
  unfold BusState.inFlight
  rw [hport]
  simp only [own, beq_iff_eq, BurstSource.own.injEq]
  exact eq_comm

/-- The write-back list's head is granted and leaves it. -/
theorem EnginesSettled.grantWriteBack (h : EnginesSettled s) {r : OwnRequest} (hport : s.bus.port = none)
    (hr : s.bus.writeBackReq = some r) : EnginesSettled (s.grantWriteBack r) := by
  have hrequest : s.bus.writeBackReq = s.cues.writeBack.head?.map (writeBackRequest s.settings.layout) :=
    h.held.work.writeBackReq.resolve_left (by rw [hr]; simp)
  obtain ⟨sweeps, verifies, -, asksWipe, asksVerify⟩ := h.busy
  simp only [BusState.inFlight_of_none hport, Bool.false_eq_true, or_false] at asksWipe asksVerify
  unfold State.grantWriteBack
  split
  next n rest hlist =>
    have hengine : r.engine = .writeBack := by
      rw [hr, hlist] at hrequest
      cases hrequest
      rfl
    have hflight := inFlight_own (b := { s.bus with
        port := some (s.writeBackGrantBurst r n), writeBackReq := none, waited := 0 }) (e := .writeBack) rfl
      (by rw [← hengine]; rfl)
    refine .of_parts ⟨{ h.held.work with
        writeBackReq := .inl rfl, writeBackBusy := fun _ => rfl, wipeBusy := fun e => ?_, verifyBusy := fun e => ?_ },
      h.held.face.of_states rfl rfl fun _ _ => rfl⟩
      ⟨sweeps, verifies, fun _ => .inr ?_, fun e => .inl (asksWipe e), fun e => .inl (asksVerify e)⟩ ?_
    · cases (hflight _).mp e
    · cases (hflight _).mp e
    · exact (hflight _).mpr rfl
    · exact .of_running (by
        have := h.setup.running (.inr (.inr (by rw [hlist]; exact List.cons_ne_nil _ _)))
        exact beq_iff_eq.mpr this)
  next hlist =>
    rw [hlist, hr] at hrequest
    cases hrequest

/-- The highest-ranked request is granted. -/
theorem EnginesSettled.grantOwn (h : EnginesSettled s) (hport : s.bus.port = none) : EnginesSettled s.grantOwn := by
  obtain ⟨sweeps, verifies, writesBack, asksWipe, asksVerify⟩ := h.busy
  simp only [BusState.inFlight_of_none hport, Bool.false_eq_true, or_false] at writesBack asksWipe asksVerify
  unfold State.grantOwn
  split
  next r _ _ hr => exact h.grantWriteBack hport hr
  next r hnone hr =>
    have hengine : r.engine = .wipe := by
      have hrequest := h.held.work.wipeReq.resolve_left (by rw [hr]; simp)
      rw [hr] at hrequest
      obtain ⟨k, -, hk⟩ := Option.map_eq_some_iff.mp hrequest.symm
      rw [← hk]
      rfl
    have hflight := inFlight_own (b := { s.bus with port := some r.burst, wipeReq := none, waited := 0 })
      (e := .wipe) rfl (by rw [← hengine]; rfl)
    refine .of_parts ⟨{ h.held.work with
        wipeReq := .inl rfl, writeBackBusy := fun e => ?_, wipeBusy := fun _ => rfl, verifyBusy := fun e => ?_ },
      h.held.face.of_states rfl rfl fun _ _ => rfl⟩
      ⟨sweeps, verifies, fun e => .inl (writesBack e), fun _ => .inr ?_, fun e => .inl (asksVerify e)⟩
      (h.setup.of_parts rfl rfl rfl rfl)
    · cases (hflight _).mp e
    · cases (hflight _).mp e
    · exact (hflight _).mpr rfl
  next r hnone hnone' hr =>
    have hengine : r.engine = .verify := by
      have hrequest := h.held.work.verifyReq.resolve_left (by rw [hr]; simp)
      rw [hr] at hrequest
      obtain ⟨k, -, hk⟩ := Option.map_eq_some_iff.mp hrequest.symm
      rw [← hk]
      rfl
    have hflight := inFlight_own (b := { s.bus with port := some r.burst, verifyReq := none, waited := 0 })
      (e := .verify) rfl (by rw [← hengine]; rfl)
    refine .of_parts ⟨{ h.held.work with
        verifyReq := .inl rfl, writeBackBusy := fun e => ?_, wipeBusy := fun e => ?_, verifyBusy := fun _ => rfl },
      h.held.face.of_states rfl rfl fun _ _ => rfl⟩
      ⟨sweeps, verifies, fun e => .inl (writesBack e), fun e => .inl (asksWipe e), fun _ => .inr ?_⟩
      (h.setup.of_parts rfl rfl rfl rfl)
    · cases (hflight _).mp e
    · cases (hflight _).mp e
    · exact (hflight _).mpr rfl
  next => exact h

theorem EnginesSettled.arbitrate (h : EnginesSettled s) : EnginesSettled s.arbitrate := by
  unfold State.arbitrate
  split
  · exact h
  next free =>
    split
    · exact h.of_unchanged (State.addDue_unchanged _ (by decide) (.refl _ _))
    split
    · exact h.of_unchanged (State.addDue_unchanged _ (by decide) (.refl _ _))
    · exact h.grantOwn (by simp at free; exact free.2)

/-- Whatever the event, what follows it settles the engines. -/
theorem EnginesSettled.event {f : State → State} (held : EnginesHeld (f s)) (setup : SetupIdle (f s)) :
    EnginesSettled (s.event f) := by
  have frame : Unchanged [.due, .face] (f s) ((f s).settlePair s.headSlot) :=
    State.settlePair_unchanged _ (by decide) (.refl _ _)
  have hcues : ((f s).settlePair s.headSlot).cues = (f s).cues := frame.agree .cues (by decide)
  exact EnginesSettled.arbitrate (.prepare (held.settlePair _)
    (setup.of_parts (frame.agree .governor (by decide)) (frame.agree .table (by decide)) (by rw [hcues]) (by rw [hcues])))

end
end Sys2Proof.Safety
end

section
/-! SUPPORT. Every operation leaves the engines settled. -/

namespace Sys2Proof.Safety

open Sys2Proof.Machine

section
variable {s t : State}

/-! ## The upstream port (R2, R8 to R11, R19, R25) -/

/-- R25, R26: a write into the buffer area fills FREE buffers, and moves no other buffer's state. -/
theorem tellBuffers_bufferState (s : State) (r : TxRecord) (k : BufferNo) :
    (s.tellBuffers r).bufferState k = s.bufferState k ∨
      s.bufferState k = .free ∧ (s.tellBuffers r).bufferState k = .filling := by
  have hfold {f : BufferRecord → BufferRecord}
      (hf : ∀ q, (f q).state = q.state ∨ q.state = .free ∧ (f q).state = .filling) (ks : List BufferNo) :
      (s.onBuffers ks f).bufferState k = s.bufferState k ∨
        s.bufferState k = .free ∧ (s.onBuffers ks f).bufferState k = .filling := by
    refine List.foldlRecOn (motive := fun t : State => t.bufferState k = s.bufferState k ∨
      s.bufferState k = .free ∧ t.bufferState k = .filling) ks _ (.inl rfl) fun t ht j _ => ?_
    by_cases e : k = j
    · subst e
      rw [State.onBuffer_bufferState_self]
      have hq := hf (t.table.records.get k)
      rw [State.bufferState, State.bufferState] at ht
      rw [State.bufferState]
      rcases ht with ht | ⟨free, ht⟩ <;> rcases hq with hq | ⟨hfree, hq⟩
      · exact .inl (hq.trans ht)
      · exact .inr ⟨ht ▸ hfree, hq⟩
      · exact .inr ⟨free, hq.trans ht⟩
      · rw [ht] at hfree; cases hfree
    · rw [State.onBuffer_bufferState_of_ne _ _ e]
      exact ht
  unfold State.tellBuffers
  split
  · dsimp only
    split
    · exact hfold (f := BufferRecord.refusedWrite _) (fun _ => .inl rfl) _
    · refine hfold (fun q => ?_) _
      unfold BufferRecord.filled
      split
      next free => exact .inr ⟨by simpa using free, rfl⟩
      next => exact .inl rfl
  · exact .inl rfl

theorem tellBuffers_parts (s : State) (r : TxRecord) :
    (s.tellBuffers r).table.sweeping = s.table.sweeping ∧ (s.tellBuffers r).table.verifying = s.table.verifying := by
  have hfold (f : BufferRecord → BufferRecord) (ks : List BufferNo) :
      (s.onBuffers ks f).table.sweeping = s.table.sweeping ∧ (s.onBuffers ks f).table.verifying = s.table.verifying :=
    List.foldlRecOn (motive := fun t : State => t.table.sweeping = s.table.sweeping ∧
      t.table.verifying = s.table.verifying) ks _ ⟨rfl, rfl⟩ fun _ ht _ _ => ht
  unfold State.tellBuffers
  split
  · dsimp only
    split
    · exact hfold ..
    · exact hfold ..
  · exact ⟨rfl, rfl⟩

/-- In SETUP no buffer is told of a write. -/
theorem tellBuffers_of_setup (r : TxRecord) (h : s.governor = .setup) : s.tellBuffers r = s := by
  simp [State.tellBuffers, State.running, h]

theorem EnginesSettled.tellBuffers (h : EnginesSettled s) (r : TxRecord) : EnginesSettled (s.tellBuffers r) := by
  have frame : Unchanged [.table] s (s.tellBuffers r) := State.tellBuffers_unchanged r (by decide) (.refl _ _)
  have hbus : (s.tellBuffers r).bus = s.bus := frame.agree .bus (by decide)
  have hcues : (s.tellBuffers r).cues = s.cues := frame.agree .cues (by decide)
  obtain ⟨hsweeping, hverifying⟩ := tellBuffers_parts s r
  have states {st : BufferState} (hst : st ≠ .filling) (k : BufferNo)
      (hk : (s.tellBuffers r).bufferState k = st) : s.bufferState k = st := by
    rcases tellBuffers_bufferState s r k with e | ⟨-, e⟩
    · exact e ▸ hk
    · exact absurd (hk.symm.trans e) hst
  obtain ⟨sweeps, verifies, writesBack, asksWipe, asksVerify⟩ := h.busy
  refine .of_parts (h.held.tellBuffers r) ⟨?_, ?_, ?_, ?_, ?_⟩ fun hsetup => ?_
  · exact fun idle k hk => sweeps (hsweeping ▸ idle) k (states (by decide) k hk)
  · rintro idle e he ⟨hexpected, k, hbuffer, hk⟩
    exact verifies (hverifying ▸ idle) e (hcues ▸ he) ⟨hexpected, k, hbuffer, states (by decide) k hk⟩
  · rw [hbus, hcues]; exact writesBack
  · rw [hbus, hsweeping]; exact asksWipe
  · rw [hbus, hverifying]; exact asksVerify
  · have hgovernor : (s.tellBuffers r).governor = s.governor := frame.agree .governor (by decide)
    rw [hgovernor] at hsetup
    rw [tellBuffers_of_setup r hsetup]
    exact h.setup hsetup

theorem EnginesSettled.complete (h : EnginesSettled s) (st : Completion) : EnginesSettled (s.complete st) :=
  h.onBus rfl rfl rfl fun _ => rfl

/-- The record is opened; a forwarded burst takes a port that no engine holds. -/
theorem EnginesSettled.enact (h : EnginesSettled s) (r : TxRecord) (hport : s.bus.port = none) :
    EnginesSettled (s.enact r) := by
  have hopened : EnginesSettled (s.onBus fun b => { b with upstream := some r, presented := none }) :=
    h.onBus rfl rfl rfl fun _ => rfl
  have htold := hopened.tellBuffers r
  have htoldPort : ((s.onBus fun b => { b with upstream := some r, presented := none }).tellBuffers r).bus.port =
      none := by
    rw [(State.tellBuffers_unchanged (xs := [.table]) r (by decide) (.refl _ _)).agree .bus (by decide)]
    exact hport
  unfold State.enact
  dsimp only
  split
  · refine htold.onBus rfl rfl rfl fun e => ?_
    rw [BusState.inFlight_of_none htoldPort]
    rfl
  split
  · exact (htold.complete .refused).arbitrate
  · exact htold.arbitrate

theorem EnginesSettled.takeTransaction (h : EnginesSettled s) (p : Presented) (ready : s.portReady = true) :
    EnginesSettled (s.takeTransaction p) := by
  have hport : s.bus.port = none := by
    simp only [State.portReady, Bool.and_eq_true, Option.isNone_iff_eq_none] at ready
    exact ready.1.1.1.1
  have hbus : s.refreshStart.bus.port = s.bus.port := by
    have frame : Unchanged [.due, .tiles, .scan, .faults, .test, .link]
        (s.showRefreshStart.onBus fun b => { b with errorMark := false }) s.refreshStart := by
      unfold State.refreshStart
      exact State.addDuesFirst_unchanged _ (by decide) <| State.testStep_unchanged (by decide) <|
        State.silenceSteps_unchanged (by decide) <| State.judgeHeldReports_unchanged (by decide) <|
        State.closeRefresh_unchanged (by decide) <| State.rampAll_unchanged (by decide) <| .refl _ _
    rw [frame.agree .bus (by decide), State.onBus_bus,
      (State.showRefreshStart_unchanged (xs := [.due, .table, .cues, .face, .faults]) (by decide) (.refl _ _)).agree
        .bus (by decide)]
  have hready : EnginesSettled (if s.startsRefresh p then s.refreshStart else s).prepare := by
    split
    next starts =>
      refine .prepare h.held.refreshStart (.of_running ?_)
      have hgovernor : s.refreshStart.governor = s.governor :=
        (State.refreshStart_unchanged (xs := [.due, .bus, .table, .cues, .face, .tiles, .scan, .faults, .test, .link])
          (by decide) (.refl _ _)).agree .governor (by decide)
      simp only [State.startsRefresh, Bool.and_eq_true] at starts
      rw [State.running, hgovernor]
      exact starts.1.1.1.1
    next => exact .prepare h.held h.setup
  unfold State.takeTransaction
  dsimp only
  refine hready.enact _ ?_
  change (if s.startsRefresh p then s.refreshStart else s).wipeChoice.verifyChoice.bus.port = none
  have hchoice (u : State) : u.wipeChoice.verifyChoice.bus = u.bus := by
    rw [(State.verifyChoice_unchanged (xs := [.table]) (by decide) (.refl _ _)).agree .bus (by decide),
      (State.wipeChoice_unchanged (xs := [.table]) (by decide) (.refl _ _)).agree .bus (by decide)]
  rw [hchoice]
  split
  · rw [hbus, hport]
  · exact hport

theorem EnginesSettled.onBuses (h : EnginesSettled s) {f : BusState → BusState} {g : Burst → Burst}
    (hwriteBack : (f s.bus).writeBackReq = s.bus.writeBackReq) (hwipe : (f s.bus).wipeReq = s.bus.wipeReq)
    (hverify : (f s.bus).verifyReq = s.bus.verifyReq) (hport : (f s.bus).port = s.bus.port.map g)
    (hg : ∀ p, (g p).source = p.source) : EnginesSettled (s.onBus f) :=
  h.onBus hwriteBack hwipe hverify (BusState.inFlight_of_map hport hg)

theorem EnginesSettled.onCues_same (h : EnginesSettled s) {f : CueUnit → CueUnit}
    (hqueue : (f s.cues).queue = s.cues.queue) (hlist : (f s.cues).writeBack = s.cues.writeBack) :
    EnginesSettled (s.onCues f) := h.of_parts_eq rfl rfl hqueue hlist rfl rfl rfl rfl

theorem EnginesSettled.takeCueWord (h : EnginesSettled s) (n : SlotNo) (word : Nat) (d : DataWord) :
    EnginesSettled (s.takeCueWord n word d) := by
  unfold State.takeCueWord
  split
  · exact h.onCues_same rfl rfl
  split
  · exact h.onCues_same rfl rfl
  · exact h

theorem EnginesSettled.takeWord (h : EnginesSettled s) (r : TxRecord) (d : DataWord) :
    EnginesSettled (s.onBus fun b => b.takeWord r d) := by
  by_cases hforwarded : r.verdict.forwarded = true
  · refine h.onBuses (g := fun p => { p with data := p.data ++ [d] }) ?_ ?_ ?_ ?_ fun _ => rfl <;>
      simp [BusState.takeWord, hforwarded]
  · refine h.onBus ?_ ?_ ?_ fun e => BusState.inFlight_of_port ?_ e <;>
      simp [BusState.takeWord, hforwarded]

theorem EnginesSettled.writeWord (h : EnginesSettled s) (d : DataWord) : EnginesSettled (s.writeWord d) := by
  have handed (r : TxRecord) : EnginesSettled (s.handWord r d) := by
    unfold State.handWord
    dsimp only
    split
    · exact h.takeCueWord ..
    · exact h.of_unchanged (State.takeReportWord_unchanged _ _ _ (by decide) (.refl _ _))
    · exact h
  unfold State.writeWord
  split
  next r hr =>
    split
    · have htaken := (handed r).takeWord r d
      unfold State.finishRefused
      split
      · exact (htaken.complete _).arbitrate
      · exact htaken
    · exact h
  next => exact h

theorem EnginesSettled.readWord (h : EnginesSettled s) (w : Word) : EnginesSettled (s.readWord w) := by
  unfold State.readWord
  split
  next r hr =>
    split
    · have hdriven {u : State} (hu : EnginesSettled u) (w : Word) : EnginesSettled (u.drive r w) :=
        hu.onBus rfl rfl rfl fun _ => rfl
      have hdelivered : EnginesSettled (s.deliverWord r w) := by
        unfold State.deliverWord
        dsimp only
        split
        · exact hdriven (h.of_unchanged (State.countWord_unchanged _ _ (by decide) (.refl _ _))) _
        · exact hdriven h _
      unfold State.finishAnswer
      split
      · exact (hdelivered.complete _).arbitrate
      · exact hdelivered
    · exact h
  next => exact h

theorem EnginesSettled.shortEnd (h : EnginesSettled s) : EnginesSettled s.shortEnd := by
  unfold State.shortEnd
  split
  next r hr =>
    split
    · split
      case h_4 | h_5 => exact (h.complete _).arbitrate
      all_goals exact h.onBuses (g := fun p => { p with length := r.wordsDone }) rfl rfl rfl rfl fun _ => rfl
    · exact h
  next => exact h

/-! ## The ends of bursts -/

/-- What an operation leaves of SETUP: it moves no table, queue or list there, nor the governor anywhere. -/
theorem SetupIdle.of_setup (h : SetupIdle s) (hgovernor : t.governor = s.governor)
    (stands : s.governor = .setup → SetupIdle s →
      t.table = s.table ∧ t.cues.queue = s.cues.queue ∧ t.cues.writeBack = s.cues.writeBack) : SetupIdle t := by
  intro hsetup
  obtain ⟨htable, hqueue, hlist⟩ := stands (hgovernor ▸ hsetup) h
  exact h.of_parts hgovernor htable hqueue hlist hsetup

/-- Where something is at work the device is in RUNNING, and an operation that leaves the governor leaves it so. -/
theorem SetupIdle.of_work (h : SetupIdle s) (hgovernor : t.governor = s.governor)
    (work : s.table ≠ BufferTable.powerOn ∨ s.cues.queue ≠ [] ∨ s.cues.writeBack ≠ []) : SetupIdle t :=
  .of_running (by rw [State.running, hgovernor, h.running work]; rfl)

/-- In SETUP a watched write's status only drops what was noted. -/
theorem handStatus_of_setup (r : TxRecord) (st : MemStatus) (hsetup : s.governor = .setup) :
    (s.handStatus r st).table = s.table ∧ (s.handStatus r st).cues.queue = s.cues.queue ∧
      (s.handStatus r st).cues.writeBack = s.cues.writeBack := by
  have hrunning : s.running = false := by simp [State.running, hsetup]
  unfold State.handStatus
  simp only [hrunning, Bool.and_false, Bool.false_eq_true, if_false]
  split
  · exact ⟨rfl, rfl, rfl⟩
  split
  · exact ⟨rfl, rfl, rfl⟩
  · exact ⟨rfl, rfl, rfl⟩

theorem EnginesSettled.endForwarded (h : EnginesSettled s) (r : TxRecord) (st : MemStatus) :
    EnginesSettled (s.endForwarded r st) := by
  have held := (((h.held.freePort).complete (MemStatus.completion st)).handStatus r st).memoryErrorRecord r st
  have hfreed : SetupIdle (s.freePort.complete (MemStatus.completion st)) := h.setup
  have hrecord (u : State) : Unchanged [.bus, .faults] u (u.memoryErrorRecord r st) :=
    State.memoryErrorRecord_unchanged _ _ (by decide) (.refl _ _)
  unfold State.endForwarded
  refine .event held (SetupIdle.of_parts (hfreed.of_setup ?_ fun hsetup _ => handStatus_of_setup r st hsetup) ?_ ?_ ?_ ?_)
  · exact (State.handStatus_unchanged (xs := [.bus, .table, .cues, .face, .tiles, .scan, .faults, .test, .link]) r st
      (by decide) (.refl _ _)).agree .governor (by decide)
  · exact (hrecord _).agree .governor (by decide)
  · exact (hrecord _).agree .table (by decide)
  · rw [(hrecord _).agree .cues (by decide)]
  · rw [(hrecord _).agree .cues (by decide)]

/-- What an own burst's end does with a burst whose work stands. -/
theorem EnginesSettled.ownBurstEnd (h : EnginesSettled s) (e : Engine) {f : State → Burst → State}
    (held : s.bus.inFlight e = true → ∀ p, EnginesHeld (f s.freePort p))
    (setup : ∀ p, SetupIdle (f s.freePort p)) : EnginesSettled (s.ownBurstEnd e f) := by
  unfold State.ownBurstEnd
  split
  · exact h
  next p hp =>
    have busy : s.bus.inFlight e = true := by
      unfold State.ownBurst at hp
      split at hp
      next q hq =>
        simp only [Option.ite_none_right_eq_some, beq_iff_eq, Option.some.injEq] at hp
        exact BusState.inFlight_iff.mpr ⟨q, hq, hp.1⟩
      next => cases hp
    refine .event ?_ ?_
    · split
      · exact h.held.freePort
      · exact held busy p
    · split
      · exact h.setup
      · exact setup p

/-- In SETUP no buffer is RETIRING. -/
theorem freeRetired_of_powerOn (n : SlotNo) (h : s.table = BufferTable.powerOn) :
    (s.freeRetired n).table = s.table := by
  unfold State.freeRetired
  rw [State.onTable_table, h]
  rfl

theorem EnginesSettled.writeBackEnd (h : EnginesSettled s) (st : MemStatus) :
    EnginesSettled (s.ownBurstEnd .writeBack fun u p => u.endWriteBack p st) := by
  refine h.ownBurstEnd .writeBack (fun _ p => h.held.freePort.endWriteBack p st) fun p => ?_
  have hfreed : SetupIdle s.freePort := h.setup
  refine hfreed.of_setup ((State.endWriteBack_unchanged (xs := [.table, .cues, .faults]) p st (by decide)
    (.refl _ _)).agree .governor (by decide)) fun hsetup idle => ?_
  have hempty {u : State} (hu : u.table = BufferTable.powerOn) (n : SlotNo) :
      (u.emptySlot n).table = u.table ∧ (u.emptySlot n).cues.queue = u.cues.queue ∧
        (u.emptySlot n).cues.writeBack = u.cues.writeBack :=
    ⟨freeRetired_of_powerOn (s := u.onSlot n _) n hu, rfl, rfl⟩
  unfold State.endWriteBack
  split
  next n _ =>
    cases st with
    | ok =>
      dsimp only
      split
      · exact hempty (idle hsetup).1 n
      · exact ⟨rfl, rfl, rfl⟩
    | error =>
      dsimp only
      split
      · exact hempty (u := s.freePort.offer .resultLost none (natItem n.val)) (idle hsetup).1 n
      · exact ⟨rfl, rfl, rfl⟩
  · exact ⟨rfl, rfl, rfl⟩

theorem EnginesSettled.wipeEnd (h : EnginesSettled s) (st : MemStatus) :
    EnginesSettled (s.ownBurstEnd .wipe fun u _ => u.endWipe st) := by
  refine h.ownBurstEnd .wipe (fun busy _ => h.held.freePort.endWipe (h.held.work.wipeBusy busy) st) fun _ => ?_
  have hfreed : SetupIdle s.freePort := h.setup
  refine hfreed.of_setup ((State.endWipe_unchanged (xs := [.table, .faults, .link]) st (by decide)
    (.refl _ _)).agree .governor (by decide)) fun hsetup idle => ?_
  have hidle : s.freePort.table.sweeping = none := by rw [(idle hsetup).1]; rfl
  unfold State.endWipe
  rw [hidle]
  exact ⟨rfl, rfl, rfl⟩

theorem EnginesSettled.verifyEnd (h : EnginesSettled s) (st : MemStatus) (ws : List Word) :
    EnginesSettled (s.ownBurstEnd .verify fun u _ => u.endVerify st ws) := by
  refine h.ownBurstEnd .verify (fun busy _ => h.held.freePort.endVerify (h.held.work.verifyBusy busy) st ws) fun _ => ?_
  have hfreed : SetupIdle s.freePort := h.setup
  refine hfreed.of_setup ((State.endVerify_unchanged (xs := [.table, .cues]) st ws (by decide)
    (.refl _ _)).agree .governor (by decide)) fun hsetup idle => ?_
  have hidle : s.freePort.table.verifying = none := by rw [(idle hsetup).1]; rfl
  unfold State.endVerify
  rw [hidle]
  exact ⟨rfl, rfl, rfl⟩

end
end Sys2Proof.Safety
end

section
/-! SUPPORT. The engines through time, the gate, the resets and the services; the invariant of every step. -/

namespace Sys2Proof.Safety

open Sys2Proof.Machine

section
variable {s t : State}

/-! ## The counts that end (R57 to R59, R72) -/

theorem EnginesSettled.endHoldOff (h : EnginesSettled s) (n : SlotNo) : EnginesSettled (s.endHoldOff n) := by
  refine .event ⟨h.held.work.onCues (.inr rfl) fun e he => ?_, h.held.face.of_blocks rfl rfl⟩ fun hsetup => ?_
  · obtain ⟨q, hq, rfl⟩ := List.mem_map.mp he
    intro blank
    have same : (if q.slot == n then (if q.holdOff == 1 then { q with holdOff := 0 } else q) else q).kind = q.kind ∧
        (if q.slot == n then (if q.holdOff == 1 then { q with holdOff := 0 } else q) else q).buffer = q.buffer := by
      split
      · split <;> exact ⟨rfl, rfl⟩
      · exact ⟨rfl, rfl⟩
    rw [same.1] at blank
    rw [same.2]
    exact h.held.work.blanks q hq blank
  · obtain ⟨htable, hqueue, hlist⟩ := h.setup hsetup
    exact ⟨htable, by rw [State.onEntry, State.onCues_cues, hqueue]; rfl, hlist⟩

theorem EnginesSettled.expireCue (h : EnginesSettled s) (n : SlotNo) : EnginesSettled (s.expireCue n) := by
  unfold State.expireCue
  split
  next e he =>
    split
    · refine .event (h.held.endQueued e .expired) (h.setup.of_work ?_ (.inr (.inl ?_)))
      · exact (State.endQueued_unchanged (xs := [.bus, .table, .cues]) e .expired (by decide)
          (.refl _ _)).agree .governor (by decide)
      · exact List.ne_nil_of_mem (List.mem_of_find?_eq_some he)
    · exact h
  · exact h

theorem EnginesSettled.endNoticeTime (h : EnginesSettled s) (n : SlotNo) : EnginesSettled (s.endNoticeTime n) := by
  unfold State.endNoticeTime
  split
  · unfold State.handNoticeEnd
    split
    · exact h.of_parts_eq rfl rfl rfl rfl rfl rfl rfl rfl
    · exact h.of_parts_eq rfl rfl rfl rfl rfl rfl rfl rfl
  · exact h

/-- An event of the face that turns in neither what shows nor what is suspended. -/
theorem EnginesSettled.faceEvent (h : EnginesSettled s) {f : ShowUnit → ShowUnit}
    (hshowing : (f s.face).showing = s.face.showing) (hsuspended : (f s.face).suspended = s.face.suspended) :
    EnginesSettled (s.event fun u => u.onFace f) :=
  .event (f := fun u => u.onFace f) (h.held.onFace hshowing hsuspended) h.setup

/-- R57 to R59: a decisecond step moves no cue's kind, buffer or content check. -/
theorem EnginesSettled.decisecond (h : EnginesSettled s) : EnginesSettled s.decisecond := by
  have frame : Unchanged [.due, .cues, .face, .light] s s.decisecond :=
    State.decisecond_unchanged (by decide) (.refl _ _)
  have hbus : s.decisecond.bus = s.bus := frame.agree .bus (by decide)
  have htable : s.decisecond.table = s.table := frame.agree .table (by decide)
  have hsettings : s.decisecond.settings = s.settings := frame.agree .settings (by decide)
  have hgovernor : s.decisecond.governor = s.governor := frame.agree .governor (by decide)
  have hqueue : s.decisecond.cues.queue = s.cues.queue.map QueueEntry.step := rfl
  have hlist : s.decisecond.cues.writeBack = s.cues.writeBack := rfl
  have hshowing : s.decisecond.face.showing = s.face.showing := rfl
  have hsuspended : s.decisecond.face.suspended = s.face.suspended := rfl
  obtain ⟨⟨hsweep, hverify, hshown, hheld, hblanks⟩, hrequests, ⟨sweeps, verifies, asks⟩, hsetup⟩ := h
  refine ⟨⟨?_, ?_, ?_, ?_, ?_⟩, ?_, ⟨?_, ?_, ?_⟩, fun e => ?_⟩
  · simpa only [htable, State.bufferState] using hsweep
  · simpa only [htable, State.bufferState] using hverify
  · simpa only [htable, State.bufferState, hshowing] using hshown
  · simpa only [htable, State.bufferState, hsuspended] using hheld
  · intro e he
    rw [hqueue] at he
    obtain ⟨q, hq, rfl⟩ := List.mem_map.mp he
    exact hblanks q hq
  · simpa only [RequestsStand, hbus, htable, hlist, hsettings] using hrequests
  · simpa only [htable, State.bufferState] using sweeps
  · intro idle e he
    rw [hqueue] at he
    obtain ⟨q, hq, rfl⟩ := List.mem_map.mp he
    have hwaits := verifies (htable ▸ idle) q hq
    simpa only [WaitsForVerify, State.bufferState, htable, QueueEntry.step] using hwaits
  · simpa only [hbus, htable, hlist] using asks
  · obtain ⟨idleTable, idleQueue, idleList⟩ := hsetup (hgovernor ▸ e)
    exact ⟨htable.trans idleTable, by rw [hqueue, idleQueue]; rfl, hlist.trans idleList⟩

/-! ## The notice gate (R33 to R35) -/

/-- The gate moves, in RUNNING. -/
theorem EnginesSettled.setGate (h : EnginesSettled s) (running : s.running = true) (g : Gate) :
    EnginesSettled (s.setGate g) := by
  obtain ⟨hheld, hrequests, hbusy, -⟩ := h
  exact ⟨hheld, hrequests, hbusy, .of_running running⟩

/-- R24, R33: in SETUP the gate is closed. -/
theorem SetupIdle.gate (h : SetupIdle s) {n : Nat} (hgate : s.table.gate = .opened n) : s.running = true := by
  have work : s.table ≠ BufferTable.powerOn := fun e => by rw [e] at hgate; cases hgate
  exact beq_iff_eq.mpr (h.running (.inl work))

theorem EnginesSettled.secondStep (h : EnginesSettled s) : EnginesSettled s.secondStep := by
  have hclocked : EnginesSettled s.tickClock := h.of_unchanged (State.tickClock_unchanged (by decide) (.refl _ _))
  have hgovernor : s.tickClock.governor = s.governor :=
    (State.tickClock_unchanged (xs := [.light, .tiles]) (by decide) (.refl _ _)).agree .governor (by decide)
  unfold State.secondStep
  dsimp only
  split
  next n hgate =>
    split
    · exact hclocked.of_unchanged (State.addDue_unchanged _ (by decide) (.refl _ _))
    · exact hclocked.setGate (by rw [State.running, hgovernor]; exact h.setup.gate hgate) _
  next => exact hclocked

/-- In SETUP a gate closed is closed. -/
theorem SetupIdle.closeGate (h : SetupIdle s) : SetupIdle s.closeGate := by
  refine h.of_setup rfl fun hsetup idle => ⟨?_, rfl, rfl⟩
  have hgate : s.gateOpen = false := by
    unfold State.gateOpen
    rw [(idle hsetup).1]
    rfl
  have hclosed : s.table.gate = .closed := by rw [(idle hsetup).1]; rfl
  unfold State.closeGate
  simp only [hgate, Bool.false_and, Bool.false_eq_true, if_false]
  rw [State.onBuffer, State.onTable_table, State.setGate, State.onTable_table, (idle hsetup).1]
  rfl

theorem EnginesSettled.timeoutGate (h : EnginesSettled s) : EnginesSettled s.timeoutGate := by
  unfold State.timeoutGate
  split
  · split
    · exact .event h.held.closeGate h.setup.closeGate
    · exact h
  · exact h

theorem EnginesSettled.serveCloseGate (h : EnginesSettled s) : EnginesSettled s.serveCloseGate :=
  .event (f := fun u => u.closeGate.endService)
    (h.held.closeGate.of_unchanged (State.endService_unchanged (by decide) (.refl _ _))) h.setup.closeGate

/-- R39: a buffer the service may wipe stands idle. -/
theorem EnginesSettled.wipe (h : EnginesSettled s) (running : s.running = true) {k : BufferNo}
    (free : s.wipeRefused k = false) :
    EnginesSettled (s.event fun u => (u.onBuffer k BufferRecord.toWiping).setService .inProgress .none) := by
  have idle : Idle (s.bufferState k) := by
    unfold State.wipeRefused at free
    revert free
    cases s.bufferState k <;> (unfold Idle; decide)
  exact .event (f := fun u => (u.onBuffer k BufferRecord.toWiping).setService .inProgress .none)
    ((h.held.onBuffer_idle idle _).of_unchanged (State.setService_unchanged _ _ (by decide) (.refl _ _)))
    (.of_running running)

/-! ## The resets (R21 to R23, R31, R66) -/

theorem abandon_source (p : Burst) (u : Option TxRecord) :
    (match p.source, u with
      | .forwarded, some r =>
        { p with discarded := true, length := if r.direction == Direction.write then r.wordsDone else p.length }
      | _, _ => p).source = p.source := by
  split <;> rfl

theorem EnginesSettled.abandonUpstream (h : EnginesSettled s) : EnginesSettled s.abandonUpstream := by
  have hlined : EnginesSettled (s.onLines fun l => { l with fbrst := true }) :=
    h.of_unchanged (State.onLines_unchanged _ (by decide) (.refl _ _))
  exact hlined.onBuses rfl rfl rfl rfl fun p => abandon_source p s.bus.upstream

theorem EnginesSettled.upstreamReset (h : EnginesSettled s) : EnginesSettled s.upstreamReset := by
  have habandoned := h.abandonUpstream
  have hdropped : EnginesHeld (s.abandonUpstream.dropNotedCues.dropNotedReports) :=
    habandoned.held.dropNotedCues.of_unchanged (State.dropNotedReports_unchanged (by decide) (.refl _ _))
  have hgovernor (u : State) : u.cancelQueue.governor = u.governor :=
    (State.cancelQueue_unchanged (xs := [.bus, .table, .cues]) (by decide) (.refl _ _)).agree .governor (by decide)
  unfold State.upstreamReset
  refine EnginesSettled.onBus (.event ?_ ?_) (by simp) (by simp) (by simp)
    fun e => BusState.inFlight_of_port (by simp) e
  · exact hdropped.cancelQueue.upstreamResetRecords.onBus rfl rfl rfl fun _ => id
  · have hidle : SetupIdle (s.abandonUpstream.dropNotedCues.dropNotedReports) := habandoned.setup
    refine hidle.of_setup (hgovernor _) fun hsetup idle => ?_
    obtain ⟨idleTable, idleQueue, -⟩ := idle hsetup
    have hcancelled : (s.abandonUpstream.dropNotedCues.dropNotedReports).cancelQueue =
        s.abandonUpstream.dropNotedCues.dropNotedReports := by
      unfold State.cancelQueue
      rw [idleQueue]
      rfl
    dsimp only
    rw [hcancelled]
    refine ⟨?_, rfl, rfl⟩
    rw [State.onBus_table, State.onTable_table, idleTable]
    rfl

theorem EnginesSettled.powerOn (strap : Strap) : EnginesSettled (State.powerOn strap) := by
  refine ⟨⟨nofun, nofun, nofun, nofun, nofun⟩, ⟨.inl rfl, .inl rfl, .inl rfl, nofun, nofun, nofun⟩,
    ⟨fun _ k => ?_, nofun, fun e => absurd rfl e, nofun, nofun⟩, fun _ => ⟨rfl, rfl, rfl⟩⟩
  simp [State.bufferState, State.powerOn, BufferTable.powerOn, BufferRecord.powerOn]

theorem EnginesSettled.powerUp (s : State) (strap : Strap) : EnginesSettled (s.powerUp strap) := by
  unfold State.powerUp
  refine EnginesSettled.arbitrate (EnginesSettled.onBus ?_ rfl rfl rfl fun _ => rfl)
  exact (EnginesSettled.powerOn strap).of_parts_eq rfl rfl rfl rfl rfl rfl rfl rfl

/-- R22, R32, R67: RESTART leaves the engines nothing. -/
theorem EnginesSettled.restart (s : State) : EnginesSettled s.restart := by
  unfold State.restart
  refine EnginesSettled.arbitrate ⟨⟨nofun, nofun, nofun, nofun, nofun⟩,
    ⟨.inl rfl, .inl rfl, .inl rfl, fun _ => rfl, fun _ => rfl, fun _ => rfl⟩,
    ⟨fun _ k => ?_, nofun, fun e => absurd rfl e, nofun, nofun⟩, fun _ => ⟨rfl, rfl, rfl⟩⟩
  change (BufferTable.powerOn.records.get k).state ≠ .wiping
  simp [BufferTable.powerOn, BufferRecord.powerOn]

/-! ## The supervisor's writes (R187) and CLOSE SETUP (R190) -/

/-- In SETUP no request pends, so that the layout may move. -/
theorem EnginesSettled.of_setup (h : EnginesSettled s) (hsetup : s.governor = .setup) (hbus : t.bus = s.bus)
    (htable : t.table = s.table) (hcues : t.cues = s.cues) (hface : t.face = s.face)
    (hgovernor : t.governor = s.governor) : EnginesSettled t := by
  obtain ⟨hbuffers, ⟨hwriteBack, hwipe, hverify, hbusies⟩, hbusy, hidle⟩ := h
  obtain ⟨idleTable, -, idleList⟩ := hidle hsetup
  have noWriteBack : s.bus.writeBackReq = none := by simpa [idleList] using hwriteBack
  have noWipe : s.bus.wipeReq = none := by simpa [idleTable, BufferTable.powerOn] using hwipe
  have noVerify : s.bus.verifyReq = none := by simpa [idleTable, BufferTable.powerOn] using hverify
  refine ⟨?_, ⟨.inl (hbus ▸ noWriteBack), .inl (hbus ▸ noWipe), .inl (hbus ▸ noVerify), ?_⟩, ?_, ?_⟩
  · simpa only [BuffersHeld, State.bufferState, htable, hcues, hface] using hbuffers
  · rw [hbus]; exact hbusies
  · simpa only [EnginesBusy, WaitsForVerify, State.bufferState, hbus, htable, hcues] using hbusy
  · rw [SetupIdle, hgovernor, htable, hcues]; exact hidle

/-- R176, R187: a write that passes its checks moves the layout in SETUP alone. -/
theorem storeItem_layout {it : Item} {v : Half} (passes : s.writeRefusal it v = none) :
    s.governor = .setup ∨ (s.storeItem v it).settings.layout = s.settings.layout := by
  have hlight (u : State) : u.recomputeLight.settings = u.settings :=
    (State.recomputeLight_unchanged (xs := [.light, .tiles]) (by decide) (.refl _ _)).agree .settings (by decide)
  cases it with
  | layout i =>
    left
    have unlocked : s.running = false := by
      unfold State.writeRefusal at passes
      split at passes
      · cases passes
      split at passes
      · cases passes
      next unlocked => simpa [itemIsLayout] using unlocked
    cases hgovernor : s.governor with
    | setup => rfl
    | running => simp [State.running, hgovernor] at unlocked
  | operating i =>
    right
    have hstored (j : Fin 36) {u : State} (frame : Unchanged [.light, .tiles, .faults] (s.storeOperating j v) u) :
        u.settings.layout = s.settings.layout := by
      rw [frame.agree .settings (by decide)]
      rfl
    change (s.writeOperating i v).settings.layout = _
    unfold State.writeOperating
    split
    case h_1 | h_2 =>
      exact hstored _ (State.recomputeLight_unchanged (by decide) (State.setChannel_unchanged _ _ (by decide) (.refl _ _)))
    case h_13 | h_14 => exact hstored i (State.evaluateTiles_unchanged (by decide) (.refl _ _))
    case h_15 => exact hstored 22 (State.retargetAll_unchanged (by decide) (.refl _ _))
    case h_16 => exact hstored 23 (State.faceLimitCheck_unchanged (by decide) (.refl _ _))
    case h_21 => exact hstored i (.refl _ _)
    all_goals exact hstored i (State.recomputeLight_unchanged (by decide) (.refl _ _))
  | curve p f => exact .inr (by rw [State.storeItem, State.writeCurve, hlight]; rfl)
  | band b f => exact .inr (by rw [State.storeItem, State.writeBand, hlight]; rfl)
  | trim i =>
    exact .inr (by rw [State.storeItem, (State.setTrim_unchanged (xs := [.tiles]) i v.toNat (by decide)
      (.refl _ _)).agree .settings (by decide)])
  | _ => exact .inr rfl

theorem EnginesSettled.storeItem (h : EnginesSettled s) {it : Item} {v : Half}
    (passes : s.writeRefusal it v = none) : EnginesSettled (s.storeItem v it) := by
  have frame : Unchanged [.light, .tiles, .faults, .link, .settings] s (s.storeItem v it) :=
    State.storeItem_unchanged v it (by decide) (.refl _ _)
  have hcues : (s.storeItem v it).cues = s.cues := frame.agree .cues (by decide)
  have hface : (s.storeItem v it).face = s.face := frame.agree .face (by decide)
  rcases storeItem_layout passes with hsetup | hlayout
  · exact h.of_setup hsetup (frame.agree .bus (by decide)) (frame.agree .table (by decide)) hcues hface
      (frame.agree .governor (by decide))
  · exact h.of_parts_eq (frame.agree .bus (by decide)) (frame.agree .table (by decide)) (by rw [hcues]) (by rw [hcues])
      (by rw [hface]) (by rw [hface]) hlayout (frame.agree .governor (by decide))

theorem EnginesSettled.closeSetup (h : EnginesSettled s) : EnginesSettled s.closeSetup := by
  have hchecked (r : LayoutCheck × CheckWindows) : EnginesHeld (s.recordCheck r) :=
    (enginesHeld_iff _).mpr ((enginesHeld_iff s).mp h.held)
  unfold State.closeSetup
  split
  · exact h.of_unchanged (State.setService_unchanged _ _ (by decide) (.refl _ _))
  · refine .event ?_ ?_
    · unfold State.validateLayout
      dsimp only
      split
      · have hgoverned : EnginesHeld ((s.recordCheck s.settings.layout.check).withGovernor .running) :=
          (hchecked _).of_unchanged (State.withGovernor_unchanged _ (by decide) (.refl _ _))
        have hfaced : EnginesHeld (((s.recordCheck s.settings.layout.check).withGovernor .running).onFace fun f =>
            { f with dwell := .met, stallCount := 0, stalled := false }) := hgoverned.onFace rfl rfl
        exact hfaced.of_unchanged (State.setService_unchanged _ _ (by decide)
          (State.retargetAll_unchanged (by decide) (.refl _ _)))
      · exact (hchecked _).of_unchanged (State.setService_unchanged _ _ (by decide) (.refl _ _))
    · unfold State.validateLayout
      dsimp only
      split
      · exact .of_running rfl
      · exact h.setup

end

theorem event_lines {s : State} {f : State → State} (hf : (f s).lines = s.lines) : (s.event f).lines = s.lines := by
  have frame : Unchanged [.due, .bus, .table, .cues, .face] (f s) (s.event f) := (event_follows s f).blocks
  rw [frame.agree .lines (by decide), hf]

theorem ownBurstEnd_lines {s : State} (e : Engine) {f : State → Burst → State}
    (hf : ∀ p, (f s.freePort p).lines = s.freePort.lines) : (s.ownBurstEnd e f).lines = s.lines := by
  unfold State.ownBurstEnd
  split
  · rfl
  next p _ =>
    refine event_lines ?_
    split
    · rfl
    · exact hf p

/-- R21: the reset moves FBRST alone. -/
theorem upstreamReset_rstn (s : State) : s.upstreamReset.lines.rstn = s.lines.rstn := by
  have hcancelled (u : State) : u.cancelQueue.lines = u.lines :=
    (State.cancelQueue_unchanged (xs := [.bus, .table, .cues]) (by decide) (.refl _ _)).agree .lines (by decide)
  unfold State.upstreamReset
  rw [State.onBus_lines, event_lines]
  · rfl
  · dsimp only
    rw [State.onBus_lines, State.onTable_lines, hcancelled]
    rfl

/-- While RSTN is asserted only the release moves its line. -/
theorem Effect.rstn {s t : State} (e : Effect s t) (h : s.lines.rstn = true) :
    t.lines.rstn = true ∨ ∃ strap, t = s.powerUp strap := by
  have of {u : State} (frame : Unchanged [.pending, .due, .bus, .table, .cues, .face, .light, .tiles, .scan, .faults,
      .test, .wires, .link, .settings, .governor] s u) : u.lines.rstn = true ∨ ∃ strap, u = s.powerUp strap :=
    .inl (by rw [frame.agree .lines (by decide)]; exact h)
  cases e with
  | aside frame => exact of (frame.mono (by decide))
  | lines f hrst => exact .inl (hrst.trans h)
  | presented => exact .inl h
  | take p => exact of (State.takeTransaction_unchanged _ (by decide) (.refl _ _))
  | guardGrant => exact of (State.guardGrant_unchanged (by decide) (.refl _ _))
  | fallSilent i => exact of (State.fallSilent_unchanged i (by decide) (.refl _ _))
  | endWait => exact of (State.endWait_unchanged (by decide) (.refl _ _))
  | endHoldOff n => exact of (State.endHoldOff_unchanged n (by decide) (.refl _ _))
  | expireCue n => exact of (State.expireCue_unchanged n (by decide) (.refl _ _))
  | endNoticeTime n => exact of (State.endNoticeTime_unchanged n (by decide) (.refl _ _))
  | meetDwell => exact of (State.meetDwell_unchanged (by decide) (.refl _ _))
  | expirePairWait => exact of (State.expirePairWait_unchanged (by decide) (.refl _ _))
  | stallScan => exact of (State.stallScan_unchanged (by decide) (.refl _ _))
  | takeWindowEnd ch => exact of (State.takeWindowEnd_unchanged ch (by decide) (.refl _ _))
  | secondStep => exact of (State.secondStep_unchanged (by decide) (.refl _ _))
  | timeoutGate => exact of (State.timeoutGate_unchanged (by decide) (.refl _ _))
  | writeWord d => exact of (State.writeWord_unchanged d (by decide) (.refl _ _))
  | readWord w => exact of (State.readWord_unchanged w (by decide) (.refl _ _))
  | shortEnd => exact of (State.shortEnd_unchanged (by decide) (.refl _ _))
  | forwardedEnd _ _ r st => exact of (State.endForwarded_unchanged r st (by decide) (.refl _ _))
  | forwardedDrop =>
    exact of (State.after_unchanged _ (by decide) (State.freePort_unchanged (by decide) (.refl _ _)))
  | writeBackEnd st =>
    refine .inl ((congrArg Lines.rstn (ownBurstEnd_lines .writeBack fun p => ?_)).trans h)
    exact (State.endWriteBack_unchanged (xs := [.table, .cues, .faults]) p st (by decide) (.refl _ _)).agree .lines
      (by decide)
  | wipeEnd st =>
    refine .inl ((congrArg Lines.rstn (ownBurstEnd_lines .wipe fun p => ?_)).trans h)
    exact (State.endWipe_unchanged (xs := [.table, .faults, .link]) st (by decide) (.refl _ _)).agree .lines (by decide)
  | verifyEnd st ws =>
    refine .inl ((congrArg Lines.rstn (ownBurstEnd_lines .verify fun p => ?_)).trans h)
    exact (State.endVerify_unchanged (xs := [.table, .cues]) st ws (by decide) (.refl _ _)).agree .lines (by decide)
  | decisecond => exact of (State.decisecond_unchanged (by decide) (.refl _ _))
  | abandon => exact .inl h
  | upstreamReset => exact .inl ((upstreamReset_rstn s).trans h)
  | upstreamRelease =>
    refine .inl ?_
    have frame : Unchanged [.due, .bus, .cues] (s.onLines fun l => { l with fbrst := false }) s.upstreamRelease :=
      State.arbitrate_unchanged (by decide) (.refl _ _)
    rw [frame.agree .lines (by decide)]
    exact h
  | powerDown => exact .inl rfl
  | powerUp strap => exact .inr ⟨strap, rfl⟩
  | store => exact of (State.storeItem_unchanged _ _ (by decide) (.refl _ _))
  | takeFault => exact .inl h
  | closeSetup => exact of (State.closeSetup_unchanged (by decide) (.refl _ _))
  | restart => exact of (State.restart_unchanged (by decide) (.refl _ _))
  | setClock => exact of (State.setClock_unchanged _ _ _ (by decide) (.refl _ _))
  | openGate => exact .inl h
  | partnerHigh => exact of (State.partnerHigh_unchanged (by decide) (.refl _ _))
  | closeGate => exact of (State.serveCloseGate_unchanged (by decide) (.refl _ _))
  | wipe =>
    exact .inl ((congrArg Lines.rstn (event_lines (f := fun u => (u.onBuffer _ BufferRecord.toWiping).setService
      .inProgress .none) rfl)).trans h)
  | clearTile i => exact of (State.clearTile_unchanged i (by decide) (.refl _ _))
  | addReason x => exact of (State.addReason_unchanged x (by decide) (.refl _ _))
  | removeReason x => exact of (State.removeReason_unchanged x (by decide) (.refl _ _))

theorem Effect.engines {s t : State} (e : Effect s t) (h : EnginesSettled s) : t.lines.rstn = true ∨ EnginesSettled t := by
  cases e with
  | aside frame => exact .inr (h.of_unchanged (frame.mono (by decide)))
  | lines f => exact .inr (h.of_unchanged (State.onLines_unchanged f (by decide) (.refl _ _)))
  | presented => exact .inr (h.onBus rfl rfl rfl fun _ => rfl)
  | take p ready => exact .inr (h.takeTransaction _ ready)
  | guardGrant =>
    right
    unfold State.guardGrant
    split
    next free => exact h.grantOwn (by simp only [Bool.and_eq_true, Option.isNone_iff_eq_none] at free; exact free.1)
    next => exact h
  | fallSilent i => exact .inr (h.of_unchanged (State.fallSilent_unchanged i (by decide) (.refl _ _)))
  | endWait => exact .inr (h.of_unchanged (State.endWait_unchanged (by decide) (.refl _ _)))
  | endHoldOff n => exact .inr (h.endHoldOff n)
  | expireCue n => exact .inr (h.expireCue n)
  | endNoticeTime n => exact .inr (h.endNoticeTime n)
  | meetDwell =>
    right
    unfold State.meetDwell
    split
    · exact h.faceEvent rfl rfl
    · exact h
  | expirePairWait =>
    right
    unfold State.expirePairWait
    split
    · exact EnginesSettled.of_unchanged (h.of_parts_eq (t := s.onFace fun f => { f with pairWait := .expired })
        rfl rfl rfl rfl rfl rfl rfl rfl) (State.offer_unchanged _ _ _ (by decide) (.refl _ _))
    · exact h
  | stallScan =>
    right
    unfold State.stallScan
    split
    · exact EnginesSettled.of_unchanged (h.of_parts_eq (t := s.onFace fun f => { f with stalled := true })
        rfl rfl rfl rfl rfl rfl rfl rfl)
        (State.stallTest_unchanged (by decide) (State.offer_unchanged _ _ _ (by decide) (.refl _ _)))
    · exact h
  | takeWindowEnd ch => exact .inr (h.of_unchanged (State.takeWindowEnd_unchanged ch (by decide) (.refl _ _)))
  | secondStep => exact .inr h.secondStep
  | timeoutGate => exact .inr h.timeoutGate
  | writeWord d => exact .inr (h.writeWord d)
  | readWord w => exact .inr (h.readWord w)
  | shortEnd => exact .inr h.shortEnd
  | forwardedEnd _ _ r st => exact .inr (h.endForwarded r st)
  | forwardedDrop => exact .inr (.event h.held.freePort h.setup)
  | writeBackEnd st => exact .inr (h.writeBackEnd st)
  | wipeEnd st => exact .inr (h.wipeEnd st)
  | verifyEnd st ws => exact .inr (h.verifyEnd st ws)
  | decisecond => exact .inr h.decisecond
  | abandon => exact .inr h.abandonUpstream
  | upstreamReset => exact .inr h.upstreamReset
  | upstreamRelease =>
    exact .inr (EnginesSettled.arbitrate (h.of_unchanged (State.onLines_unchanged (fun l => { l with fbrst := false })
      (by decide) (.refl _ _))))
  | powerDown => exact .inl rfl
  | powerUp strap => exact .inr (.powerUp s strap)
  | store passes => exact .inr (h.storeItem passes)
  | takeFault => exact .inr (h.of_unchanged (State.onFaults_unchanged _ (by decide) (.refl _ _)))
  | closeSetup => exact .inr h.closeSetup
  | restart => exact .inr (.restart s)
  | setClock => exact .inr (h.of_unchanged (State.setClock_unchanged _ _ _ (by decide) (.refl _ _)))
  | openGate running n => exact .inr (h.setGate running _)
  | partnerHigh =>
    right
    unfold State.partnerHigh
    split
    · exact h.of_parts_eq rfl rfl rfl rfl rfl rfl rfl rfl
    · exact h
  | closeGate => exact .inr h.serveCloseGate
  | wipe running free => exact .inr (h.wipe running free)
  | clearTile i => exact .inr (h.of_unchanged (State.clearTile_unchanged i (by decide) (.refl _ _)))
  | addReason x => exact .inr (h.of_unchanged (State.addReason_unchanged x (by decide) (.refl _ _)))
  | removeReason x => exact .inr (h.of_unchanged (State.removeReason_unchanged x (by decide) (.refl _ _)))

/-- Settles O8: an event ends with the engines settled; RSTN's release leaves them settled afresh. -/
theorem enginesStaySettled : Obligations.EnginesStaySettled := by
  intro s t h hstep
  rcases step_cases hstep with rfl | ⟨c, rest, _, answers⟩
  · exact h
  · refine (exec_effects answers).induct (P := fun u => u.lines.rstn = true ∨ EnginesSettled u) (fun e hu => ?_)
      (h : (s.withPending rest).lines.rstn = true ∨ EnginesSettled (s.withPending rest))
    rcases hu with hrst | settled
    · rcases e.rstn hrst with hrst | ⟨strap, rfl⟩
      · exact .inl hrst
      · exact .inr (.powerUp _ strap)
    · exact e.engines settled

end Sys2Proof.Safety
end

section
/-! SUPPORT. The rows on a device out of reset with nothing due (log 2): each is its effect alone, and the row of a due
event takes that event. -/

namespace Sys2Proof.Machine

section
variable {s : State}

theorem State.settle_of_nil (h : s.due = []) : s.settle = s := State.settleWithin_of_nil h settleBound

theorem State.settle_lines (s : State) : s.settle.lines = s.lines :=
  (State.settle_unchanged (xs := [.due, .bus, .table, .cues, .face, .light, .tiles, .scan, .faults, .test, .link])
    (by decide) (.refl _ _)).agree .lines (by decide)

/-- An event that stands due is taken by its own row. -/
theorem State.takeIfDue_of_due {e : DueEvent} (hrst : s.lines.rstn = false) (due : e ∈ s.due) :
    s.takeIfDue e = (s.dropDue e).takeDue e := by
  simp [State.takeIfDue, hrst, due]

theorem State.takeIfDue_of_not_due {e : DueEvent} (h : ¬ (s.lines.rstn = false ∧ e ∈ s.due)) : s.takeIfDue e = s := by
  unfold State.takeIfDue
  rw [if_neg]
  simpa using h

end
end Sys2Proof.Machine

namespace Sys2Proof.Safety

open Sys2Proof.Machine

section
variable {s t u : State}

theorem act_of_quiet (quiet : Quiet s) (f : State → State) : s.act f = f s := State.act_of_settled quiet.1 quiet.2 f

theorem settle_of_quiet (quiet : Quiet s) : s.settle = s := State.settle_of_nil quiet.2

/-- A command that only acts, on a quiet device. -/
theorem Runs.of_act {c : Instr} {f : State → State} {post : State → Prop} (quiet : Quiet s)
    (hexec : exec c s = .next (s.act f)) (h : post (f s)) : Runs c s post :=
  ⟨f s, by rw [hexec, act_of_quiet quiet], h⟩

theorem exec_of_act {c : Instr} {f : State → State} (quiet : Quiet s) (hexec : exec c s = .next (s.act f)) :
    exec c s = .next (f s) := by rw [hexec, act_of_quiet quiet]

/-- The row of a due event. -/
theorem exec_rowOfDue (e : DueEvent) (s : State) : exec (rowOfDue e) s = .next (s.takeIfDue e) := by
  cases e <;> rfl

theorem exec_of_due {e : DueEvent} (due : Due e s) : exec (rowOfDue e) s = .next ((s.dropDue e).takeDue e) := by
  rw [exec_rowOfDue, State.takeIfDue_of_due due.1 due.2]

theorem Runs.of_due {e : DueEvent} {post : State → Prop} (due : Due e s) (h : post ((s.dropDue e).takeDue e)) :
    Runs (rowOfDue e) s post := ⟨_, exec_of_due due, h⟩

theorem Runs.of_next {c : Instr} {post : State → Prop} (hexec : exec c s = .next t) (h : post t) : Runs c s post :=
  ⟨t, hexec, h⟩

/-! ## What a command may answer -/

/-- Three commands may answer other than with a next state. -/
theorem exec_next_or (c : Instr) (s : State) : (∃ t, exec c s = .next t) ∨ (∃ p, c = .transactionTake (some p)) ∨
    (∃ st, c = .forwardedBurstEnd st) ∨ ∃ st ws, c = .verifyBurstEnd st ws := by
  cases c
  case transactionTake p =>
    cases p with
    | none => exact .inl ⟨_, rfl⟩
    | some p => exact .inr (.inl ⟨p, rfl⟩)
  case forwardedBurstEnd st => exact .inr (.inr (.inl ⟨st, rfl⟩))
  case verifyBurstEnd st ws => exact .inr (.inr (.inr ⟨st, ws, rfl⟩))
  all_goals exact .inl ⟨_, rfl⟩

theorem execTransactionTake_some (p : Presented) (s : State) : exec (.transactionTake (some p)) s =
    if p.wellFormed then .next (if s.lines.rstn then s.hold p else s.settle.present p)
    else .refused (.illFormed "TRANSACTION_TAKE") := rfl

theorem exec_verifyBurstEnd (st : MemStatus) (ws : List Word) (s : State) : exec (.verifyBurstEnd st ws) s =
    if Instr.wellFormed (.verifyBurstEnd st ws) then
      .next (s.act fun t => t.ownBurstEnd .verify fun u _ => u.endVerify st ws)
    else .refused (.illFormed "VERIFY_BURST_END") := rfl

/-- The end of a forwarded burst is a next state, but that an early end is a fault. -/
theorem exec_forwardedBurstEnd (st : MemStatus) (s : State) : (∃ t, exec (.forwardedBurstEnd st) s = .next t) ∨
    exec (.forwardedBurstEnd st) s = .fault .memoryEndsEarly ∧ s.lines.rstn = false ∧
      ∃ r, s.settle.bus.upstream = some r ∧ r.endsEarly st = true := by
  change (∃ t, execForwardedBurstEnd st s = .next t) ∨ execForwardedBurstEnd st s = _ ∧ _
  unfold execForwardedBurstEnd
  split
  · exact .inl ⟨_, rfl⟩
  next hrst =>
    unfold State.endForwardedBurst
    split
    next p r hp hr =>
      split
      · exact .inl ⟨_, rfl⟩
      split
      next early => exact .inr ⟨rfl, by simpa using hrst, r, hr, early⟩
      next => exact .inl ⟨_, rfl⟩
    · exact .inl ⟨_, rfl⟩
    · exact .inl ⟨_, rfl⟩

/-- Settles O11: every other command answers a next state whatever its operands. -/
theorem onlyIllFormedEndsStop : Obligations.OnlyIllFormedEndsStop := by
  constructor
  · intro c s r
    constructor
    · intro refused
      rcases exec_next_or c s with ⟨t, answers⟩ | ⟨p, rfl⟩ | ⟨st, rfl⟩ | ⟨st, ws, rfl⟩
      · rw [answers] at refused
        cases refused
      · rw [execTransactionTake_some] at refused
        split at refused
        · cases refused
        next illFormed =>
          cases refused
          exact ⟨by simpa [Instr.wellFormed] using illFormed, .inl ⟨p, rfl, rfl⟩⟩
      · rcases exec_forwardedBurstEnd st s with ⟨t, answers⟩ | ⟨answers, -⟩ <;> rw [answers] at refused <;> cases refused
      · rw [exec_verifyBurstEnd] at refused
        split at refused
        · cases refused
        next illFormed =>
          cases refused
          exact ⟨by simpa using illFormed, .inr ⟨st, ws, rfl, rfl⟩⟩
    · rintro ⟨illFormed, ⟨p, rfl, rfl⟩ | ⟨st, ws, rfl, rfl⟩⟩
      · rw [execTransactionTake_some, if_neg (by simpa [Instr.wellFormed] using illFormed)]
      · rw [exec_verifyBurstEnd, if_neg (by simpa using illFormed)]
  · intro c s f faulted
    rcases exec_next_or c s with ⟨t, answers⟩ | ⟨p, rfl⟩ | ⟨st, rfl⟩ | ⟨st, ws, rfl⟩
    · rw [answers] at faulted
      cases faulted
    · rw [execTransactionTake_some] at faulted
      split at faulted <;> cases faulted
    · rcases exec_forwardedBurstEnd st s with ⟨t, answers⟩ | ⟨-, hrst, early⟩
      · rw [answers] at faulted
        cases faulted
      · exact ⟨st, rfl, hrst, early⟩
    · rw [exec_verifyBurstEnd] at faulted
      split at faulted <;> cases faulted

/-! ## What stands due -/

/-- An effect after what was due finds it already taken. -/
theorem act_settle (hrst : s.lines.rstn = false) (hdue : s.settle.due = []) (f : State → State) :
    s.act f = s.settle.act f := by
  rw [State.act_of_settled (s.settle_lines ▸ hrst) hdue]
  simp [State.act, hrst]

/-- Settles O10: a command's effect comes after what was due, and settling twice is settling once. -/
theorem dueEventsComeFirst : Obligations.DueEventsComeFirst := by
  refine ⟨fun c s first hrst hdue => ?_, fun e s due => exec_of_due due, fun e s notDue => ?_⟩
  · have hrst' : s.settle.lines.rstn = false := s.settle_lines ▸ hrst
    have hsettled : s.settle.settle = s.settle := State.settle_of_nil hdue
    have hacts (f : State → State) : (.next (s.act f) : Answer) = .next (s.settle.act f) :=
      congrArg _ (act_settle hrst hdue f)
    cases c
    case transactionTake p =>
      cases p with
      | none => cases first
      | some p => simp only [execTransactionTake_some, hrst, hrst', hsettled, Bool.false_eq_true, if_false]
    case forwardedBurstEnd st =>
      simp only [exec, execForwardedBurstEnd, hrst, hrst', hsettled, Bool.false_eq_true, if_false]
    case verifyBurstEnd st ws => simp only [exec_verifyBurstEnd, hacts]
    case upstreamReset => simp only [exec, execUpstreamReset, s.settle_lines, hrst, hsettled, Bool.false_eq_true, if_false]
    case upstreamResetRelease =>
      simp only [exec, execUpstreamResetRelease, s.settle_lines, hrst, hsettled, Bool.false_eq_true, if_false]
    case partnerRise level =>
      simp only [exec, execPartnerRise, s.settle_lines, hrst, hsettled, Bool.false_eq_true, if_false]
    case starvationGuardClaim | silent | testWaitExpiry | holdOffEnd | cueExpiry | noticeTimeEnd | dwellMet |
        pairWaitExpiry | scanStall | gateWindowEnd | jump | sensorDead | sensorSaturated | secondStep |
        noticeGateTimeout | powerOnRelease => cases first
    all_goals exact hacts _
  · rw [exec_rowOfDue, State.takeIfDue_of_not_due notDue]

/-! ## The port that is not ready (R18) -/

/-- Settles O12: a transaction presented waits for the port, whatever it is. -/
theorem takeHoldsWhileNotReady : Obligations.TakeHoldsWhileNotReady := by
  intro p s hformed hdue busy
  rw [execTransactionTake_some, if_pos hformed]
  cases hrst : s.lines.rstn with
  | true => rfl
  | false =>
    have hbusy : (s.onBus fun b => { b with presented := some p }).portReady = false := by
      cases hready : (s.onBus fun b => { b with presented := some p }).portReady with
      | false => rfl
      | true =>
        have hclaims : BusState.guardClaims { s.bus with presented := some p } = s.bus.guardClaims := rfl
        simp only [State.portReady, State.onBus_bus, State.onBus_lines, hclaims, Bool.and_eq_true,
          Option.isNone_iff_eq_none, Bool.not_eq_true'] at hready
        obtain ⟨⟨⟨⟨hport, hupstream⟩, hguard⟩, hfbrst⟩, -⟩ := hready
        simp [hport, hupstream, hguard, hfbrst, hrst] at busy
    simp only [Bool.false_eq_true, if_false, State.settle_of_nil hdue, State.present]
    split
    · rfl
    · simp [State.takePresented, hbusy]

/-! ## Own bursts given up (R15) -/

theorem ownBurst_eq_some {e : Engine} {p : Burst} :
    s.ownBurst e = some p ↔ s.bus.port = some p ∧ p.source = .own e := by
  unfold State.ownBurst
  cases s.bus.port with
  | none => simp
  | some q =>
    simp only [Option.ite_none_right_eq_some, beq_iff_eq, Option.some.injEq]
    constructor
    · rintro ⟨own, rfl⟩
      exact ⟨rfl, own⟩
    · rintro ⟨rfl, own⟩
      exact ⟨own, rfl⟩

theorem ownBurstEnd_of_none {e : Engine} (f : State → Burst → State)
    (h : ∀ p, s.bus.port = some p → p.source ≠ .own e) : s.ownBurstEnd e f = s := by
  have hnone : s.ownBurst e = none := by
    cases hown : s.ownBurst e with
    | none => rfl
    | some p =>
      obtain ⟨hport, own⟩ := ownBurst_eq_some.mp hown
      exact absurd own (h p hport)
  unfold State.ownBurstEnd
  rw [hnone]

theorem ownBurstEnd_of_some {e : Engine} {p : Burst} (f : State → Burst → State) (hport : s.bus.port = some p)
    (own : p.source = .own e) :
    s.ownBurstEnd e f = s.event fun t => if p.discarded then t.freePort else f t.freePort p := by
  unfold State.ownBurstEnd
  rw [ownBurst_eq_some.mpr ⟨hport, own⟩]

/-- The end of a burst given up frees the port, and what follows every event follows. -/
theorem ownBurstEnd_of_discarded {e : Engine} {p : Burst} (f : State → Burst → State) (hport : s.bus.port = some p)
    (own : p.source = .own e) (discarded : p.discarded = true) : Follows s.freePort (s.ownBurstEnd e f) := by
  rw [ownBurstEnd_of_some f hport own]
  have h := event_follows s fun t => if p.discarded then t.freePort else f t.freePort p
  simpa only [discarded, if_true] using h

/-- Settles O34: the three rows are one operation on the engine's burst. -/
theorem discardedOwnBurstsEnd : Obligations.DiscardedOwnBurstsEnd := by
  intro c e s quiet row
  have hrow : ∃ f, exec c s = .next (s.act fun t => t.ownBurstEnd e f) := by
    rcases row with ⟨rfl, st, rfl⟩ | ⟨rfl, st, rfl⟩ | ⟨rfl, st, ws, rfl, hformed⟩
    · exact ⟨_, rfl⟩
    · exact ⟨_, rfl⟩
    · exact ⟨_, by rw [exec_verifyBurstEnd, if_pos hformed]⟩
  obtain ⟨f, hexec⟩ := hrow
  refine ⟨fun p hport own discarded => ?_, fun other => ?_⟩
  · exact .of_act quiet hexec (ownBurstEnd_of_discarded f hport own discarded)
  · rw [exec_of_act quiet hexec, ownBurstEnd_of_none f other]

end
end Sys2Proof.Safety
end

section
/-! SUPPORT. Item numbers and the items they name (R178, R179), and the values after power-on. -/

namespace Sys2Proof.Machine

/-! ## Item numbers -/

theorem itemNumber_eq (table : Nat) {index : Nat} (h : index < 256) :
    itemNumber table index = BitVec.ofNat 16 (256 * table + index) := by
  apply BitVec.eq_of_toNat_eq
  have hindex : index % 2 ^ 8 = index := Nat.mod_eq_of_lt h
  rw [itemNumber, BitVec.toNat_append, BitVec.toNat_ofNat, BitVec.toNat_ofNat, BitVec.toNat_ofNat, hindex,
    ← Nat.shiftLeft_add_eq_or_of_lt h, Nat.shiftLeft_eq]
  omega

/-- A number is the one of its high byte's table and its low byte's index. -/
theorem eq_itemNumber (n : Half) : n = itemNumber (n.extractLsb' 8 8).toNat (n.extractLsb' 0 8).toNat := by
  rw [itemNumber_eq _ (n.extractLsb' 0 8).isLt]
  apply BitVec.eq_of_toNat_eq
  have hn := n.isLt
  simp only [BitVec.extractLsb'_toNat, BitVec.toNat_ofNat, Nat.shiftRight_eq_div_pow]
  omega

theorem itemNumber_table (table index : Nat) : ((itemNumber table index).extractLsb' 8 8).toNat = table % 256 := by
  have htable : table % 2 ^ 8 < 2 ^ 8 := Nat.mod_lt _ (by decide)
  have hindex : index % 2 ^ 8 < 2 ^ 8 := Nat.mod_lt _ (by decide)
  rw [itemNumber, BitVec.extractLsb'_toNat, BitVec.toNat_append, BitVec.toNat_ofNat, BitVec.toNat_ofNat,
    ← Nat.shiftLeft_add_eq_or_of_lt hindex, Nat.shiftLeft_eq, Nat.shiftRight_eq_div_pow]
  omega

theorem itemNumber_index (table index : Nat) : ((itemNumber table index).extractLsb' 0 8).toNat = index % 256 := by
  have hindex : index % 2 ^ 8 < 2 ^ 8 := Nat.mod_lt _ (by decide)
  rw [itemNumber, BitVec.extractLsb'_toNat, BitVec.toNat_append, BitVec.toNat_ofNat, BitVec.toNat_ofNat,
    ← Nat.shiftLeft_add_eq_or_of_lt hindex, Nat.shiftLeft_eq, Nat.shiftRight_eq_div_pow]
  omega

@[simp] theorem finOf?_val {n : Nat} (i : Fin n) : finOf? n i.val = some i := by simp [finOf?]

theorem finOf?_eq_some {n i : Nat} {x : Fin n} : finOf? n i = some x ↔ x.val = i := by
  unfold finOf?
  split
  next h =>
    rw [Option.some.injEq]
    exact ⟨fun e => by rw [← e], fun e => by subst e; rfl⟩
  next h =>
    simp only [reduceCtorEq, false_iff]
    rintro rfl
    exact h x.isLt

theorem BandField.ofNumber_eq_some {n : Nat} {f : BandField} : BandField.ofNumber n = some f ↔ f.number = n := by
  constructor
  · unfold BandField.ofNumber
    split <;> (intro h; cases h; try rfl)
  · rintro rfl
    cases f <;> rfl

/-- Every item has a number of its own. -/
theorem itemOf_number (it : Item) : itemOf it.number = some it := by
  have hlow {i : Nat} (h : i < 256) : i % 256 = i := Nat.mod_eq_of_lt h
  cases it with
  | status i | layout i | operating i | trim i | faultWindow i | snapshot i =>
    have hi : i.val % 256 = i.val := hlow (by omega)
    simp [itemOf, Item.number, -BitVec.extractLsb'_toNat, itemNumber_table, itemNumber_index, hi]
  | curve p f => exact itemOf_curve_number p f
  | band b f =>
    have hf : f.number < 8 := by cases f <;> decide
    have hi : (8 * b.val + f.number) % 256 = 8 * b.val + f.number := hlow (by omega)
    have hb : (8 * b.val + f.number) / 8 = b.val := by omega
    have hm : (8 * b.val + f.number) % 8 = f.number := by omega
    simp [itemOf, Item.number, -BitVec.extractLsb'_toNat, itemNumber_table, itemNumber_index, hi, bandItemOf, hb, hm,
      BandField.ofNumber_eq_some.mpr rfl]
  | param i => revert i; decide
  | call | serviceStatus | tileSelect | gateState | gateSeconds => decide
  | tileField i => 
    have hi : (i.val + 1) % 256 = i.val + 1 := hlow (by omega)
    simp [itemOf, Item.number, -BitVec.extractLsb'_toNat, itemNumber_table, itemNumber_index, hi, tileItemOf]
  | bufferField k f =>
    have hi : (8 * k.val + f.val) % 256 = 8 * k.val + f.val := hlow (by omega)
    have hk : (8 * k.val + f.val) / 8 = k.val := by omega
    have hm : (8 * k.val + f.val) % 8 = f.val := by omega
    have h64 : 8 * k.val + f.val ≠ 64 := by omega
    have h65 : 8 * k.val + f.val ≠ 65 := by omega
    simp [itemOf, Item.number, -BitVec.extractLsb'_toNat, itemNumber_table, itemNumber_index, hi, bufferItemOf, hk, hm, h64, h65]
  | testField i =>
    have hi : i.val % 256 = i.val := hlow (by omega)
    have h16 : i.val < 16 := by omega
    simp [itemOf, Item.number, -BitVec.extractLsb'_toNat, itemNumber_table, itemNumber_index, hi, testItemOf, h16]
  | testNamed i =>
    have hi : (i.val + 16) % 256 = i.val + 16 := hlow (by omega)
    simp [itemOf, Item.number, -BitVec.extractLsb'_toNat, itemNumber_table, itemNumber_index, hi, testItemOf]

/-- A number that names an item is that item's. -/
theorem number_of_itemOf {n : Half} {it : Item} (h : itemOf n = some it) : it.number = n := by
  rw [eq_itemNumber n]
  revert h
  unfold itemOf
  dsimp only
  generalize (n.extractLsb' 8 8).toNat = table
  generalize (n.extractLsb' 0 8).toNat = i
  have mapped {m : Nat} {c : Fin m → Item} {j table : Nat} (hc : ∀ x, (c x).number = itemNumber table x.val)
      (h : (finOf? m j).map c = some it) : it.number = itemNumber table j := by
    obtain ⟨x, hx, rfl⟩ := Option.map_eq_some_iff.mp h
    rw [hc, finOf?_eq_some.mp hx]
  split
  · exact mapped fun _ => rfl
  · exact mapped fun _ => rfl
  · exact mapped fun _ => rfl
  · intro h
    obtain ⟨p, hp, rfl⟩ := Option.map_eq_some_iff.mp h
    rw [finOf?_eq_some] at hp
    simp only [Item.number]
    congr 1
    split
    next even => rw [CurveField.number]; omega
    next odd => rw [CurveField.number]; omega
  · intro h
    obtain ⟨b, hb, h⟩ := Option.bind_eq_some_iff.mp h
    obtain ⟨f, hf, rfl⟩ := Option.map_eq_some_iff.mp h
    rw [finOf?_eq_some] at hb
    rw [BandField.ofNumber_eq_some] at hf
    simp only [Item.number]
    congr 1
    omega
  · exact mapped fun _ => rfl
  · unfold serviceItemOf
    split
    next e => rintro ⟨⟩; rw [e]; rfl
    split
    next e => rintro ⟨⟩; rw [e]; rfl
    exact mapped fun _ => rfl
  · exact mapped fun _ => rfl
  · exact mapped fun _ => rfl
  · unfold tileItemOf
    split
    next e => rintro ⟨⟩; rw [e]; rfl
    next e =>
      intro h
      obtain ⟨x, hx, rfl⟩ := Option.map_eq_some_iff.mp h
      rw [finOf?_eq_some] at hx
      simp only [Item.number]
      congr 1
      omega
  · unfold bufferItemOf
    split
    next e => rintro ⟨⟩; rw [e]; rfl
    split
    next e => rintro ⟨⟩; rw [e]; rfl
    intro h
    obtain ⟨k, hk, h⟩ := Option.bind_eq_some_iff.mp h
    obtain ⟨f, hf, rfl⟩ := Option.map_eq_some_iff.mp h
    rw [finOf?_eq_some] at hk hf
    simp only [Item.number]
    congr 1
    omega
  · unfold testItemOf
    split
    · exact mapped fun _ => rfl
    next e =>
      intro h
      obtain ⟨x, hx, rfl⟩ := Option.map_eq_some_iff.mp h
      rw [finOf?_eq_some] at hx
      simp only [Item.number]
      congr 1
      omega
  · nofun

end Sys2Proof.Machine

namespace Sys2Proof.Safety

open Sys2Proof.Machine

/-- Settles O9: the round trip by each table's arithmetic, and the codes by evaluation. -/
theorem itemNumbersRoundTrip : Obligations.ItemNumbersRoundTrip := by
  refine ⟨itemOf_number, fun n it => number_of_itemOf, ?_⟩
  intro place
  have hplace (table : Nat) {index : Nat} (h : index < 256) : itemNumber table index = place table index :=
    itemNumber_eq table h
  refine ⟨fun i => hplace 0 (by omega), fun i => hplace 1 (by omega), fun i => hplace 2 (by omega),
    fun p => ⟨hplace (index := 2 * p.val) 3 (by omega), hplace (index := 2 * p.val + 1) 3 (by omega)⟩, fun b => ?_, fun i => hplace 5 (by omega),
    fun i => hplace 8 (by omega), by decide, by decide, fun i => hplace 9 (by omega), fun i => hplace 10 (by omega),
    by decide, fun i => hplace 16 (by omega), fun k f => hplace 17 (by omega), by decide, by decide,
    fun i => hplace 18 (by omega), fun i => hplace 18 (by omega), fun g => ⟨rfl, rfl, rfl, rfl⟩, ?_⟩
  · have hfield (f : BandField) : (Item.band b f).number = place 4 (8 * b.val + f.number) := by
      have hf : f.number < 8 := by cases f <;> decide
      exact hplace 4 (by omega)
    simp only [List.map_cons, List.map_nil, hfield]
    rfl
  · decide

end Sys2Proof.Safety
end

section
/-! SUPPORT. The device as RSTN is released (R192). -/

namespace Sys2Proof.Safety

open Sys2Proof.Machine

/-! ## Every record at its values after power-on -/

theorem powerOn_buffer (strap : Strap) (k : BufferNo) :
    (State.powerOn strap).table.records.get k = BufferRecord.powerOn := Table.get_fill ..

theorem powerOn_slot (strap : Strap) (n : SlotNo) : (State.powerOn strap).slot n = SlotRecord.powerOn :=
  Table.get_fill ..

theorem powerOn_tile (strap : Strap) (i : TileNo) : (State.powerOn strap).tile i = TileRecord.powerOn :=
  Table.get_fill ..

theorem powerOn_channel (strap : Strap) (ch : Channel) :
    (State.powerOn strap).channel ch = ChannelRecord.powerOn := by cases ch <;> rfl

theorem powerOn_curve (strap : Strap) (q : PointNo) : (State.powerOn strap).settings.curve.get q =
    { threshold := 256 * q.val + 255, gain := 64 * q.val + 64 } := Table.get_tabulate ..

theorem powerOn_band (strap : Strap) (b : BandNo) :
    (State.powerOn strap).settings.bands.get b = Band.powerOn := Table.get_fill ..

/-! ## The invariants' base case -/

theorem FaultQueueBounded.powerOn (strap : Strap) : FaultQueueBounded (State.powerOn strap) :=
  ⟨Nat.zero_le _, Nat.zero_le _⟩

theorem GuardBounded.powerOn (strap : Strap) : GuardBounded (State.powerOn strap) := ⟨Nat.zero_le _, fun _ => rfl⟩

theorem CueQueueOrdered.powerOn (strap : Strap) : CueQueueOrdered (State.powerOn strap) := ⟨Nat.zero_le _, nofun⟩

theorem WriteBackListed.powerOn (strap : Strap) : WriteBackListed (State.powerOn strap) := by
  refine ⟨List.nodup_nil, fun n => ?_⟩
  rw [powerOn_slot]
  exact ⟨nofun, nofun⟩

theorem SwapReadyWanted.powerOn (strap : Strap) : SwapReadyWanted (State.powerOn strap) := .of_setup rfl rfl

theorem TileCountsBounded.powerOn (strap : Strap) : TileCountsBounded (State.powerOn strap) := fun i => by
  rw [powerOn_tile]
  exact ⟨Nat.zero_le _, Nat.zero_le _, Nat.zero_le _⟩

/-- Settles O2: every block by its definition at power-on, and the invariants' base case. -/
theorem resetValues : Obligations.ResetValues := by
  refine ⟨rfl, rfl, rfl, ⟨rfl, rfl, rfl, rfl, powerOn_curve .alone, powerOn_band .alone⟩, ⟨rfl, rfl, rfl, rfl, rfl⟩,
    powerOn_buffer .alone, ⟨rfl, rfl, rfl⟩, fun i => Table.get_fill .., fun n => ?_, ⟨rfl, rfl⟩,
    ⟨rfl, rfl, rfl, rfl, rfl, rfl, rfl, rfl, rfl, rfl⟩, fun ch => ?_, ⟨rfl, rfl, rfl⟩, fun i => ?_,
    ⟨rfl, fun i => Table.get_fill ..⟩, ⟨rfl, rfl, rfl, rfl⟩, rfl, ⟨rfl, rfl⟩,
    ⟨rfl, rfl, rfl, rfl, rfl, rfl, rfl, rfl, rfl⟩, .powerOn .alone, .powerOn .alone, .powerOn .alone, .powerOn .alone,
    .powerOn .alone, .powerOn .alone, .powerOn .alone, .powerOn .alone⟩
  · rw [State.reset, powerOn_slot]; rfl
  · rw [State.reset, powerOn_channel]; exact ⟨rfl, rfl, rfl, rfl⟩
  · rw [State.reset, powerOn_tile]; exact ⟨rfl, rfl, rfl, rfl, rfl, rfl, rfl, rfl, rfl⟩

end Sys2Proof.Safety
end

section
/-! SUPPORT. The service link's frames that read (R174, R176, R177, R182 to R184): responses, and the values the items
show. -/

namespace Sys2Proof.Machine

/-! ## What the items show (R178, R179, R182, R183, R194) -/

theorem optItem_eq (v : Option Half) : optItem v = v.getD 0xFFFF := by cases v <;> rfl

theorem boolItem_eq (b : Bool) : boolItem b = Safety.yesNo b := by cases b <;> rfl

theorem optNatItem_eq (n : Option Nat) : optNatItem n = Safety.absentOr n := by cases n <;> rfl

theorem optItem_map_setWidth {w : Nat} (x : Option (BitVec w)) :
    optItem (x.map fun q => q.setWidth 16) = Safety.absentOr (x.map BitVec.toNat) := by
  cases x with
  | none => rfl
  | some q => exact (BitVec.ofNat_toNat 16 q).symm

theorem BandInForce.item_eq (b : BandInForce) : b.item = Safety.bandValue b := by cases b <;> rfl

theorem Clock.items_eq (c : Clock) : c.items = Safety.clockValues c := by
  simp only [Clock.items, Safety.clockValues, boolItem_eq]
  rfl

theorem blankItem_eq (r : BlankReasons) (count : Nat) : blankItem r count = Safety.blankValue r count := by
  obtain ⟨supervisor, faultLimit⟩ := r
  unfold blankItem Safety.blankValue
  apply BitVec.eq_of_getLsbD_eq
  intro i hi
  cases supervisor <;> cases faultLimit <;>
    (simp only [BitVec.getLsbD_append, Bool.false_eq_true, if_false, if_true]
     interval_cases i <;> rfl)

theorem State.statusItems_eq (s : State) :
    s.statusItems = Config.deviceCode :: Config.version :: Safety.statusValues s := by
  simp only [State.statusItems, Safety.statusValues, ChannelRecord.items, optNatItem_eq, BandInForce.item_eq,
    Clock.items_eq, State.blankReasonItem, blankItem_eq, BitVec.ofNat_toNat]
  rfl

theorem FaultWindow.items_eq (w : FaultWindow) : w.items = Safety.faultWindowValues w := by
  cases w with
  | nothing => rfl
  | overflow n => rfl
  | record r =>
    have hentry : 1#8 ++ r.kind.code = BitVec.ofNat 16 (256 + r.kind.code.toNat) := by cases r.kind <;> rfl
    simp only [FaultWindow.items, FaultWindow.entry, FaultRecord.items, FaultRecord.clockItem, Safety.faultWindowValues,
      optNatItem_eq, hentry, BitVec.ofNat_toNat]
    cases r.clock <;> rfl

theorem State.captured_items (s : State) : s.captured.items.cells = Safety.snapshotValues s := by
  have hcells : s.captured.items.cells = [s.governor.code, optNatItem s.combinedLevel, s.light.channelA.state.code,
      s.light.channelB.state.code, natItem s.light.ceiling, natItem s.light.gain, s.bandInForce.item,
      s.table.gate.stateItem, s.table.gate.secondsItem, s.face.showing.bufferItem,
      optNatItem (s.face.showing.slot.map Fin.val), s.face.sequence.setWidth 16, minuteItem s.light.clock.seconds,
      secondItem s.light.clock.seconds, natItem s.light.clock.day, boolItem s.light.clock.isSet,
      natItem s.cues.queue.length, BitVec.ofNat 8 s.faults.queue.length ++ BitVec.ofNat 8 s.faults.overflow,
      blankItem s.faults.reasons 0, s.face.suspended.item] := rfl
  rw [hcells, blankItem_eq, BandInForce.item_eq, optNatItem_eq, optNatItem_eq, boolItem_eq, ← BitVec.ofNat_toNat]
  unfold Safety.snapshotValues
  cases s.table.gate <;> cases s.face.showing <;> cases s.face.suspended <;> rfl

theorem Snapshot.items_eq (p : Snapshot) :
    (List.finRange 21).map p.item = Safety.yesNo p.captured :: p.items.cells := by
  have hcells : (List.finRange 20).map p.items.get = p.items.cells := by
    apply List.ext_getElem
    · simp [p.items.size]
    · intro i _ _
      simp [Table.get]
  rw [List.finRange_succ, List.map_cons, List.map_map, ← hcells, ← boolItem_eq]
  rfl

theorem historyItem_even (h : List HistoryEntry) (i : Nat) :
    [historyItem h (2 * i), historyItem h (2 * i + 1)] = Safety.historyValues h i := by
  have heven : 2 * i / 2 = i := by omega
  have hodd : (2 * i + 1) / 2 = i := by omega
  unfold historyItem Safety.historyValues
  rw [heven, hodd]
  cases h[i]? with
  | none => rfl
  | some e =>
    have hcomplete : e.item = (if e.complete then 0x80#8 else 0#8) ++ e.sequence := by
      unfold HistoryEntry.item
      cases e.complete <;> rfl
    simp [hcomplete, Nat.add_mod]

theorem LastReport.flagsItem_eq (p : LastReport) : p.flagsItem =
    Safety.yesNo p.overtemp + 2 * Safety.yesNo p.supplyLow + 4 * Safety.yesNo p.linkLost := by
  unfold LastReport.flagsItem
  cases p.overtemp <;> cases p.supplyLow <;> cases p.linkLost <;> rfl

theorem TileRecord.fields_eq (r : TileRecord) : (List.finRange 25).map r.field = Safety.tileValues r := by
  have hfields : (List.finRange 25).map r.field = [r.state.code, natItem r.counter, boolItem r.derate, natItem r.target,
      natItem r.bound, natItem r.applied, r.scan.running, natItem r.scan.delivered, boolItem r.scan.broken,
      natItem r.scan.silence, natItem r.scan.history.length] ++
      [historyItem r.scan.history (2 * 0), historyItem r.scan.history (2 * 0 + 1)] ++
      [historyItem r.scan.history (2 * 1), historyItem r.scan.history (2 * 1 + 1)] ++
      [historyItem r.scan.history (2 * 2), historyItem r.scan.history (2 * 2 + 1)] ++
      [historyItem r.scan.history (2 * 3), historyItem r.scan.history (2 * 3 + 1)] ++
      [optItem (r.scan.last.map fun p => p.result.code), optItem (r.scan.last.map fun p => p.sequence.setWidth 16),
        optItem (r.scan.last.map fun p => p.dark.setWidth 16),
        (r.scan.last.map fun p => temperatureOf p.temperature).getD absentTemperature,
        optItem (r.scan.last.map LastReport.flagsItem)] ++ [boolItem r.scan.held.isSome] := rfl
  rw [hfields]
  simp only [historyItem_even, boolItem_eq, Safety.tileValues]
  cases r.scan.last with
  | none => rfl
  | some p =>
    simp only [Option.map_some, optItem_eq, Option.getD_some, LastReport.flagsItem_eq, temperatureOf, BitVec.ofNat_toNat]
    rfl

theorem BufferRecord.fields_eq (r : BufferRecord) : (List.finRange 7).map r.field = Safety.bufferValues r := by
  have hfields : (List.finRange 7).map r.field = [r.state.code, optNatItem (r.slot.map Fin.val), natItem r.refused,
      optItem (r.lastRefusal.map RefusalCause.code), optItem r.lastCrc, boolItem r.lastCrc.isSome,
      natItem (r.progress / 16)] := rfl
  rw [hfields, optNatItem_eq, optItem_eq, optItem_eq, boolItem_eq]
  rfl

theorem TestRecord.fields_eq (t : TestRecord) : (List.finRange 12).map t.field = Safety.testValues t := by
  have hfields : (List.finRange 12).map t.field = [optNatItem (t.tile.map Fin.val), optNatItem t.requested,
      natItem t.used, t.phase.code, optItem (t.sequence.map fun q => q.setWidth 16), optNatItem t.level, natItem t.wait,
      natItem t.named.length, optItem (t.lastResult.map AttemptResult.code), optItem (t.lastMatched.map boolItem),
      optItem (t.lastDark.map fun d => d.setWidth 16), t.outcome.code] := rfl
  have hbool : boolItem = Safety.yesNo := funext boolItem_eq
  rw [hfields, optNatItem_eq, optNatItem_eq, optNatItem_eq, optItem_map_setWidth, optItem_map_setWidth, optItem_eq,
    optItem_eq, hbool]
  rfl

theorem TestRecord.named_eq (t : TestRecord) :
    ((List.finRange 15).map fun i : Fin 15 => optItem (t.named[i.val]?.map fun q => q.setWidth 16)) =
      (List.range 15).map fun i => Safety.absentOr (t.named[i]?.map BitVec.toNat) := by
  rw [← List.map_coe_finRange_eq_range, List.map_map]
  exact List.map_congr_left fun i _ => optItem_map_setWidth _

/-- A table read index by index is its list. -/
theorem map_getD_finRange {n : Nat} {l : List Half} (h : l.length = n) (d : Half) :
    ((List.finRange n).map fun i => l.getD i.val d) = l := by
  subst h
  apply List.ext_getElem
  · simp
  · intro i h1 h2
    simp

/-- R196: bits 7:4 and 3:0 each a window. -/
theorem CheckWindows.code_eq (w : CheckWindows) : w.code =
    match w with
    | .none => 0
    | .one w => w.code.setWidth 16
    | .two v w => 16 * v.code.setWidth 16 + w.code.setWidth 16 := by
  cases w with
  | none => rfl
  | one w => cases w <;> rfl
  | two v w => cases v <;> cases w <;> rfl

theorem Settings.layoutItems_eq (g : Settings) : (List.finRange 15).map g.layoutItem =
    [natItem g.layout.tileWidth, natItem g.layout.tileHeight, natItem g.layout.columns, natItem g.layout.rows,
      g.layout.faceBase.extractLsb' 16 16, g.layout.faceBase.extractLsb' 0 16, g.layout.bufferBase.extractLsb' 16 16,
      g.layout.bufferBase.extractLsb' 0 16, g.layout.cueBase.extractLsb' 16 16, g.layout.cueBase.extractLsb' 0 16,
      g.layout.reportBase.extractLsb' 16 16, g.layout.reportBase.extractLsb' 0 16, g.pairsel.code, g.check.code,
      g.checkWindows.code] := rfl

end Sys2Proof.Machine

namespace Sys2Proof.Safety

open Sys2Proof.Machine

section
variable {s t u : State}

/-! ## Responses (R174, R175) -/

theorem respond_link (s : State) (o : LinkOutcome) (n d : Half) : (s.respond o n d).link =
    { s.link with
      response := (s.respond o n d).link.response, resetMark := false } := rfl

/-- The response built at a frame's end, under the mark it began with. -/
theorem respond_responded (mark : u.link.resetMark = s.link.resetMark) (o : LinkOutcome) (n d : Half) :
    Responded s (u.respond o n d) o n d := by
  refine ⟨?_, rfl⟩
  unfold State.respond
  rw [State.onLink_link, mark]
  rfl

/-- A row's whole frame, and its response. -/
theorem respond_answered (wires : u.wires = s.clockFrame.wires) (mark : u.link.resetMark = s.link.resetMark)
    (o : LinkOutcome) (n d : Half) : Answered s (u.respond o n d) o n d :=
  ⟨respond_responded mark o n d, wires⟩

theorem clockFrame_itemValue (s : State) (it : Item) : s.clockFrame.itemValue it = s.itemValue it := by
  cases it <;> rfl

/-! ## NOP and TAKE FAULT (R158, R177) -/

theorem unchanged_respond {xs : List Block} (sub : covers xs [.link] = true) (h : Unchanged xs s t) (o : LinkOutcome)
    (n d : Half) : Unchanged xs s (t.respond o n d) := State.respond_unchanged o n d sub h

theorem unchanged_clockFrame {xs : List Block} (sub : covers xs [.wires] = true) (s : State) :
    Unchanged xs s s.clockFrame := State.clockFrame_unchanged sub (.refl _ _)

theorem frameTakeFault_record {r : FaultRecord} {rest : List FaultRecord} (h : s.faults.queue = r :: rest) (n : Half) :
    s.frameTakeFault n = (((s.onFaults fun f => { f with queue := rest }).onLink fun l =>
      { l with window := .record r }).respond .ok n (1#8 ++ r.kind.code)) := by
  have htake : s.faults.take = (.record r, { s.faults with queue := rest }) := by
    unfold FaultUnit.take
    rw [h]
  unfold State.frameTakeFault
  rw [htake]
  rfl

theorem frameTakeFault_overflow (h : s.faults.queue = []) (n : Half) :
    s.frameTakeFault n = (((s.onFaults fun f => { f with overflow := 0 }).onLink fun l =>
      { l with window := .overflow s.faults.overflow }).respond .ok n 0x0200#16) := by
  have htake : s.faults.take = (.overflow s.faults.overflow, { s.faults with overflow := 0 }) := by
    unfold FaultUnit.take
    split
    next hqueue => rw [h] at hqueue; cases hqueue
    next => rfl
  unfold State.frameTakeFault
  rw [htake]
  rfl

/-- Settles O50: each row is its frame clocked through and its command. -/
theorem nopAndTakeFaultAnswer : Obligations.NopAndTakeFaultAnswer := by
  intro item data s quiet
  refine ⟨.of_act quiet rfl ⟨?_, respond_link .., respond_answered (by rfl) (by rfl) ..⟩, fun r rest hqueue => ?_, fun hqueue => ?_⟩
  · exact unchanged_respond (by decide) (unchanged_clockFrame (by decide) s) ..
  · refine .of_act quiet rfl ?_
    rw [frameTakeFault_record (s := s.clockFrame) hqueue item]
    refine ⟨unchanged_respond (by decide) ?_ .., rfl, rfl, respond_answered (by rfl) (by rfl) ..⟩
    exact State.onLink_unchanged _ (by decide) (State.onFaults_unchanged _ (by decide) (unchanged_clockFrame (by decide) s))
  · refine .of_act quiet rfl ?_
    rw [frameTakeFault_overflow (s := s.clockFrame) hqueue item]
    refine ⟨unchanged_respond (by decide) ?_ .., rfl, rfl, respond_answered (by rfl) (by rfl) ..⟩
    exact State.onLink_unchanged _ (by decide) (State.onFaults_unchanged _ (by decide) (unchanged_clockFrame (by decide) s))

/-! ## READ (R176, R184) -/

theorem frameRead_of_none {n : Half} (h : itemOf n = none) : s.frameRead n = s.respond .noItem n 0 := by
  unfold State.frameRead
  rw [h]

theorem frameRead_of_some {n : Half} {it : Item} (h : itemOf n = some it) :
    s.frameRead n = (s.readEffect it).respond .ok n (s.itemValue it) := by
  unfold State.frameRead
  rw [h]
  rfl

/-- R184: of all items only a READ of the reset cause has an effect. -/
theorem readEffect_eq (s : State) (it : Item) : s.readEffect it = s.onLink fun l =>
    { l with resetSeen := l.resetSeen && it != Item.status 3 } := by
  unfold State.readEffect
  by_cases h : it = Item.status 3
  · simp [h, resetCauseItem]
  · have hother : (it != Item.status 3) = true := bne_iff_ne.mpr h
    simp [h, resetCauseItem, hother, State.onLink]

theorem frameRead_runs {n : Half} {it : Item} (h : itemOf n = some it) :
    Unchanged [.wires, .link] s (s.clockFrame.frameRead n) ∧
    (s.clockFrame.frameRead n).link = { s.link with
      response := (s.clockFrame.frameRead n).link.response, resetMark := false
      resetSeen := s.link.resetSeen && it != Item.status 3 } ∧
    Answered s (s.clockFrame.frameRead n) .ok n (s.itemValue it) := by
  rw [frameRead_of_some h, readEffect_eq, clockFrame_itemValue]
  refine ⟨unchanged_respond (by decide) ?_ .., rfl, respond_answered (by rfl) (by rfl) ..⟩
  exact State.onLink_unchanged _ (by decide) (unchanged_clockFrame (by decide) s)

/-- Settles O51: the read row, and each table of items against the values its rules give. -/
theorem readsAnswer : Obligations.ReadsAnswer := by
  refine ⟨fun n data it s quiet h => .of_act quiet rfl (frameRead_runs h), fun n data s quiet h => ?_,
    fun data s quiet => ?_, fun s => ?_⟩
  · refine .of_act quiet rfl ?_
    rw [frameRead_of_none h]
    exact ⟨unchanged_respond (by decide) (unchanged_clockFrame (by decide) s) .., rfl, respond_answered (by rfl) (by rfl) ..⟩
  · obtain ⟨frame, hlink, hanswer⟩ := frameRead_runs (s := s) (itemOf_number resetCauseItem)
    refine .of_act quiet rfl ⟨frame, ?_, hanswer⟩
    rw [hlink]
    simp [resetCauseItem]
  · refine ⟨?_, ?_, fun _ => rfl, fun _ => ⟨rfl, rfl⟩, fun b => ?_, fun _ => rfl, rfl, rfl, rfl, ?_, ?_, rfl, ?_, ?_, ?_,
      ?_, ?_⟩
    · exact (map_getD_finRange rfl 0).trans s.statusItems_eq
    · exact s.settings.layoutItems_eq.trans (by rw [CheckWindows.code_eq]; rfl)
    · simp only [List.map_cons, List.map_nil, State.itemValue, Band.item, boolItem_eq]
      rfl
    · rw [← FaultWindow.items_eq]
      refine map_getD_finRange ?_ 0
      cases s.link.window <;> rfl
    · exact s.link.snapshot.items_eq
    · exact TileRecord.fields_eq _
    · exact fun k => BufferRecord.fields_eq _
    · simp only [State.itemValue]
      cases s.table.gate <;> rfl
    · exact TestRecord.fields_eq _
    · exact TestRecord.named_eq _

end
end Sys2Proof.Safety
end

section
/-! SUPPORT. WRITE at its item (R176, R180, R186, R187): what each item holds after it is stored, and the link's own
record. -/

namespace Sys2Proof.Machine

/-! ## A stored value read back -/

@[simp] theorem natItem_toNat (v : Half) : natItem v.toNat = v := by simp [natItem]

@[simp] theorem withHighHalf_high (base : Word) (h : Half) : (withHighHalf base h).extractLsb' 16 16 = h := by
  unfold withHighHalf
  rw [BitVec.extractLsb'_append_eq_left]

@[simp] theorem withLowHalf_low (base : Word) (h : Half) : (withLowHalf base h).extractLsb' 0 16 = h := by
  unfold withLowHalf
  rw [BitVec.extractLsb'_append_eq_right]

/-- The twelve settings of the layout. -/
theorem Settings.storeLayout_layoutItem (g : Settings) {i : Fin 15} (v : Half) (h : i.val < 12) :
    (g.storeLayout i v).layoutItem i = v := by
  match i with
  | 0 | 1 | 2 | 3 => exact natItem_toNat v
  | 4 | 6 | 8 | 10 => exact withHighHalf_high _ v
  | 5 | 7 | 9 | 11 => exact withLowHalf_low _ v
  | 12 | 13 | 14 => omega

theorem CurvePoint.store_item (p : CurvePoint) (f : CurveField) (v : Half) : (p.store f v).item f = v := by
  cases f <;> exact natItem_toNat v

theorem boolItem_of_le_one {v : Half} (h : v.toNat ≤ 1) : boolItem (v != 0) = v := by
  have hv : v = 0 ∨ v = 1 := by bv_omega
  rcases hv with rfl | rfl <;> rfl

theorem days_of_le {v : Half} (h : v.toNat ≤ 127) : (v.extractLsb' 0 7).setWidth 16 = v := by
  apply BitVec.eq_of_toNat_eq
  simp only [BitVec.toNat_setWidth, BitVec.extractLsb'_toNat, Nat.shiftRight_zero]
  omega

theorem Band.store_item (r : Band) {f : BandField} {v : Half} (h : v.toNat ≤ BandField.high f) : (r.store f v).item f = v := by
  cases f with
  | enabled => exact boolItem_of_le_one h
  | days => exact days_of_le h
  | startMinute | startSecond | ceiling | fallback | minDwell => exact natItem_toNat v

theorem Params.store_item (p : Params) (i : Fin 3) (v : Half) : (p.store i v).item i = v := by
  match i with
  | 0 | 1 | 2 => rfl

/-! ## What storing an item makes of the settings, the trim and the link -/

theorem State.writeOperating_settings (s : State) (i : Fin 36) (v : Half) :
    (s.writeOperating i v).settings = s.settings.storeOperating i v.toNat := by
  unfold State.writeOperating
  have hlimits (t : State) : t.evaluateTiles.settings = t.settings :=
    (State.evaluateTiles_unchanged (xs := [.tiles, .faults]) (by decide) (.refl _ t)).agree .settings (by decide)
  have hface (t : State) : t.faceLimitCheck.settings = t.settings :=
    (State.faceLimitCheck_unchanged (xs := [.tiles, .faults]) (by decide) (.refl _ t)).agree .settings (by decide)
  split
  case h_1 hi =>
    obtain rfl : i = 2 := Fin.ext hi
    exact State.recomputeLight_settings _
  case h_2 hi =>
    obtain rfl : i = 8 := Fin.ext hi
    exact State.recomputeLight_settings _
  case h_13 hi | h_14 hi => exact hlimits _
  case h_15 hi =>
    obtain rfl : i = 22 := Fin.ext hi
    rfl
  case h_16 hi =>
    obtain rfl : i = 23 := Fin.ext hi
    exact hface _
  case h_21 => rfl
  all_goals exact State.recomputeLight_settings _

theorem State.writeLayout_settings (s : State) (i : Fin 15) (v : Half) :
    (s.writeLayout i v).settings = s.settings.storeLayout i v := by
  unfold State.writeLayout
  dsimp only
  split <;> rfl

theorem State.writeBand_settings (s : State) (b : BandNo) (f : BandField) (v : Half) :
    (s.writeBand b f v).settings = s.settings.storeBand b f v := State.recomputeLight_settings _

theorem State.writeCurve_settings (s : State) (p : PointNo) (f : CurveField) (v : Half) :
    (s.writeCurve p f v).settings = s.settings.storeCurve p f v := State.recomputeLight_settings _

theorem GainContext.cut_eq (g : GainContext) (i : TileNo) (r : TileRecord) : g.cut i r =
    { r with applied := if (g.targetCase i r.state).isDark then 0 else min r.applied r.bound } := by
  unfold GainContext.cut
  split <;> rfl

theorem State.setTrim_tile (s : State) (i : TileNo) (v : Nat) :
    (s.setTrim i v).tile i = s.gainContext.rebound i { s.tile i with trim := v } := by
  unfold State.setTrim State.reboundTile
  rw [State.onTile_tile_self, State.onTile_tile_self]
  rfl

theorem State.setTrim_tile_of_ne (s : State) {i j : TileNo} (v : Nat) (h : j ≠ i) : (s.setTrim i v).tile j = s.tile j := by
  unfold State.setTrim State.reboundTile
  rw [State.onTile_tile_of_ne _ _ h, State.onTile_tile_of_ne _ _ h]

theorem LinkState.called_call (l : LinkState) (v : Half) : (l.called v).call = v.extractLsb' 0 8 := by
  unfold LinkState.called
  dsimp only
  split <;> rfl

theorem LinkState.called_resetMark (l : LinkState) (v : Half) : (l.called v).resetMark = l.resetMark := by
  unfold LinkState.called
  dsimp only
  split <;> rfl

/-- Of the link's record only WRITEs of table 0x08 and of the tile select store anything. -/
def storesInLink : Item → Bool
  | .param _ | .call | .tileSelect => true
  | _ => false

theorem State.storeItem_link (s : State) (v : Half) {it : Item} (h : storesInLink it = false) :
    (s.storeItem v it).link = s.link := by
  have frame : Unchanged [.light, .tiles, .faults, .settings] s (s.storeItem v it) := by
    unfold State.storeItem
    split
    case h_1 i => exact State.writeLayout_unchanged i v (by decide) (.refl _ s)
    case h_2 i => exact State.writeOperating_unchanged i v (by decide) (.refl _ s)
    case h_3 p f => exact State.writeCurve_unchanged p f v (by decide) (.refl _ s)
    case h_4 b f => exact State.writeBand_unchanged b f v (by decide) (.refl _ s)
    case h_5 i => exact State.setTrim_unchanged i v.toNat (by decide) (.refl _ s)
    case h_6 | h_7 | h_8 => cases h
    all_goals exact .refl _ s
  exact frame.agree .link (by decide)

theorem State.storeItem_resetMark (s : State) (v : Half) (it : Item) :
    (s.storeItem v it).link.resetMark = s.link.resetMark := by
  cases hlink : storesInLink it with
  | false => rw [s.storeItem_link v hlink]
  | true =>
    cases it
    case param | tileSelect => rfl
    case call => exact LinkState.called_resetMark _ _
    all_goals cases hlink

theorem State.respond_itemValue (s : State) (o : LinkOutcome) (n d : Half) (it : Item) :
    (s.respond o n d).itemValue it = s.itemValue it := by
  cases it <;> rfl

/-! ## The checks of a WRITE (R176) -/

theorem State.writeRefusal_eq (s : State) (it : Item) (v : Half) : s.writeRefusal it v =
    if itemReadOnly it = true then some .readOnly
    else if (∃ i, it = .layout i) ∧ s.governor = .running then some .locked
    else if itemInRange it v.toNat = false then some .range
    else if it = .call ∧ (s.link.status.state = .requested ∨ s.link.status.state = .inProgress) then some .busy
    else none := by
  have hlayout : itemIsLayout it = true ↔ ∃ i, it = .layout i := by cases it <;> simp [itemIsLayout]
  unfold State.writeRefusal
  refine if_congr Iff.rfl rfl (if_congr ?_ rfl (if_congr ?_ rfl (if_congr ?_ rfl rfl)))
  · simp [hlayout, State.running]
  · simp
  · simp

/-- A WRITE that passes is of an item that is not read-only, with a value in its range. -/
theorem State.writeRefusal_eq_none {s : State} {it : Item} {v : Half} (h : s.writeRefusal it v = none) :
    itemReadOnly it = false ∧ itemInRange it v.toNat = true := by
  rw [s.writeRefusal_eq] at h
  split at h
  next => cases h
  next writable =>
    split at h
    next => cases h
    next =>
      split at h
      next => cases h
      next inRange => exact ⟨by simpa using writable, by simpa using inRange⟩

/-- R176, R186, R187: an item that a WRITE has stored holds the value written. -/
theorem State.storeItem_itemValue {s : State} {it : Item} {v : Half} (h : s.writeRefusal it v = none) :
    (s.storeItem v it).itemValue it = v := by
  obtain ⟨writable, inRange⟩ := State.writeRefusal_eq_none h
  cases it
  case layout i =>
    have hi : i.val < 12 := by simpa [itemReadOnly] using writable
    change (s.writeLayout i v).settings.layoutItem i = v
    rw [State.writeLayout_settings, Settings.storeLayout_layoutItem _ _ hi]
  case operating i =>
    change natItem ((s.writeOperating i v).settings.operating.get i) = v
    rw [State.writeOperating_settings, Settings.storeOperating, Table.get_set_self, natItem_toNat]
  case curve p f =>
    change ((s.writeCurve p f v).settings.curve.get p).item f = v
    rw [State.writeCurve_settings, Settings.storeCurve, Table.get_modify_self, CurvePoint.store_item]
  case band b f =>
    change ((s.writeBand b f v).settings.bands.get b).item f = v
    rw [State.writeBand_settings, Settings.storeBand, Table.get_modify_self, Band.store_item _ (of_decide_eq_true inRange)]
  case trim i =>
    change natItem ((s.setTrim i v.toNat).tile i).trim = v
    rw [State.setTrim_tile, GainContext.rebound, GainContext.cut_eq]
    exact natItem_toNat v
  case param i => exact Params.store_item _ _ _
  case call =>
    change ((s.link.called v).call).setWidth 16 = v
    have hv : v.toNat ≤ 255 := of_decide_eq_true inRange
    rw [LinkState.called_call]
    apply BitVec.eq_of_toNat_eq
    simp only [BitVec.toNat_setWidth, BitVec.extractLsb'_toNat, Nat.shiftRight_zero]
    omega
  case tileSelect =>
    have hv : v.toNat ≤ 127 := of_decide_eq_true inRange
    change natItem (v.toNat % 128) = v
    rw [Nat.mod_eq_of_lt (by omega), natItem_toNat]
  all_goals cases writable

end Sys2Proof.Machine
end

section
/-! The statements on WRITE. -/

namespace Sys2Proof.Safety

open Sys2Proof.Machine

variable {s : State}

/-! ## A write row -/

theorem rowNumber_of_item {c : Instr} {it : Item} {d : Half} (h : rowWrite c = some (it, d))
    (other : ∀ n v, c ≠ .write n v) : rowNumber c = it.number := by
  unfold rowNumber
  split
  next n v => exact absurd rfl (other n v)
  next => rw [h]; rfl

/-- Every row that writes an item is a WRITE of its number. -/
theorem exec_rowWrite {c : Instr} {it : Item} {d : Half} (h : rowWrite c = some (it, d)) :
    itemOf (rowNumber c) = some it ∧
      ∀ s, exec c s = .next (s.act fun t => t.clockFrame.frameWrite (rowNumber c) d) := by
  cases c
  case write n data =>
    obtain ⟨x, hx, heq⟩ := Option.map_eq_some_iff.mp h
    cases heq
    exact ⟨hx, fun _ => rfl⟩
  case channelEnableWrite | channelSettingWrite | limitWrite | faceFaultLimitWrite | tileBlankPolicyWrite | trimWrite |
      bandFieldWrite | defaultBandWrite | unsetCeilingWrite | curvePointWrite | layoutWrite =>
    rw [rowNumber_of_item h nofun]
    cases h
    exact ⟨itemOf_number _, fun _ => rfl⟩
  all_goals cases h

theorem frameWrite_of_none {n : Half} (h : itemOf n = none) (v : Half) : s.frameWrite n v = s.respond .noItem n 0 := by
  unfold State.frameWrite
  rw [h]

theorem frameWrite_of_stored {n v : Half} {it : Item} (h : itemOf n = some it) (passes : s.writeRefusal it v = none) :
    s.frameWrite n v = (s.storeItem v it).respond .ok n (s.itemValue it) := by
  unfold State.frameWrite
  rw [h]
  change s.writeItem it n v = _
  unfold State.writeItem
  rw [passes]

theorem frameWrite_of_refused {n v : Half} {it : Item} {o : LinkOutcome} (h : itemOf n = some it)
    (refused : s.writeRefusal it v = some o) : s.frameWrite n v = s.respond o n (s.itemValue it) := by
  unfold State.frameWrite
  rw [h]
  change s.writeItem it n v = _
  unfold State.writeItem
  rw [refused]

/-- A write row that passes every check stores its item and answers OK with the value it held. -/
theorem Runs.of_stored {c : Instr} {it : Item} {d : Half} {post : State → Prop} (quiet : Quiet s)
    (row : rowWrite c = some (it, d)) (passes : s.writeRefusal it d = none)
    (h : post ((s.clockFrame.storeItem d it).respond .ok (rowNumber c) (s.itemValue it))) : Runs c s post := by
  obtain ⟨hitem, hexec⟩ := exec_rowWrite row
  refine .of_act quiet (hexec s) ?_
  rw [frameWrite_of_stored hitem (s := s.clockFrame) passes, clockFrame_itemValue]
  exact h

theorem called_known (l : LinkState) (v : Service) : l.called ((Service.code v).setWidth 16) =
    { l with call := v.code, status := { code := v.code, state := .requested, error := .none }, handed := l.params } := by
  cases v <;> rfl

theorem called_unknown (l : LinkState) {d : Half} (h : knownServiceCode (d.extractLsb' 0 8) = false) : l.called d =
    { l with call := d.extractLsb' 0 8
             status := { code := d.extractLsb' 0 8, state := .failed, error := .unknownService } } := by
  unfold LinkState.called
  simp [h]

theorem storeItem_status (s : State) (v : Half) {it : Item} (h : it ≠ .call) :
    (s.storeItem v it).link.status = s.link.status ∧ (s.storeItem v it).link.handed = s.link.handed := by
  cases hlink : storesInLink it with
  | false => simp [s.storeItem_link v hlink]
  | true =>
    cases it
    case param | tileSelect => exact ⟨rfl, rfl⟩
    case call => exact absurd rfl h
    all_goals cases hlink

/-- Settles O52, by what storing each item leaves. -/
theorem writesStore : Obligations.WritesStore := by
  intro c it d s quiet row passes
  have hwires : (s.clockFrame.storeItem d it).wires = s.clockFrame.wires :=
    (State.storeItem_unchanged (xs := [.light, .tiles, .faults, .link, .settings]) d it (by decide) (.refl _ _)).agree
      .wires (by decide)
  refine .of_stored quiet row passes ⟨?_, respond_answered hwires (State.storeItem_resetMark _ _ _) .., ?_, ?_, ?_, ?_⟩
  · rw [State.respond_itemValue, State.storeItem_itemValue (s := s.clockFrame) passes]
  · exact unchanged_respond (by decide)
      (State.storeItem_unchanged d it (by decide) (unchanged_clockFrame (by decide) s)) ..
  · rintro v rfl rfl
    change (s.link.called _).status = _ ∧ (s.link.called _).handed = _
    rw [called_known]
    exact ⟨rfl, rfl⟩
  · rintro rfl unknown
    change (s.link.called _).status = _ ∧ (s.link.called _).handed = _
    rw [called_unknown _ unknown]
    exact ⟨rfl, rfl⟩
  · exact storeItem_status s.clockFrame d

/-! ## Refusals -/

theorem respond_refused (s : State) (o : LinkOutcome) (n d : Half) :
    Unchanged [.wires, .link] s (s.clockFrame.respond o n d) ∧
    (s.clockFrame.respond o n d).link =
      { s.link with response := (s.clockFrame.respond o n d).link.response, resetMark := false } ∧
    Answered s (s.clockFrame.respond o n d) o n d :=
  ⟨unchanged_respond (by decide) (unchanged_clockFrame (by decide) s) .., rfl, respond_answered (by rfl) (by rfl) ..⟩

theorem layoutInRange_eq (i : Fin 15) (v : Nat) : layoutInRange i v =
    if i.val < 2 then decide (v = 16 ∨ v = 32 ∨ v = 64) else if i.val < 4 then decide (1 ≤ v ∧ v ≤ 16) else true := by
  match i with
  | 0 | 1 => simp [layoutInRange, Bool.or_assoc, beq_eq_decide]
  | 2 | 3 => simp [layoutInRange]
  | 4 | 5 | 6 | 7 | 8 | 9 | 10 | 11 | 12 | 13 | 14 => rfl

/-- Settles O53: the checks as they stand, and the tables of ranges row by row. -/
theorem writesRefused : Obligations.WritesRefused := by
  refine ⟨fun it v s => s.writeRefusal_eq it v, fun c it d o s quiet row refused => ?_, fun v => rfl,
    fun v => ⟨fun i => layoutInRange_eq i v, fun q => ⟨rfl, rfl⟩, fun b => rfl, fun i => rfl, rfl, rfl⟩, fun it => ?_,
    fun n d s quiet absent => ?_⟩
  · obtain ⟨hitem, hexec⟩ := exec_rowWrite row
    refine .of_act quiet (hexec s) ?_
    rw [frameWrite_of_refused hitem (s := s.clockFrame) refused, clockFrame_itemValue]
    exact respond_refused s ..
  · cases it <;> simp [itemReadOnly]
  · refine .of_act quiet rfl ?_
    rw [frameWrite_of_none absent]
    exact respond_refused s ..

end Sys2Proof.Safety
end

section
/-! SUPPORT. What a recomputed light hands to the tiles (R106, R107), the blank reasons (R153, R155) and the tile states
(R148 to R150). -/

namespace Sys2Proof.Machine

variable {s t u : State}

/-! ## The pair handed over (R107) -/

theorem State.recomputeLight_of_same (h : s.bandCeiling = s.light.ceiling ∧ s.gainUnder s.bandCeiling = s.light.gain) :
    s.recomputeLight = s := by
  unfold State.recomputeLight
  simp [h.1, h.1 ▸ h.2]

theorem State.recomputeLight_of_changed
    (h : ¬ (s.bandCeiling = s.light.ceiling ∧ s.gainUnder s.bandCeiling = s.light.gain)) :
    s.recomputeLight.tiles.ceiling = s.bandCeiling ∧ s.recomputeLight.tiles.gain = s.gainUnder s.bandCeiling := by
  unfold State.recomputeLight
  dsimp only
  rw [if_neg (by simpa using h)]
  exact ⟨rfl, rfl⟩

/-! ## A tile's record but for its target and its gain -/

/-- Of each tile's record only T and A may differ. -/
def Retargeted (s t : State) : Prop :=
  ∀ j, { t.tile j with target := (s.tile j).target, applied := (s.tile j).applied } = s.tile j

theorem Retargeted.refl (s : State) : Retargeted s s := fun _ => rfl

theorem Retargeted.of_tiles (h : t.tiles = s.tiles) : Retargeted s t := fun j => by
  have hj : t.tile j = s.tile j := by rw [State.tile, h]; rfl
  rw [hj]

theorem Retargeted.trans (h : Retargeted s t) (g : Retargeted t u) : Retargeted s u := fun j => by
  rw [← h j, ← g j]

theorem Retargeted.retargetAll (h : Retargeted s t) : Retargeted s t.retargetAll := h.trans fun j => by
  rw [State.retargetAll_tile, GainContext.retarget, GainContext.cut_eq]

theorem Retargeted.retargetTile (h : Retargeted s t) (i : TileNo) : Retargeted s (t.retargetTile i) :=
  h.trans fun j => by
    unfold State.retargetTile
    by_cases hj : j = i
    · rw [hj, State.onTile_tile_self, GainContext.retarget, GainContext.cut_eq]
    · rw [State.onTile_tile_of_ne _ _ hj]

theorem Retargeted.onFaults (h : Retargeted s t) (f : FaultUnit → FaultUnit) : Retargeted s (t.onFaults f) := h

theorem Retargeted.offer (h : Retargeted s t) (k : FaultKind) (tile : Option TileNo) (detail : Half) :
    Retargeted s (t.offer k tile detail) := h

theorem Retargeted.addReason (h : Retargeted s t) (x : BlankReason) : Retargeted s (t.addReason x) := by
  unfold State.addReason
  split
  · exact h
  · split
    · exact h
    · exact Retargeted.retargetAll h

theorem Retargeted.removeReason (h : Retargeted s t) (x : BlankReason) : Retargeted s (t.removeReason x) := by
  unfold State.removeReason
  split
  · exact h
  · split
    · exact h
    · exact Retargeted.retargetAll h

theorem Retargeted.faceLimitCheck (h : Retargeted s t) : Retargeted s t.faceLimitCheck := by
  unfold State.faceLimitCheck
  split
  · exact h.addReason _
  · exact h.removeReason _

theorem Retargeted.state (h : Retargeted s t) (j : TileNo) : (t.tile j).state = (s.tile j).state :=
  (congrArg TileRecord.state (h j) :)

theorem Retargeted.counter (h : Retargeted s t) (j : TileNo) : (t.tile j).counter = (s.tile j).counter :=
  (congrArg TileRecord.counter (h j) :)

theorem Retargeted.scan (h : Retargeted s t) (j : TileNo) : (t.tile j).scan = (s.tile j).scan :=
  (congrArg TileRecord.scan (h j) :)

theorem Retargeted.derate (h : Retargeted s t) (j : TileNo) : (t.tile j).derate = (s.tile j).derate :=
  (congrArg TileRecord.derate (h j) :)

theorem Retargeted.bound (h : Retargeted s t) (j : TileNo) : (t.tile j).bound = (s.tile j).bound :=
  (congrArg TileRecord.bound (h j) :)

theorem Retargeted.trim (h : Retargeted s t) (j : TileNo) : (t.tile j).trim = (s.tile j).trim :=
  (congrArg TileRecord.trim (h j) :)

/-! ## The blank reason set (R153, R155) -/

theorem BlankReasons.put_self {r : BlankReasons} {x : BlankReason} {b : Bool} (h : r.has x = b) : r.put x b = r := by
  cases x <;> (subst h; rfl)

theorem FaultUnit.join_withReasons (f : FaultUnit) (r : FaultRecord) (x : BlankReasons) :
    ({ f with reasons := x } : FaultUnit).join r = { f.join r with reasons := x } := by
  unfold FaultUnit.join
  split
  · rfl
  · rfl

/-- R155: a reason that joins an empty set raises FACE_BLANKED. -/
theorem State.addReason_faults (s : State) (x : BlankReason) : (s.addReason x).faults =
    { (if s.blanked then s.faults else s.faults.join (s.faultRecord .faceBlanked none x.detail)) with
      reasons := s.faults.reasons.put x true } := by
  unfold State.addReason
  split
  next has =>
    have hblank : s.blanked = true := BlankReasons.any_of_has has
    rw [if_pos hblank, BlankReasons.put_self has]
  next =>
    split
    next => rfl
    next => exact FaultUnit.join_withReasons ..

theorem State.addReason_reasons (s : State) (x : BlankReason) :
    (s.addReason x).faults.reasons = s.faults.reasons.put x true := congrArg FaultUnit.reasons (s.addReason_faults x)

theorem State.addReason_faults_of_blanked (x : BlankReason) (h : s.blanked = true) :
    (s.addReason x).faults = { s.faults with reasons := s.faults.reasons.put x true } := by
  rw [s.addReason_faults, if_pos h]

theorem State.addReason_faults_of_unblanked (x : BlankReason) (h : s.blanked = false) : (s.addReason x).faults =
    { s.faults.join (s.faultRecord .faceBlanked none x.detail) with reasons := s.faults.reasons.put x true } := by
  rw [s.addReason_faults, if_neg (by simp [h])]

theorem State.addReason_tiles_of_blanked (x : BlankReason) (h : s.blanked = true) : (s.addReason x).tiles = s.tiles := by
  unfold State.addReason
  split
  · rfl
  · rfl

theorem State.addReason_tile_of_unblanked (x : BlankReason) (h : s.blanked = false) (i : TileNo) :
    (s.addReason x).tile i = ({ s.gainContext with blanked := true } : GainContext).retarget i (s.tile i) := by
  have hnot : s.faults.reasons.has x ≠ true := fun has => by
    have hblank : s.blanked = true := BlankReasons.any_of_has has
    rw [h] at hblank
    cases hblank
  unfold State.addReason
  rw [if_neg hnot, if_neg (by simp [h]), State.retargetAll_tile, State.offer_gainContext]
  have hany : (s.putReason x true).blanked = true := BlankReasons.any_put_true _ _
  have hctx : (s.putReason x true).gainContext = { s.gainContext with blanked := true } := by
    unfold State.gainContext
    rw [hany]
    rfl
  rw [hctx]
  rfl

/-- R155: the last reason to leave raises FACE_UNBLANKED. -/
theorem State.removeReason_faults (s : State) (x : BlankReason) : (s.removeReason x).faults =
    { (if s.blanked && !(s.faults.reasons.put x false).any then
        s.faults.join (s.faultRecord .faceUnblanked none x.detail) else s.faults) with
      reasons := s.faults.reasons.put x false } := by
  unfold State.removeReason
  split
  next hasNot =>
    have hput : s.faults.reasons.put x false = s.faults.reasons := BlankReasons.put_self (by simpa using hasNot)
    have hnone : (s.blanked && !(s.faults.reasons.put x false).any) = false := by
      rw [hput]
      simp [State.blanked]
    rw [hnone, hput]
    rfl
  next has =>
    have hblank : s.blanked = true := BlankReasons.any_of_has (x := x) (by simpa using has)
    rw [hblank, Bool.true_and]
    split
    next others =>
      rw [others]
      rfl
    next empty =>
      rw [Bool.not_eq_true] at empty
      rw [empty]
      exact FaultUnit.join_withReasons ..

theorem State.removeReason_reasons (s : State) (x : BlankReason) :
    (s.removeReason x).faults.reasons = s.faults.reasons.put x false := congrArg FaultUnit.reasons (s.removeReason_faults x)

theorem State.removeReason_faults_of_left (x : BlankReason) (h : s.blanked = true)
    (last : (s.faults.reasons.put x false).any = false) : (s.removeReason x).faults =
    { s.faults.join (s.faultRecord .faceUnblanked none x.detail) with reasons := s.faults.reasons.put x false } := by
  rw [s.removeReason_faults, if_pos (by simp [h, last])]

theorem State.removeReason_faults_of_kept (x : BlankReason)
    (h : s.blanked = false ∨ (s.faults.reasons.put x false).any = true) :
    (s.removeReason x).faults = { s.faults with reasons := s.faults.reasons.put x false } := by
  rw [s.removeReason_faults, if_neg (by rcases h with h | h <;> simp [h])]

/-- The tiles stand where no reason leaves, and where another stays. -/
theorem State.removeReason_tiles_of_kept (x : BlankReason)
    (h : s.blanked = false ∨ (s.faults.reasons.put x false).any = true) : (s.removeReason x).tiles = s.tiles := by
  unfold State.removeReason
  split
  · rfl
  next has =>
    have hblank : s.blanked = true := BlankReasons.any_of_has (x := x) (by simpa using has)
    rw [if_pos (h.resolve_left (by simp [hblank]))]
    rfl

/-- R153: which reason set the face's limit leaves. -/
theorem State.faceLimitCheck_reasons (s : State) : s.faceLimitCheck.faults.reasons =
    s.faults.reasons.put .faultLimit s.faceLimitReached := by
  unfold State.faceLimitCheck
  cases s.faceLimitReached with
  | true => exact congrArg FaultUnit.reasons (s.addReason_faults .faultLimit)
  | false => exact congrArg FaultUnit.reasons (s.removeReason_faults .faultLimit)

@[simp] theorem FaultUnit.join_faultedCount (f : FaultUnit) (r : FaultRecord) : (f.join r).faultedCount = f.faultedCount := by
  unfold FaultUnit.join
  split <;> rfl

theorem State.addReason_faultedCount (s : State) (x : BlankReason) :
    (s.addReason x).faults.faultedCount = s.faults.faultedCount := by
  rw [s.addReason_faults]
  dsimp only
  split <;> simp

theorem State.removeReason_faultedCount (s : State) (x : BlankReason) :
    (s.removeReason x).faults.faultedCount = s.faults.faultedCount := by
  rw [s.removeReason_faults]
  dsimp only
  split <;> simp

theorem State.faceLimitCheck_faultedCount (s : State) : s.faceLimitCheck.faults.faultedCount = s.faults.faultedCount := by
  unfold State.faceLimitCheck
  split
  · exact s.addReason_faultedCount _
  · exact s.removeReason_faultedCount _

/-! ## Tile states by the limits (R148 to R150) -/

/-- R148: where a tile's state goes under the two limits. -/
def judgedState (g : Settings) (r : TileRecord) : TileState :=
  if r.state = .faulted then .faulted
  else if g.faultLimit ≤ r.counter then .faulted
  else if g.suspectLimit ≤ r.counter then .suspect else .lit

theorem judgedState_congr {g : Settings} {r q : TileRecord} (hstate : r.state = judgedState g q)
    (hcounter : r.counter = q.counter) : judgedState g r = judgedState g q := by
  unfold judgedState at hstate ⊢
  rw [hcounter, hstate]
  grind

theorem Retargeted.enterFaulted (s : State) (i : TileNo) :
    Retargeted (s.onTile i fun r => { r with state := .faulted }) (s.enterFaulted i) :=
  ((((Retargeted.refl _).offer _ _ _).retargetTile i).onFaults _).faceLimitCheck

theorem State.evaluateTile_tile (s : State) (i j : TileNo) :
    ((s.evaluateTile i).tile j).counter = (s.tile j).counter ∧
    ((s.evaluateTile i).tile j).state = if j = i then judgedState s.settings (s.tile j) else (s.tile j).state := by
  have hmoved {t : State} {st : TileState} (h : Retargeted (s.onTile i fun r => { r with state := st }) t) :
      (t.tile j).counter = (s.tile j).counter ∧ (t.tile j).state = if j = i then st else (s.tile j).state := by
    rw [h.counter, h.state]
    by_cases hj : j = i
    · simp [hj]
    · simp [hj, State.onTile_tile_of_ne]
  have hset {t : State} {st : TileState} (hst : judgedState s.settings (s.tile i) = st)
      (h : (t.tile j).counter = (s.tile j).counter ∧ (t.tile j).state = if j = i then st else (s.tile j).state) :
      (t.tile j).counter = (s.tile j).counter ∧
        (t.tile j).state = if j = i then judgedState s.settings (s.tile j) else (s.tile j).state := by
    obtain ⟨hcounter, hstate⟩ := h
    refine ⟨hcounter, hstate.trans ?_⟩
    by_cases hj : j = i
    · rw [if_pos hj, if_pos hj, hj, hst]
    · rw [if_neg hj, if_neg hj]
  have hstands {st : TileState} (h : (s.tile i).state = st) :
      (s.tile j).counter = (s.tile j).counter ∧ (s.tile j).state = if j = i then st else (s.tile j).state := by
    refine ⟨rfl, ?_⟩
    by_cases hj : j = i
    · rw [if_pos hj, hj, h]
    · rw [if_neg hj]
  unfold State.evaluateTile
  dsimp only
  split
  next faulted =>
    have faulted : (s.tile i).state = .faulted := by simpa using faulted
    exact hset (by simp [judgedState, faulted]) (hstands faulted)
  next sound =>
    have sound : (s.tile i).state ≠ .faulted := by simpa using sound
    split
    next limit => exact hset (by simp [judgedState, limit]) (hmoved (Retargeted.enterFaulted s i))
    next below =>
      split
      next suspect =>
        have hjudged : judgedState s.settings (s.tile i) = .suspect := by simp [judgedState, sound, below, suspect]
        split
        next lit => exact hset hjudged (hmoved ((Retargeted.refl _).offer _ _ _))
        next already =>
          refine hset hjudged (hstands ?_)
          cases hstate : (s.tile i).state
          case suspect => rfl
          case lit => simp [hstate] at already
          case faulted => exact absurd hstate sound
      next clear =>
        exact hset (by simp [judgedState, sound, below, clear]) (hmoved (.refl _))

theorem State.evaluateTile_settings (s : State) (i : TileNo) : (s.evaluateTile i).settings = s.settings :=
  (State.evaluateTile_unchanged (xs := [.tiles, .faults]) i (by decide) (.refl _ s)).agree .settings (by decide)

theorem State.evaluate_tile (is : List TileNo) (s : State) (j : TileNo) :
    ((is.foldl State.evaluateTile s).tile j).counter = (s.tile j).counter ∧
    ((is.foldl State.evaluateTile s).tile j).state =
      if j ∈ is then judgedState s.settings (s.tile j) else (s.tile j).state := by
  induction is generalizing s with
  | nil => exact ⟨rfl, by simp⟩
  | cons i is ih =>
    obtain ⟨hcounter, hstate⟩ := s.evaluateTile_tile i j
    obtain ⟨hcounter', hstate'⟩ := ih (s.evaluateTile i)
    refine ⟨hcounter'.trans hcounter, hstate'.trans ?_⟩
    rw [s.evaluateTile_settings]
    by_cases hj : j = i
    · rw [if_pos hj] at hstate
      rw [judgedState_congr hstate hcounter, hstate]
      simp [hj]
    · rw [if_neg hj] at hstate
      have hsame : judgedState s.settings ((s.evaluateTile i).tile j) = judgedState s.settings (s.tile j) := by
        unfold judgedState
        rw [hstate, hcounter]
      rw [hsame, hstate]
      simp [hj]

theorem State.evaluateTiles_tile (s : State) (j : TileNo) :
    (s.evaluateTiles.tile j).counter = (s.tile j).counter ∧
    (s.evaluateTiles.tile j).state =
      if j.val < s.tileCount then judgedState s.settings (s.tile j) else (s.tile j).state := by
  have h := State.evaluate_tile s.tilesInUse s j
  rw [← State.evaluateTiles] at h
  simpa only [State.tilesInUse, List.mem_filter, List.mem_finRange, true_and, decide_eq_true_eq] using h

/-! ## The dark (R116, R119) -/

theorem GainContext.retarget_of_dark {g : GainContext} {i : TileNo} {r : TileRecord}
    (dark : (g.targetCase i r.state).isDark = true) : (g.retarget i r).target = 0 ∧ (g.retarget i r).applied = 0 := by
  unfold GainContext.retarget
  rw [GainContext.cut_eq]
  exact ⟨GainContext.target_of_isDark dark, by simp [dark]⟩

theorem GainContext.targetCase_blanked {g : GainContext} {i : TileNo} (st : TileState) (running : g.running = true)
    (inUse : i.val < g.tileCount) (blanked : g.blanked = true) : g.targetCase i st = .blanked := by
  simp [GainContext.targetCase, running, inUse, blanked]

end Sys2Proof.Machine
end

section
/-! The statements on what the written settings do at once (R91, R92, R102 to R107, R114, R118, R119, R122, R150, R153). -/

namespace Sys2Proof.Safety

open Sys2Proof.Machine

variable {s : State}

/-! ## Light settings -/

/-- A state with a light setting stored in it and the pair not yet recomputed. -/
structure LightStored (s m : State) : Prop where
  frame : Unchanged [.settings, .light] s m
  ceiling : m.light.ceiling = s.light.ceiling
  gain : m.light.gain = s.light.gain
  clock : m.light.clock = s.light.clock
  tick : m.light.tick = s.light.tick
  layout : m.settings.layout = s.settings.layout

theorem LightStored.onSettings (s : State) {f : Settings → Settings} (h : (f s.settings).layout = s.settings.layout) :
    LightStored s (s.onSettings f) :=
  ⟨State.onSettings_unchanged f (by decide) (.refl _ s), rfl, rfl, rfl, rfl, h⟩

theorem LightStored.enable (s : State) (i : Fin 36) (v : Half) (ch : Channel) (r : ChannelRecord) :
    LightStored s ((s.storeOperating i v).setChannel ch r) := by
  cases ch <;> exact ⟨State.setChannel_unchanged _ _ (by decide) (State.storeOperating_unchanged i v (by decide) (.refl _ s)),
    rfl, rfl, rfl, rfl, rfl⟩

/-- The rows of the light settings. -/
def WritesLight (c : Instr) (d : Half) : Prop :=
  (∃ ch, c = .channelEnableWrite ch d) ∨ (∃ ch f, c = .channelSettingWrite ch f d) ∨
    (∃ b f, c = .bandFieldWrite b f d) ∨ (∃ f, c = .defaultBandWrite f d) ∨
    c = .unsetCeilingWrite d ∨ ∃ p f, c = .curvePointWrite p f d

theorem storeItem_enable (s : State) (ch : Channel) (d : Half) :
    s.storeItem d (.operating (channelEnableIndex ch)) =
      ((s.storeOperating (channelEnableIndex ch) d).setChannel ch ((s.channel ch).switch (d != 0))).recomputeLight := by
  cases ch <;> rfl

/-- Each stores its setting and recomputes; only an enable touches a channel. -/
theorem storeItem_light {c : Instr} {it : Item} {d : Half} (row : rowWrite c = some (it, d)) (h : WritesLight c d)
    (s : State) : ∃ m, s.storeItem d it = m.recomputeLight ∧ LightStored s m ∧
      ((∀ ch, c ≠ .channelEnableWrite ch d) → m.light = s.light) := by
  rcases h with ⟨ch, rfl⟩ | ⟨ch, f, rfl⟩ | ⟨b, f, rfl⟩ | ⟨f, rfl⟩ | rfl | ⟨p, f, rfl⟩
  · cases row
    exact ⟨_, storeItem_enable s ch d, LightStored.enable .., fun other => absurd rfl (other ch)⟩
  · cases row
    exact ⟨s.storeOperating (channelSettingIndex ch f) d, by cases ch <;> cases f <;> rfl, .onSettings s (by rfl), fun _ => rfl⟩
  · cases row
    exact ⟨_, rfl, .onSettings s (by rfl), fun _ => rfl⟩
  · cases row
    exact ⟨s.storeOperating (defaultBandIndex f) d, by cases f <;> rfl, .onSettings s (by rfl), fun _ => rfl⟩
  · cases row
    exact ⟨s.storeOperating 32 d, rfl, .onSettings s (by rfl), fun _ => rfl⟩
  · cases row
    exact ⟨_, rfl, .onSettings s (by rfl), fun _ => rfl⟩

theorem writeRefusal_of_inRange {it : Item} {v : Half} (writable : itemReadOnly it = false)
    (other : itemIsLayout it = false) (notCall : it ≠ .call) (inRange : itemInRange it v.toNat = true) :
    s.writeRefusal it v = none := by
  simp [State.writeRefusal, writable, other, notCall, inRange]

theorem itemInRange_operating {i : Fin 36} {lo hi v : Nat} (range : operatingRanges.get i = (lo, hi)) (low : lo ≤ v)
    (high : v ≤ hi) : itemInRange (.operating i) v = true := by
  simp [itemInRange, range, low, high]

theorem switch_of_one (r : ChannelRecord) : r.switch ((1 : Half) != 0) =
    if r.state = .off then { r with state := .starting } else r := by
  cases h : r.state <;> simp [ChannelRecord.switch, h]

/-- Settles O54, by the one shape of the six rows. -/
theorem lightWritesRecompute : Obligations.LightWritesRecompute := by
  refine ⟨fun c it d s quiet row passes light => ?_, fun ch d s quiet small => ?_⟩
  · obtain ⟨m, hstore, stored, hlight⟩ := storeItem_light row light s.clockFrame
    refine .of_stored quiet row passes ?_
    rw [hstore]
    have current : (m.recomputeLight.respond .ok (rowNumber c) (s.itemValue it)).LightCurrent :=
      m.recomputeLight_current.congr rfl rfl
    have hm := m.recomputeLight_light
    refine ⟨?_, current.ceiling, current.gain, ?_, ?_, ?_, fun same => ?_, fun changed => ?_, fun notEnable other => ?_⟩
    · exact unchanged_respond (by decide) (State.recomputeLight_unchanged (by decide)
        ((unchanged_clockFrame (by decide) s).trans (stored.frame.mono (by decide)))) ..
    · exact m.recomputeLight_clock.trans stored.clock
    · exact m.recomputeLight_tick.trans stored.tick
    · exact (congrArg Settings.layout m.recomputeLight_settings).trans stored.layout
    · have hsame : m.bandCeiling = m.light.ceiling ∧ m.gainUnder m.bandCeiling = m.light.gain := by
        rw [State.respond_light, hm] at same
        exact ⟨same.1.trans stored.ceiling.symm, same.2.trans stored.gain.symm⟩
      change m.recomputeLight.tiles = s.tiles
      rw [State.recomputeLight_of_same hsame]
      exact stored.frame.agree .tiles (by decide)
    · have hchanged : ¬ (m.bandCeiling = m.light.ceiling ∧ m.gainUnder m.bandCeiling = m.light.gain) := fun hsame => by
        rw [State.respond_light, hm] at changed
        exact changed ⟨hsame.1.trans stored.ceiling, hsame.2.trans stored.gain⟩
      rw [State.respond_light, hm]
      exact State.recomputeLight_of_changed hchanged
    · change m.recomputeLight.channel other = s.channel other
      rw [State.recomputeLight_channel, State.channel, hlight notEnable]
      rfl
  · have inRange : itemInRange (.operating (channelEnableIndex ch)) d.toNat = true :=
      itemInRange_operating (lo := 0) (by cases ch <;> rfl) (Nat.zero_le _) small
    refine .of_stored quiet (it := .operating (channelEnableIndex ch)) rfl
      (writeRefusal_of_inRange rfl rfl nofun inRange) ?_
    rw [storeItem_enable]
    have hchannel (x : Channel) : (((s.clockFrame.storeOperating (channelEnableIndex ch) d).setChannel ch
        ((s.clockFrame.channel ch).switch (d != 0))).recomputeLight.respond .ok
          (rowNumber (.channelEnableWrite ch d))
          (s.itemValue (.operating (channelEnableIndex ch)))).channel x =
        (s.light.setChannel ch ((s.channel ch).switch (d != 0))).channel x := State.recomputeLight_channel _ x
    refine ⟨fun other apart => ?_, ?_, ?_⟩
    · rw [hchannel, LightUnit.channel_setChannel_of_ne _ _ apart]
      rfl
    · rintro rfl
      rw [hchannel, LightUnit.channel_setChannel_self]
      rfl
    · rintro rfl
      rw [hchannel, LightUnit.channel_setChannel_self, switch_of_one]

/-! ## Limits, policy, trim and layout -/

theorem limitWrite_runs (quiet : Quiet s) (l : Limit) {d : Half} (low : 1 ≤ d.toNat) (high : d.toNat ≤ 255) :
    Runs (.limitWrite l d) s fun t => ∀ i,
      (t.tile i).counter = (s.tile i).counter ∧
      (t.tile i).state =
        if s.tileCount ≤ i.val ∨ (s.tile i).state = .faulted then (s.tile i).state
        else if t.settings.faultLimit ≤ (s.tile i).counter then .faulted
        else if t.settings.suspectLimit ≤ (s.tile i).counter then .suspect else .lit := by
  have inRange : itemInRange (.operating (limitIndex l)) d.toNat = true :=
    itemInRange_operating (lo := 1) (hi := 255) (by cases l <;> rfl) low high
  refine .of_stored quiet (it := .operating (limitIndex l)) rfl (writeRefusal_of_inRange rfl rfl nofun inRange) fun i => ?_
  have hstore : s.clockFrame.storeItem d (.operating (limitIndex l)) =
      (s.clockFrame.storeOperating (limitIndex l) d).evaluateTiles := by cases l <;> rfl
  rw [hstore]
  have hset := (State.evaluateTiles_unchanged (xs := [.tiles, .faults]) (by decide)
    (.refl _ (s.clockFrame.storeOperating (limitIndex l) d))).agree .settings (by decide)
  obtain ⟨hcounter, hstate⟩ := (s.clockFrame.storeOperating (limitIndex l) d).evaluateTiles_tile i
  rw [State.respond_settings, hset]
  refine ⟨hcounter, hstate.trans ?_⟩
  by_cases inUse : i.val < s.tileCount
  · by_cases faulted : (s.tile i).state = .faulted
    · exact (if_pos inUse).trans ((if_pos faulted).trans (faulted.symm.trans (if_pos (Or.inr faulted)).symm))
    · exact (if_pos inUse).trans ((if_neg faulted).trans (if_neg (by simp [inUse, faulted])).symm)
  · exact (if_neg inUse).trans (if_pos (Or.inl (Nat.le_of_not_lt inUse))).symm

theorem faceFaultLimitWrite_runs (quiet : Quiet s) {d : Half} (high : d.toNat ≤ 128) :
    Runs (.faceFaultLimitWrite d) s fun t =>
      Unchanged [.wires, .link, .settings, .tiles, .faults] s t ∧
      t.faults.faultedCount = s.faults.faultedCount ∧
      t.faults.reasons =
        { s.faults.reasons with
          faultLimit := decide (d.toNat ≠ 0 ∧ d.toNat ≤ s.faults.faultedCount) } ∧
      (s.blanked = false → t.blanked = true →
        t.faults = { s.faults.join (s.faultRecord .faceBlanked none 2) with reasons := t.faults.reasons } ∧
        (s.governor = .running → ∀ i, i.val < s.tileCount →
          (t.tile i).target = 0 ∧ (t.tile i).applied = 0)) ∧
      (s.blanked = true → t.blanked = false → t.faults =
        { s.faults.join (s.faultRecord .faceUnblanked none 2) with reasons := t.faults.reasons }) ∧
      (s.blanked = t.blanked → t.faults.queue = s.faults.queue ∧ t.tiles = s.tiles) := by
  have inRange : itemInRange (.operating 23) d.toNat = true :=
    itemInRange_operating (lo := 0) (hi := 128) rfl (Nat.zero_le _) high
  refine .of_stored quiet (it := .operating 23) rfl (writeRefusal_of_inRange rfl rfl nofun inRange) ?_
  have hreached : (s.clockFrame.storeOperating 23 d).faceLimitReached =
      decide (d.toNat ≠ 0 ∧ d.toNat ≤ s.faults.faultedCount) := by
    have hlimit : (s.clockFrame.storeOperating 23 d).settings.faceFaultLimit = d.toNat := Table.get_set_self ..
    unfold State.faceLimitReached
    rw [hlimit, Bool.decide_and]
    simp only [ne_eq, decide_not, bne, beq_eq_decide]
    rfl
  have hfinal : s.clockFrame.storeItem d (.operating 23) = (s.clockFrame.storeOperating 23 d).faceLimitCheck := rfl
  rw [hfinal]
  have hreasons := (s.clockFrame.storeOperating 23 d).faceLimitCheck_reasons
  rw [hreached] at hreasons
  refine ⟨?_, State.faceLimitCheck_faultedCount _, hreasons, ?_⟩
  · exact unchanged_respond (by decide) (State.faceLimitCheck_unchanged (by decide)
      (State.storeOperating_unchanged 23 d (by decide) (unchanged_clockFrame (by decide) s))) ..
  · have hblanked (t : State) (o : LinkOutcome) (n v : Half) : (t.respond o n v).blanked = t.blanked := rfl
    have hbefore : (s.clockFrame.storeOperating 23 d).blanked = s.blanked := rfl
    rw [hblanked]
    unfold State.faceLimitCheck
    split
    next =>
      have hafter : ((s.clockFrame.storeOperating 23 d).addReason .faultLimit).blanked = true := by
        rw [State.blanked, State.addReason_reasons]
        exact BlankReasons.any_put_true _ _
      rw [hafter]
      refine ⟨fun unblanked _ => ⟨?_, fun running i inUse => ?_⟩, nofun, fun blanked => ?_⟩
      · have hfaults := State.addReason_faults_of_unblanked .faultLimit (hbefore.trans unblanked)
        rw [← State.addReason_reasons] at hfaults
        exact hfaults
      · change (((s.clockFrame.storeOperating 23 d).addReason .faultLimit).tile i).target = 0 ∧ _
        have htile := State.addReason_tile_of_unblanked .faultLimit (hbefore.trans unblanked) i
        change _ ∧ (((s.clockFrame.storeOperating 23 d).addReason .faultLimit).tile i).applied = 0
        rw [htile]
        refine GainContext.retarget_of_dark ?_
        rw [GainContext.targetCase_blanked _ (beq_iff_eq.mpr running) inUse rfl]
        rfl
      · exact ⟨(congrArg FaultUnit.queue (State.addReason_faults_of_blanked .faultLimit (hbefore.trans blanked)) :),
          State.addReason_tiles_of_blanked .faultLimit (hbefore.trans blanked)⟩
    next =>
      have hafter : ((s.clockFrame.storeOperating 23 d).removeReason .faultLimit).blanked =
          (s.faults.reasons.put .faultLimit false).any := by
        rw [State.blanked, State.removeReason_reasons]
        rfl
      have hkept : (s.faults.reasons.put .faultLimit false).any = true → s.blanked = true := fun h => by
        have hsup : s.faults.reasons.supervisor = true := by simpa [BlankReasons.put, BlankReasons.any] using h
        simp [State.blanked, BlankReasons.any, hsup]
      rw [hafter]
      refine ⟨fun unblanked others => ?_, fun blanked empty => ?_, fun same => ?_⟩
      · rw [hkept others] at unblanked
        cases unblanked
      · have hfaults := State.removeReason_faults_of_left .faultLimit (hbefore.trans blanked) empty
        rw [← State.removeReason_reasons] at hfaults
        exact hfaults
      · have kept : (s.clockFrame.storeOperating 23 d).blanked = false ∨
            ((s.clockFrame.storeOperating 23 d).faults.reasons.put .faultLimit false).any = true := by
          rw [hbefore, same]
          exact (Bool.eq_false_or_eq_true _).symm
        exact ⟨(congrArg FaultUnit.queue (State.removeReason_faults_of_kept .faultLimit kept) :),
          State.removeReason_tiles_of_kept .faultLimit kept⟩

theorem tileBlankPolicyWrite_runs (quiet : Quiet s) {d : Half} (high : d.toNat ≤ 1) :
    Runs (.tileBlankPolicyWrite d) s fun t =>
      Unchanged [.wires, .link, .settings, .tiles] s t ∧
      ∀ i, (t.tile i).state = (s.tile i).state ∧ (t.tile i).bound = (s.tile i).bound ∧
        (s.governor = .running → i.val < s.tileCount → s.blanked = false →
          (s.tile i).state = .faulted →
          (d = 1 → (t.tile i).target = 0 ∧ (t.tile i).applied = 0) ∧
          (d = 0 → (t.tile i).target = s.gainContext.base (s.tile i))) := by
  have inRange : itemInRange (.operating 22) d.toNat = true :=
    itemInRange_operating (lo := 0) (hi := 1) rfl (Nat.zero_le _) high
  refine .of_stored quiet (it := .operating 22) rfl (writeRefusal_of_inRange rfl rfl nofun inRange) ?_
  have hfinal : s.clockFrame.storeItem d (.operating 22) = (s.clockFrame.storeOperating 22 d).retargetAll := rfl
  rw [hfinal]
  have stands : Retargeted s (s.clockFrame.storeOperating 22 d).retargetAll := 
    (Retargeted.of_tiles (by rfl)).retargetAll
  have hcontext : (s.clockFrame.storeOperating 22 d).gainContext = { s.gainContext with policy := d.toNat != 0 } := by
    have hpolicy : (s.clockFrame.storeOperating 22 d).settings.tileBlank = (d.toNat != 0) :=
      congrArg (· != 0) (Table.get_set_self ..)
    unfold State.gainContext
    rw [hpolicy]
    rfl
  refine ⟨?_, fun i => ⟨stands.state i, stands.bound i, fun running inUse unblanked faulted => ?_⟩⟩
  · exact unchanged_respond (by decide) (State.retargetAll_unchanged (by decide)
      (State.storeOperating_unchanged 22 d (by decide) (unchanged_clockFrame (by decide) s))) ..
  · have htile : ((s.clockFrame.storeOperating 22 d).retargetAll.respond .ok (rowNumber (.tileBlankPolicyWrite d))
        (s.itemValue (.operating 22))).tile i =
        ({ s.gainContext with policy := d.toNat != 0 } : GainContext).retarget i (s.tile i) := by
      rw [← hcontext]
      exact State.retargetAll_tile _ i
    rw [htile]
    have hcase : ({ s.gainContext with policy := d.toNat != 0 } : GainContext).targetCase i (s.tile i).state =
        if d.toNat != 0 then .faulted else .base := by
      have hinUse : ¬ s.tileCount ≤ i.val := Nat.not_le.mpr inUse
      simp [GainContext.targetCase, State.gainContext, State.running, running, hinUse, unblanked, faulted]
    refine ⟨?_, ?_⟩
    · rintro rfl
      refine GainContext.retarget_of_dark ?_
      rw [hcase]
      rfl
    · rintro rfl
      rw [GainContext.retarget, GainContext.cut_eq]
      change GainContext.target _ i (s.tile i) = _
      unfold GainContext.target
      rw [hcase]
      rfl

theorem trimWrite_runs (quiet : Quiet s) (i : TileNo) {d : Half} (high : d.toNat ≤ 1024) :
    Runs (.trimWrite i d) s fun t =>
      Unchanged [.wires, .link, .tiles] s t ∧ (∀ j, j ≠ i → t.tile j = s.tile j) ∧
      (t.tile i).trim = d.toNat ∧ (t.tile i).bound = s.tiles.ceiling * d.toNat / 1024 ∧
      (t.tile i).target = t.gainContext.target i (t.tile i) ∧
      (t.tile i).applied ≤ (t.tile i).bound ∧ (t.tile i).applied ≤ (s.tile i).applied := by
  refine .of_stored quiet (it := .trim i) rfl (writeRefusal_of_inRange rfl rfl nofun (decide_eq_true high)) ?_
  have hfinal : s.clockFrame.storeItem d (.trim i) = s.clockFrame.setTrim i d.toNat := rfl
  rw [hfinal]
  have htile : ((s.clockFrame.setTrim i d.toNat).respond .ok (rowNumber (.trimWrite i d))
      (s.itemValue (.trim i))).tile i = s.gainContext.rebound i { s.tile i with trim := d.toNat } :=
    s.clockFrame.setTrim_tile i d.toNat
  have hcontext : ((s.clockFrame.setTrim i d.toNat).respond .ok (rowNumber (.trimWrite i d))
      (s.itemValue (.trim i))).gainContext = s.gainContext := rfl
  rw [htile, hcontext]
  obtain ⟨htarget, hbound, happlied, _⟩ :=
    TileComposed.rebound (g := s.gainContext) (i := i) (r := { s.tile i with trim := d.toNat })
  refine ⟨?_, fun j apart => s.clockFrame.setTrim_tile_of_ne d.toNat apart, ?_, ?_, htarget, happlied, ?_⟩
  · exact unchanged_respond (by decide)
      (State.setTrim_unchanged i d.toNat (by decide) (unchanged_clockFrame (by decide) s)) ..
  all_goals rw [GainContext.rebound, GainContext.cut_eq]
  · rfl
  · dsimp only
    split
    · exact Nat.zero_le _
    · exact Nat.min_le_left _ _

theorem layoutWrite_runs (quiet : Quiet s) (i : Fin 15) {d : Half} (setup : s.governor = .setup) (hi : i.val < 12)
    (inRange : layoutInRange i d.toNat = true) : Runs (.layoutWrite i d) s fun t =>
      Unchanged [.wires, .link, .settings, .tiles] s t ∧ t.settings.layout = s.settings.layout.store i d ∧
      (i.val < 4 → ∀ j, (t.tile j).target = 0) ∧ (4 ≤ i.val → t.tiles = s.tiles) := by
  have passes : s.writeRefusal (.layout i) d = none := by
    simp [State.writeRefusal, itemReadOnly, hi, State.running, setup, itemInRange, inRange]
  refine .of_stored quiet (it := .layout i) rfl passes ?_
  have hfinal : s.clockFrame.storeItem d (.layout i) = s.clockFrame.writeLayout i d := rfl
  rw [hfinal]
  refine ⟨?_, congrArg Settings.layout (s.clockFrame.writeLayout_settings i d), fun geometry j => ?_, fun base => ?_⟩
  · exact unchanged_respond (by decide)
      (State.writeLayout_unchanged i d (by decide) (unchanged_clockFrame (by decide) s)) ..
  · change ((s.clockFrame.writeLayout i d).tile j).target = 0
    unfold State.writeLayout
    dsimp only
    rw [if_pos geometry, State.retargetAll_tile, GainContext.retarget, GainContext.cut_eq]
    simp [GainContext.target, GainContext.targetCase, State.gainContext, State.running, State.clockFrame, setup]
  · change (s.clockFrame.writeLayout i d).tiles = s.tiles
    unfold State.writeLayout
    dsimp only
    rw [if_neg (by omega)]
    rfl

/-- Settles O55, one row after the other. -/
theorem tileWritesAct : Obligations.TileWritesAct :=
  ⟨fun l _ _ quiet low high => limitWrite_runs quiet l low high, fun _ _ quiet high => faceFaultLimitWrite_runs quiet high,
    fun _ _ quiet high => tileBlankPolicyWrite_runs quiet high, fun i _ _ quiet high => trimWrite_runs quiet i high,
    fun i _ _ quiet setup hi inRange => layoutWrite_runs quiet i setup hi inRange⟩

end Sys2Proof.Safety
end

section
/-! SUPPORT. What an event's own effect shows of the state it leaves (`Follows`), and the services as their rows take
them (R181). -/

namespace Sys2Proof.Safety

open Sys2Proof.Machine

variable {s t : State}

/-! ## What stands behind an event -/

theorem Follows.bufferState (h : Follows s t) (k : BufferNo) : t.bufferState k = s.bufferState k :=
  (congrArg BufferRecord.state (h.buffers k) :)

theorem Follows.link (h : Follows s t) : t.link = s.link := h.blocks.agree .link (by decide)

theorem Follows.tiles (h : Follows s t) : t.tiles = s.tiles := h.blocks.agree .tiles (by decide)

theorem Follows.faults (h : Follows s t) : t.faults = s.faults := h.blocks.agree .faults (by decide)

theorem Follows.settings (h : Follows s t) : t.settings = s.settings := h.blocks.agree .settings (by decide)

theorem Follows.governor (h : Follows s t) : t.governor = s.governor := h.blocks.agree .governor (by decide)

theorem Follows.tile (h : Follows s t) (i : TileNo) : t.tile i = s.tile i := by rw [State.tile, h.tiles]; rfl

theorem gainContext_congr (htiles : t.tiles = s.tiles) (hfaults : t.faults = s.faults)
    (hsettings : t.settings = s.settings) (hgovernor : t.governor = s.governor) : t.gainContext = s.gainContext := by
  unfold State.gainContext State.running State.tileCount State.blanked
  rw [htiles, hfaults, hsettings, hgovernor]

theorem Follows.gainContext (h : Follows s t) : t.gainContext = s.gainContext :=
  gainContext_congr h.tiles h.faults h.settings h.governor

theorem Follows.unchanged {r : State} {xs : List Block} (h : Follows s t)
    (sub : covers xs [.due, .bus, .table, .cues, .face] = true) (frame : Unchanged xs r s) : Unchanged xs r t :=
  frame.trans (h.blocks.mono sub)

/-! ## A recomputed target is the composed one -/

theorem target_retarget (g : GainContext) (i : TileNo) (r : TileRecord) :
    (g.retarget i r).target = g.target i (g.retarget i r) := by
  rw [GainContext.retarget, GainContext.cut_eq]
  rfl

theorem retargetAll_target (s : State) (i : TileNo) :
    (s.retargetAll.tile i).target = s.retargetAll.gainContext.target i (s.retargetAll.tile i) := by
  rw [State.retargetAll_tile]
  exact target_retarget ..

/-! ## The rows of the services -/

/-- The row of each service. -/
def serviceRow : Service → Instr
  | .closeSetup => .closeSetup
  | .restart => .restart
  | .setClock => .setClock
  | .openNoticeGate => .openNoticeGate
  | .closeNoticeGate => .closeNoticeGate
  | .wipeBuffer => .wipeBuffer
  | .tileTest => .tileTest
  | .clearTile => .clearTile
  | .blankFace => .blankFace
  | .unblankFace => .unblankFace
  | .captureSnapshot => .captureSnapshot

/-- What the owner of each service does with it. -/
def serviceTake : Service → State → State
  | .closeSetup => State.closeSetup
  | .restart => State.restart
  | .setClock => State.serveSetClock
  | .openNoticeGate => State.serveOpenGate
  | .closeNoticeGate => State.serveCloseGate
  | .wipeBuffer => State.serveWipe
  | .tileTest => State.serveTest
  | .clearTile => State.serveClearTile
  | .blankFace => State.serveBlank
  | .unblankFace => State.serveUnblank
  | .captureSnapshot => State.serveSnapshot

theorem exec_serviceRow (v : Service) (s : State) :
    exec (serviceRow v) s = .next (s.act fun t => t.takeService v (serviceTake v)) := by
  cases v <;> rfl

theorem exec_of_called {v : Service} (h : Called v s) : exec (serviceRow v) s = .next (serviceTake v s) := by
  obtain ⟨quiet, hstatus⟩ := h
  have requested : s.requested v = true := by simp [State.requested, hstatus]
  rw [exec_serviceRow, act_of_quiet quiet, State.takeService, if_pos requested]

theorem Runs.of_called {v : Service} {post : State → Prop} (h : Called v s) (effect : post (serviceTake v s)) :
    Runs (serviceRow v) s post := ⟨_, exec_of_called h, effect⟩

theorem exec_of_uncalled {v : Service} (quiet : Quiet s)
    (h : s.link.status.code ≠ v.code ∨ s.link.status.state ≠ .requested) : exec (serviceRow v) s = .next s := by
  have notRequested : s.requested v = false := by
    rcases h with h | h <;> simp [State.requested, h]
  rw [exec_serviceRow, act_of_quiet quiet, State.takeService, if_neg (by simp [notRequested])]

/-! ## The checks of a service in their order -/

theorem checked_of_failing {cs : List (Bool × ServiceError)} {b : Bool} {e : ServiceError} (f : State → State)
    (failing : b = true) : s.checked ((b, e) :: cs) f = s.setService .failed e := by
  simp [State.checked, failing, State.failService]

theorem checked_of_passing {cs : List (Bool × ServiceError)} {b : Bool} {e : ServiceError} (f : State → State)
    (passing : b = false) : s.checked ((b, e) :: cs) f = s.checked cs f := by
  simp [State.checked, passing]

theorem checked_nil (f : State → State) : s.checked [] f = f s := rfl

theorem notRunning_of_setup (h : s.governor = .setup) : (!s.running) = true := by simp [State.running, h]

theorem notRunning_of_running (h : s.governor = .running) : (!s.running) = false := by simp [State.running, h]

/-- The service that stands has ended or moved on. -/
theorem setService_status {v : Service} (h : t.link.status.code = v.code) (st : ServiceState) (e : ServiceError) :
    (t.setService st e).link.status = { code := v.code, state := st, error := e } := by
  rw [← h]
  rfl

theorem Called.code {v : Service} (h : Called v s) : s.link.status.code = v.code := by rw [h.2]

theorem setService_of_link {v : Service} (h : Called v s) (hlink : t.link = s.link) (st : ServiceState) (e : ServiceError) :
    (t.setService st e).link.status = { code := v.code, state := st, error := e } :=
  setService_status (by rw [hlink, h.code]) st e

end Sys2Proof.Safety
end

section
/-! The statements on RESTART, SET CLOCK, the notice gate and the snapshot (R22, R33, R34, R101, R183, R191). -/

namespace Sys2Proof.Safety

open Sys2Proof.Machine

variable {s t : State}

/-! ## RESTART -/

/-- With no request pending the arbiter only finds the transaction held at the port. -/
theorem arbitrate_of_no_request (h : s.bus.anyRequest = false) : Unchanged [.due] s s.arbitrate := by
  have hclaims : s.bus.guardClaims = false := by simp [BusState.guardClaims, h]
  have hown : s.grantOwn = s := by
    have hnone : s.bus.writeBackReq = none ∧ s.bus.wipeReq = none ∧ s.bus.verifyReq = none := by
      simpa [BusState.anyRequest, and_assoc] using h
    unfold State.grantOwn
    rw [hnone.1, hnone.2.1, hnone.2.2]
  unfold State.arbitrate
  split
  · exact .refl _ s
  · rw [hclaims]
    split
    next claims => cases claims
    next =>
      split
      · exact State.addDue_unchanged _ (by decide) (.refl _ s)
      · rw [hown]
        exact .refl _ s

theorem restarted_port (p : Burst) :
    (match p.source with
      | .own _ => { p with discarded := true }
      | .forwarded => p) = if p.source = .forwarded then p else { p with discarded := true } := by
  cases p.source <;> rfl

theorem restarted_bus (b : BusState) : b.restarted =
    { b with
      upstream := b.upstream.map fun r => { r with governed := false }
      port := b.port.map fun p => if p.source = .forwarded then p else { p with discarded := true }
      writeBackReq := none, wipeReq := none, verifyReq := none, waited := 0, errorMark := false } := by
  unfold BusState.restarted
  simp only [← restarted_port] <;> rfl

/-- Settles O58: each block's own rule, and an arbiter without a request. -/
theorem restartReturnsToSetup : Obligations.RestartReturnsToSetup := by
  intro s called
  refine .of_called called ?_
  let path := (s.withGovernor .setup).onBus BusState.restarted
  let cleared := (path.onTable fun _ => BufferTable.restarted).onCues CueUnit.restarted
  let dark := (cleared.onFace fun _ => ShowUnit.powerOn).onTiles TileTable.restarted
  let told := ((dark.onScan ScanUnit.restarted).onFaults FaultUnit.restarted).onLink LinkState.restarted
  have h : Unchanged [.due] told s.restart := arbitrate_of_no_request (s := told) rfl
  have frame : Unchanged [.due, .bus, .table, .cues, .face, .tiles, .scan, .faults, .link, .governor] s s.restart :=
    State.restart_unchanged (by decide) (.refl _ s)
  have hbus : s.restart.bus = s.bus.restarted := h.agree .bus (by decide)
  have hlink : s.restart.link = LinkState.restarted s.link := h.agree .link (by decide)
  have htiles : s.restart.tiles = TileTable.restarted s.tiles := h.agree .tiles (by decide)
  change s.restart.governor = _ ∧ s.restart.link.status = _ ∧ Unchanged _ s s.restart ∧ _
  refine ⟨h.agree .governor (by decide), by rw [hlink]; rfl, frame, ?_, ?_, h.agree .table (by decide),
    h.agree .cues (by decide), h.agree .face (by decide), ?_, fun i => ?_, h.agree .scan (by decide),
    h.agree .faults (by decide)⟩
  · change s.restart.link = { s.link with
      resetMark := true, resetSeen := true, resetCause := .restart, status := s.restart.link.status }
    rw [hlink]
    rfl
  · exact hbus.trans (restarted_bus s.bus)
  · change s.restart.tiles.ceiling = _ ∧ s.restart.tiles.gain = _
    rw [htiles]
    exact ⟨rfl, rfl⟩
  · change s.restart.tiles.records.get i = _
    rw [htiles]
    exact Table.get_map ..

/-! ## SET CLOCK, the notice gate, the snapshot -/

theorem setClock_serves (called : Called .setClock s) :
    let bad := 1439 < s.p1 ∨ 59 < s.p2 ∨ 6 < s.p3
    (bad → exec .setClock s = .next (s.setService .failed .badParameter)) ∧
    (¬ bad → Runs .setClock s fun t =>
      t.light.clock = { seconds := s.p1 * 60 + s.p2, day := s.p3, isSet := true } ∧
      t.light.ceiling = t.bandCeiling ∧ t.light.gain = t.gainUnder t.bandCeiling ∧
      t.light.tick = s.light.tick ∧ Ended .setClock .done .none t ∧
      Unchanged [.light, .tiles, .link] s t) := by
  intro bad
  have hbad : (decide (1439 < s.p1) || decide (59 < s.p2) || decide (6 < s.p3)) = decide bad := by
    simp only [bad, Bool.decide_or, Bool.or_assoc]
  refine ⟨fun isBad => (exec_of_called called).trans (congrArg _ ?_), fun good => .of_called called ?_⟩
  · change s.serveSetClock = _
    rw [State.serveSetClock, checked_of_failing _ (hbad.trans (decide_eq_true isBad))]
  · have hserve : serviceTake .setClock s = (s.setClock s.p1 s.p2 s.p3).endService := by
      change s.serveSetClock = _
      rw [State.serveSetClock, checked_of_passing _ (hbad.trans (decide_eq_false good)), checked_nil]
    have hlink : (s.setClock s.p1 s.p2 s.p3).link = s.link :=
      (State.setClock_unchanged (xs := [.light, .tiles]) _ _ _ (by decide) (.refl _ s)).agree .link (by decide)
    have current : (s.setClock s.p1 s.p2 s.p3).endService.LightCurrent := (State.recomputeLight_current _).congr rfl rfl
    rw [hserve]
    refine ⟨State.recomputeLight_clock _, current.ceiling, current.gain, State.recomputeLight_tick _,
      setService_of_link called hlink _ _, ?_⟩
    exact State.endService_unchanged (by decide) (State.setClock_unchanged _ _ _ (by decide) (.refl _ s))

theorem openGate_serves (called : Called .openNoticeGate s) :
    (s.governor = .setup → exec .openNoticeGate s = .next (s.setService .failed .notRunning)) ∧
    (s.governor = .running → s.p1 = 0 ∨ 3600 < s.p1 →
      exec .openNoticeGate s = .next (s.setService .failed .badParameter)) ∧
    (s.governor = .running → 1 ≤ s.p1 → s.p1 ≤ 3600 → exec .openNoticeGate s =
      .next ((s.onTable fun b => { b with gate := .opened s.p1 }).setService .done .none)) := by
  refine ⟨fun setup => (exec_of_called called).trans (congrArg _ ?_),
    fun running bad => (exec_of_called called).trans (congrArg _ ?_),
    fun running low high => (exec_of_called called).trans (congrArg _ ?_)⟩
  all_goals change s.serveOpenGate = _
  · rw [State.serveOpenGate, checked_of_failing _ (notRunning_of_setup setup)]
  · rw [State.serveOpenGate, checked_of_passing _ (notRunning_of_running running), checked_of_failing]
    simpa using bad
  · have inRange : (s.p1 == 0 || decide (3600 < s.p1)) = false := by
      have hzero : s.p1 ≠ 0 := by omega
      simp [hzero, high]
    rw [State.serveOpenGate, checked_of_passing _ (notRunning_of_running running), checked_of_passing _ inRange]
    rfl

theorem closeGate_bufferState (s : State) (k : BufferNo) : s.closeGate.bufferState k =
    if k = noticeBuffer ∧ s.bufferState k = .filling ∧ s.table.gate ≠ .closed then .wiping else s.bufferState k := by
  have hgate : s.gateOpen = true ↔ s.table.gate ≠ .closed := by
    unfold State.gateOpen
    cases s.table.gate <;> simp
  unfold State.closeGate
  by_cases hk : k = noticeBuffer
  · subst hk
    rw [State.onBuffer_bufferState_self]
    change BufferRecord.state (if s.gateOpen && (s.table.records.get noticeBuffer).state == .filling then _ else _) = _
    by_cases hfill : (s.table.records.get noticeBuffer).state = .filling
    · by_cases hopen : s.gateOpen = true
      · rw [if_pos (by simp [hopen, hfill]), if_pos ⟨rfl, hfill, hgate.mp hopen⟩]
        rfl
      · rw [if_neg (by simp [hopen]), if_neg (fun h => hopen (hgate.mpr h.2.2))]
        rfl
    · rw [if_neg (by simp [hfill]), if_neg (fun h => hfill h.2.1)]
      rfl
  · rw [State.onBuffer_bufferState_of_ne _ _ hk, if_neg (fun h => hk h.1)]
    rfl

theorem closeGate_serves (called : Called .closeNoticeGate s) : Runs .closeNoticeGate s fun t =>
    t.table.gate = .closed ∧ Ended .closeNoticeGate .done .none t ∧
    (∀ k, t.bufferState k =
      if k = noticeBuffer ∧ s.bufferState k = .filling ∧ s.table.gate ≠ .closed then .wiping
      else s.bufferState k) ∧
    Unchanged [.due, .bus, .table, .cues, .face, .link] s t := by
  refine .of_called called ?_
  have h : Follows s.closeGate.endService (serviceTake .closeNoticeGate s) :=
    event_follows s fun t => t.closeGate.endService
  refine ⟨h.gate, ?_, fun k => (h.bufferState k).trans (closeGate_bufferState s k), ?_⟩
  · exact (congrArg LinkState.status h.link).trans (setService_of_link called rfl _ _)
  · exact h.unchanged (by decide) (State.endService_unchanged (by decide) (State.closeGate_unchanged (by decide) (.refl _ s)))

theorem snapshot_serves (called : Called .captureSnapshot s) : Runs .captureSnapshot s fun t =>
    Unchanged [.link] s t ∧ t.link = { s.link with snapshot := t.link.snapshot, status := t.link.status } ∧
    Ended .captureSnapshot .done .none t ∧ t.link.snapshot.captured = true ∧
    t.link.snapshot.items.cells = snapshotValues s :=
  .of_called called ⟨State.serveSnapshot_unchanged (by decide) (.refl _ s), rfl, setService_status called.code _ _, rfl,
    State.captured_items s⟩

/-- Settles O59, one service after the other. -/
theorem clockGateAndSnapshotServices : Obligations.ClockGateAndSnapshotServices :=
  ⟨fun _ called => setClock_serves called, fun _ called => openGate_serves called,
    fun _ called => closeGate_serves called, fun _ called => snapshot_serves called⟩

end Sys2Proof.Safety
end

section
/-! SUPPORT. The layout checks (R189): the first of the windows, and the first of their pairs, that fails. -/

namespace Sys2Proof.Machine

/-! ## The first in an order -/

/-- What `find?` finds in a list that stands in a strict order is the least that qualifies. -/
theorem find?_eq_some_of_pairwise {α : Type} {r : α → α → Prop} (asymm : ∀ a b, r a b → ¬ r b a) {l : List α}
    (hl : l.Pairwise r) (p : α → Bool) (a : α) :
    l.find? p = some a ↔ a ∈ l ∧ p a = true ∧ ∀ b ∈ l, p b = true → ¬ r b a := by
  induction l with
  | nil => simp
  | cons x xs ih =>
    obtain ⟨hx, hxs⟩ := List.pairwise_cons.mp hl
    by_cases hp : p x = true
    · rw [List.find?_cons_of_pos hp, Option.some.injEq]
      constructor
      · rintro rfl
        refine ⟨List.mem_cons_self, hp, fun b hb _ before => ?_⟩
        rcases List.mem_cons.mp hb with rfl | hb
        · exact asymm _ _ before before
        · exact asymm _ _ before (hx b hb)
      · rintro ⟨ha, _, least⟩
        rcases List.mem_cons.mp ha with rfl | ha
        · rfl
        · exact absurd (hx a ha) (least x List.mem_cons_self hp)
    · rw [List.find?_cons_of_neg hp, ih hxs]
      constructor
      · rintro ⟨ha, hpa, least⟩
        refine ⟨List.mem_cons_of_mem _ ha, hpa, fun b hb hpb => ?_⟩
        rcases List.mem_cons.mp hb with rfl | hb
        · exact absurd hpb hp
        · exact least b hb hpb
      · rintro ⟨ha, hpa, least⟩
        rcases List.mem_cons.mp ha with rfl | ha
        · exact absurd hpa hp
        · exact ⟨ha, hpa, fun b hb => least b (List.mem_cons_of_mem _ hb)⟩

/-! ## Windows and pairs in the order of R189 -/

/-- R189, R196: the windows in the order of their codes. -/
abbrev WindowBefore (v w : LayoutWindow) : Prop := v.code.toNat < w.code.toNat

/-- The pairs, by their first window and then by their second. -/
abbrev PairBefore (p q : LayoutWindow × LayoutWindow) : Prop :=
  WindowBefore p.1 q.1 ∨ (p.1 = q.1 ∧ WindowBefore p.2 q.2)

theorem mem_layoutWindows (w : LayoutWindow) : w ∈ layoutWindows := by cases w <;> decide

theorem mem_windowPairs (v w : LayoutWindow) : (v, w) ∈ windowPairs ↔ WindowBefore v w := by
  cases v <;> cases w <;> decide

theorem not_pairBefore (v w v' w' : LayoutWindow) :
    ¬ PairBefore (v', w') (v, w) ↔ WindowBefore v v' ∨ (v = v' ∧ ¬ WindowBefore w' w) := by
  cases v <;> cases w <;> cases v' <;> cases w' <;> decide

theorem findWindow_eq_some (p : LayoutWindow → Bool) (w : LayoutWindow) :
    layoutWindows.find? p = some w ↔ p w = true ∧ ∀ v, WindowBefore v w → p v = false := by
  rw [find?_eq_some_of_pairwise (r := WindowBefore) (fun _ _ => Nat.lt_asymm) (by decide)]
  simp only [mem_layoutWindows, true_and, forall_const]
  refine and_congr_right fun _ => forall_congr' fun v => ?_
  cases p v <;> simp

theorem findWindow_eq_none (p : LayoutWindow → Bool) : layoutWindows.find? p = none ↔ ∀ w, p w = false := by
  simp [List.find?_eq_none, mem_layoutWindows]

theorem findPair_eq_some (p : LayoutWindow × LayoutWindow → Bool) (v w : LayoutWindow) :
    windowPairs.find? p = some (v, w) ↔ WindowBefore v w ∧ p (v, w) = true ∧
      ∀ v' w', WindowBefore v' w' → p (v', w') = true → WindowBefore v v' ∨ (v = v' ∧ ¬ WindowBefore w' w) := by
  have asymm (a b : LayoutWindow × LayoutWindow) (h : PairBefore a b) : ¬ PairBefore b a := by
    obtain ⟨a, a'⟩ := a
    obtain ⟨b, b'⟩ := b
    rw [not_pairBefore]
    exact h.imp_right fun ⟨heq, hlt⟩ => ⟨heq, Nat.lt_asymm hlt⟩
  rw [find?_eq_some_of_pairwise (r := PairBefore) asymm (by decide), mem_windowPairs]
  refine and_congr_right fun _ => and_congr_right fun _ => ?_
  constructor
  · exact fun h v' w' before hp => (not_pairBefore v w v' w').mp (h _ ((mem_windowPairs v' w').mpr before) hp)
  · rintro h ⟨v', w'⟩ hmem hp
    exact (not_pairBefore v w v' w').mpr (h v' w' ((mem_windowPairs v' w').mp hmem) hp)

theorem findPair_eq_none (p : LayoutWindow × LayoutWindow → Bool) :
    windowPairs.find? p = none ↔ ∀ v w, WindowBefore v w → p (v, w) = false := by
  simp [List.find?_eq_none, mem_windowPairs]

/-- Two windows that are not empty overlap exactly where they share an address. -/
theorem windowsOverlap_iff {l : Layout} (face : 0 < l.faceSize) (v w : LayoutWindow) :
    windowsOverlap l (v, w) = true ↔ ∃ a, v.holds l a = true ∧ w.holds l a = true := by
  have size (x : LayoutWindow) : 0 < x.size l := by
    cases x
    case face => exact face
    case buffer => exact Nat.mul_pos (by decide) face
    case cue => exact Nat.succ_pos 1023
    case report => exact Nat.succ_pos 2047
  have hv := size v
  have hw := size w
  simp only [windowsOverlap, LayoutWindow.holds, Bool.and_eq_true, decide_eq_true_eq]
  constructor
  · rintro ⟨h1, h2⟩
    exact ⟨max (v.base l) (w.base l), by omega⟩
  · rintro ⟨a, h⟩
    omega

/-! ## The check -/

section
variable (l : Layout)

/-- The five ends of the check in their order. -/
theorem Layout.check_cases :
    (128 < l.tileCount ∧ l.check = (.tileCount, .none)) ∨ ¬ 128 < l.tileCount ∧
    ((∃ w, layoutWindows.find? (fun w => !w.aligned l) = some w ∧ l.check = (.alignment, .one w)) ∨
      layoutWindows.find? (fun w => !w.aligned l) = none ∧
    ((∃ w, layoutWindows.find? (LayoutWindow.wraps l) = some w ∧ l.check = (.wrap, .one w)) ∨
      layoutWindows.find? (LayoutWindow.wraps l) = none ∧
    ((∃ p, windowPairs.find? (windowsOverlap l) = some p ∧ l.check = (.overlap, .two p.1 p.2)) ∨
      windowPairs.find? (windowsOverlap l) = none ∧ l.check = (.passed, .none)))) := by
  unfold Layout.check
  split
  next big => exact .inl ⟨big, rfl⟩
  next small =>
    refine .inr ⟨small, ?_⟩
    split
    next w hw => exact .inl ⟨w, hw, rfl⟩
    next haligned =>
      refine .inr ⟨haligned, ?_⟩
      split
      next w hw => exact .inl ⟨w, hw, rfl⟩
      next hwraps =>
        refine .inr ⟨hwraps, ?_⟩
        split
        next p hp => exact .inl ⟨p, hp, rfl⟩
        next hpairs => exact .inr ⟨hpairs, rfl⟩

theorem Layout.check_eq_tileCount : l.check = (.tileCount, .none) ↔ 128 < l.tileCount := by
  rcases l.check_cases with ⟨h, hc⟩ | ⟨h, ⟨w, hw, hc⟩ | ⟨ha, ⟨w, hw, hc⟩ | ⟨hr, ⟨p, hp, hc⟩ | ⟨hp, hc⟩⟩⟩⟩ <;> simp [hc, h]

theorem Layout.check_eq_alignment (w : LayoutWindow) : l.check = (.alignment, .one w) ↔
    ¬ 128 < l.tileCount ∧ layoutWindows.find? (fun w => !w.aligned l) = some w := by
  rcases l.check_cases with ⟨h, hc⟩ | ⟨h, ⟨w, hw, hc⟩ | ⟨ha, ⟨w, hw, hc⟩ | ⟨hr, ⟨p, hp, hc⟩ | ⟨hp, hc⟩⟩⟩⟩
  · simp [hc, h]
  · simp [hc, h, hw]
  all_goals simp [hc, ha]

theorem Layout.check_eq_wrap (w : LayoutWindow) : l.check = (.wrap, .one w) ↔
    ¬ 128 < l.tileCount ∧ layoutWindows.find? (fun w => !w.aligned l) = none ∧
      layoutWindows.find? (LayoutWindow.wraps l) = some w := by
  rcases l.check_cases with ⟨h, hc⟩ | ⟨h, ⟨w, hw, hc⟩ | ⟨ha, ⟨w, hw, hc⟩ | ⟨hr, ⟨p, hp, hc⟩ | ⟨hp, hc⟩⟩⟩⟩
  · simp [hc, h]
  · simp [hc, hw]
  · simp [hc, h, ha, hw]
  all_goals simp [hc, hr]

theorem Layout.check_eq_overlap (v w : LayoutWindow) : l.check = (.overlap, .two v w) ↔
    ¬ 128 < l.tileCount ∧ layoutWindows.find? (fun w => !w.aligned l) = none ∧
      layoutWindows.find? (LayoutWindow.wraps l) = none ∧ windowPairs.find? (windowsOverlap l) = some (v, w) := by
  rcases l.check_cases with ⟨h, hc⟩ | ⟨h, ⟨w, hw, hc⟩ | ⟨ha, ⟨w, hw, hc⟩ | ⟨hr, ⟨⟨p, q⟩, hp, hc⟩ | ⟨hp, hc⟩⟩⟩⟩
  · simp [hc, h]
  · simp [hc, hw]
  · simp [hc, hw]
  all_goals simp [hc, h, ha, hr, hp]

theorem Layout.check_eq_passed : l.check = (.passed, .none) ↔
    ¬ 128 < l.tileCount ∧ layoutWindows.find? (fun w => !w.aligned l) = none ∧
      layoutWindows.find? (LayoutWindow.wraps l) = none ∧ windowPairs.find? (windowsOverlap l) = none := by
  rcases l.check_cases with ⟨h, hc⟩ | ⟨h, ⟨w, hw, hc⟩ | ⟨ha, ⟨w, hw, hc⟩ | ⟨hr, ⟨p, hp, hc⟩ | ⟨hp, hc⟩⟩⟩⟩
  · simp [hc, h]
  · simp [hc, hw]
  · simp [hc, hw]
  all_goals simp [hc, h, ha, hr, hp]

/-- A layout that passes names no window. -/
theorem Layout.check_of_passed (h : l.check.1 = .passed) : l.check = (.passed, .none) := by
  rcases l.check_cases with ⟨_, hc⟩ | ⟨_, ⟨w, _, hc⟩ | ⟨_, ⟨w, _, hc⟩ | ⟨_, ⟨p, _, hc⟩ | ⟨_, hc⟩⟩⟩⟩
  case inr.inr.inr.inr => exact hc
  all_goals rw [hc] at h; cases h

theorem LayoutWindow.aligned_eq_false (w : LayoutWindow) : (!w.aligned l) = true ↔ w.base l % 1024 ≠ 0 := by
  simp [LayoutWindow.aligned]

theorem LayoutWindow.wraps_iff (w : LayoutWindow) : w.wraps l = true ↔ 2 ^ 32 < w.base l + w.size l := by
  simp [LayoutWindow.wraps]

theorem Layout.aligned_iff :
    (¬ 128 < l.tileCount ∧ layoutWindows.find? (fun w => !w.aligned l) = none) ↔
      l.columns * l.rows ≤ 128 ∧ ∀ w : LayoutWindow, ¬ w.base l % 1024 ≠ 0 := by
  rw [findWindow_eq_none]
  refine and_congr Nat.not_lt (forall_congr' fun w => ?_)
  rw [← LayoutWindow.aligned_eq_false l w, Bool.not_eq_true]

theorem Layout.unwrapped_iff : layoutWindows.find? (LayoutWindow.wraps l) = none ↔
    ∀ w : LayoutWindow, ¬ 2 ^ 32 < w.base l + w.size l := by
  rw [findWindow_eq_none]
  refine forall_congr' fun w => ?_
  rw [← LayoutWindow.wraps_iff l w, Bool.not_eq_true]

end

end Sys2Proof.Machine
end

section
/-! The statement on CLOSE SETUP (R189, R190). -/

namespace Sys2Proof.Safety

open Sys2Proof.Machine

variable {s : State}

theorem layout_checks (l : Layout) :
    let misaligned := fun w : LayoutWindow => w.base l % 1024 ≠ 0
    let wraps := fun w : LayoutWindow => 2 ^ 32 < w.base l + w.size l
    let share := fun v w : LayoutWindow => ∃ a, v.holds l a = true ∧ w.holds l a = true
    let before := fun v w : LayoutWindow => v.code.toNat < w.code.toNat
    let aligned := l.columns * l.rows ≤ 128 ∧ ∀ w, ¬ misaligned w
    (l.check = (.tileCount, .none) ↔ 128 < l.columns * l.rows) ∧
    (∀ w, l.check = (.alignment, .one w) ↔
      l.columns * l.rows ≤ 128 ∧ misaligned w ∧ ∀ v, before v w → ¬ misaligned v) ∧
    (∀ w, l.check = (.wrap, .one w) ↔ aligned ∧ wraps w ∧ ∀ v, before v w → ¬ wraps v) ∧
    (0 < l.faceSize → ∀ v w, l.check = (.overlap, .two v w) ↔
      aligned ∧ (∀ u, ¬ wraps u) ∧ before v w ∧ share v w ∧
      ∀ v' w', before v' w' → share v' w' → before v v' ∨ (v = v' ∧ ¬ before w' w)) ∧
    (0 < l.faceSize → (l.check = (.passed, .none) ↔
      aligned ∧ (∀ w, ¬ wraps w) ∧ ∀ v w, before v w → ¬ share v w)) := by
  intro misaligned wraps share before aligned
  have haligned : (¬ 128 < l.tileCount ∧ layoutWindows.find? (fun w => !w.aligned l) = none) ↔ aligned := l.aligned_iff
  have hmisaligned (w : LayoutWindow) : (!w.aligned l) = true ↔ misaligned w := LayoutWindow.aligned_eq_false l w
  have hwraps (w : LayoutWindow) : w.wraps l = true ↔ wraps w := LayoutWindow.wraps_iff l w
  refine ⟨l.check_eq_tileCount, fun w => ?_, fun w => ?_, fun face v w => ?_, fun face => ?_⟩
  · rw [l.check_eq_alignment, findWindow_eq_some, hmisaligned]
    refine and_congr Nat.not_lt (and_congr_right fun _ => forall₂_congr fun v _ => ?_)
    rw [← hmisaligned, Bool.not_eq_true]
  · rw [l.check_eq_wrap, ← and_assoc, haligned, findWindow_eq_some, hwraps]
    refine and_congr_right fun _ => and_congr_right fun _ => forall₂_congr fun v _ => ?_
    rw [← hwraps, Bool.not_eq_true]
  · rw [l.check_eq_overlap, ← and_assoc, haligned, l.unwrapped_iff, findPair_eq_some]
    simp only [windowsOverlap_iff face]
    rfl
  · rw [l.check_eq_passed, ← and_assoc, haligned, l.unwrapped_iff, findPair_eq_none]
    simp only [← Bool.not_eq_true, windowsOverlap_iff face]
    rfl

theorem closeSetup_of_setup (h : s.governor = .setup) : s.closeSetup = s.event State.validateLayout := by
  simp [State.closeSetup, State.running, h]

/-- R190: a layout that passes. -/
theorem closeSetup_passes (called : Called .closeSetup s) (setup : s.governor = .setup)
    (passed : s.settings.layout.check.1 = .passed) : Runs .closeSetup s fun t =>
      t.governor = .running ∧ Ended .closeSetup .done .none t ∧
      t.settings = { s.settings with check := .passed, checkWindows := .none } ∧
      t.face.dwell = .met ∧ t.face.stallCount = 0 ∧ t.face.stalled = false ∧
      t.face.showing = s.face.showing ∧ t.face.sequence = s.face.sequence ∧
      (∀ i, (t.tile i).target = t.gainContext.target i (t.tile i) ∧
        (t.tile i).trim = (s.tile i).trim ∧ (t.tile i).bound = (s.tile i).bound) ∧
      t.scan = s.scan ∧ t.faults = s.faults ∧ t.light = s.light := by
  refine .of_called called ?_
  have hvalid : s.validateLayout = ((s.recordCheck (.passed, .none)).enterRunning).setService .done .none := by
    unfold State.validateLayout
    rw [Layout.check_of_passed _ passed]
    rfl
  have h : Follows s.validateLayout (serviceTake .closeSetup s) := by
    change Follows _ s.closeSetup
    rw [closeSetup_of_setup setup]
    exact event_follows s State.validateLayout
  rw [hvalid] at h
  have stands : Retargeted s (((s.recordCheck (.passed, .none)).enterRunning).setService .done .none) :=
    (Retargeted.of_tiles (by rfl)).retargetAll
  have frame : Unchanged [.settings, .governor, .face, .tiles, .link] s
      (((s.recordCheck (.passed, .none)).enterRunning).setService .done .none) :=
    State.setService_unchanged _ _ (by decide) (State.enterRunning_unchanged (by decide)
      (State.recordCheck_unchanged _ (by decide) (.refl _ s)))
  have whole : Unchanged [.due, .bus, .table, .cues, .face, .settings, .governor, .tiles, .link] s
      (serviceTake .closeSetup s) := h.unchanged (by decide) (frame.mono (by decide))
  have hface : { (serviceTake .closeSetup s).face with
      swapReady := s.face.swapReady, latch := s.face.latch, pairWait := s.face.pairWait } =
        { s.face with dwell := .met, stallCount := 0, stalled := false } := h.face
  have hlink : (serviceTake .closeSetup s).link = { s.link with
      status := { s.link.status with state := .done, error := .none } } := h.link
  refine ⟨h.governor, ?_, h.settings, (congrArg ShowUnit.dwell hface :), (congrArg ShowUnit.stallCount hface :),
    (congrArg ShowUnit.stalled hface :), (congrArg ShowUnit.showing hface :), (congrArg ShowUnit.sequence hface :),
    fun i => ?_, whole.agree .scan (by decide), whole.agree .faults (by decide), whole.agree .light (by decide)⟩
  · rw [Ended, hlink, called.2]
  · rw [h.tile, h.gainContext]
    exact ⟨retargetAll_target _ i, stands.trim i, stands.bound i⟩

/-- Settles O57: the checks by the first that fails, and what stands behind the event. -/
theorem closeSetupValidates : Obligations.CloseSetupValidates := by
  refine ⟨layout_checks, fun s called running => ?_, fun s called setup fails => .of_called called ?_,
    fun s called setup passed => closeSetup_passes called setup passed, fun c v s quiet row notCalled => ?_⟩
  · refine (exec_of_called called).trans (congrArg _ ?_)
    change s.closeSetup = _
    rw [State.closeSetup, if_pos (by simp [State.running, running])]
  · change Follows _ s.closeSetup
    rw [closeSetup_of_setup setup]
    have h := event_follows s State.validateLayout
    have hvalid : s.validateLayout = (s.recordCheck s.settings.layout.check).setService .failed .layoutInvalid := by
      unfold State.validateLayout
      exact if_neg (by simpa using fails)
    rw [hvalid] at h
    exact h
  · have hrow : c = serviceRow v := by
      simp only [List.mem_cons, Prod.mk.injEq, List.not_mem_nil, or_false] at row
      rcases row with ⟨rfl, rfl⟩ | ⟨rfl, rfl⟩ | ⟨rfl, rfl⟩ | ⟨rfl, rfl⟩ | ⟨rfl, rfl⟩ | ⟨rfl, rfl⟩ | ⟨rfl, rfl⟩ |
        ⟨rfl, rfl⟩ | ⟨rfl, rfl⟩ | ⟨rfl, rfl⟩ | ⟨rfl, rfl⟩ <;> rfl
    rw [hrow]
    exact exec_of_uncalled quiet notCalled

end Sys2Proof.Safety
end

section
/-! SUPPORT. A tile that leaves FAULTED (R148, R151, R152). -/

namespace Sys2Proof.Machine

variable {s : State}

theorem FaultUnit.join_queue_of_room {f : FaultUnit} {r : FaultRecord} (room : f.queue.length < 32) :
    (f.join r).queue = f.queue ++ [r] := by
  unfold FaultUnit.join
  rw [if_pos room]

theorem FaultUnit.join_of_full {f : FaultUnit} (r : FaultRecord) (full : 32 ≤ f.queue.length) :
    f.join r = { f with overflow := min 255 (f.overflow + 1) } := by
  unfold FaultUnit.join
  exact if_neg (Nat.not_lt.mpr full)

/-- At most one record has been offered; a full queue stands, and the overflow count does not fall. -/
structure OneOffered (f g : FaultUnit) : Prop where
  queue : ∃ rest, rest.length ≤ 1 ∧ g.queue = f.queue ++ rest
  full : 32 ≤ f.queue.length → g.queue = f.queue
  overflow : f.overflow ≤ 255 → f.overflow ≤ g.overflow

theorem OneOffered.of_none {f g : FaultUnit} (hqueue : g.queue = f.queue) (hoverflow : g.overflow = f.overflow) :
    OneOffered f g :=
  ⟨⟨[], Nat.zero_le _, by rw [hqueue, List.append_nil]⟩, fun _ => hqueue, fun _ => hoverflow.ge⟩

theorem OneOffered.join (f : FaultUnit) (r : FaultRecord) (x : BlankReasons) :
    OneOffered f { f.join r with reasons := x } := by
  by_cases room : f.queue.length < 32
  · refine ⟨⟨[r], Nat.le_refl _, FaultUnit.join_queue_of_room room⟩, fun full => absurd room (Nat.not_lt.mpr full),
      fun _ => ?_⟩
    unfold FaultUnit.join
    rw [if_pos room]
  · rw [FaultUnit.join_of_full r (Nat.le_of_not_lt room)]
    exact ⟨⟨[], Nat.zero_le _, (List.append_nil _).symm⟩, fun _ => rfl, fun h => Nat.le_min.mpr ⟨h, Nat.le_succ _⟩⟩

/-- R153: the check of the face's limit offers one record at most. -/
theorem State.faceLimitCheck_offers (s : State) : OneOffered s.faults s.faceLimitCheck.faults := by
  unfold State.faceLimitCheck
  split
  · rw [s.addReason_faults]
    split
    · exact .of_none rfl rfl
    · exact .join ..
  · rw [s.removeReason_faults]
    split
    · exact .join ..
    · exact .of_none rfl rfl

theorem Retargeted.leaveFaulted (s : State) (i : TileNo) (detail : Half) :
    Retargeted (s.onTile i fun r => { r with state := .lit, counter := 0 }) (s.leaveFaulted i detail) :=
  ((((Retargeted.refl _).offer _ _ _).retargetTile i).onFaults _).faceLimitCheck

/-- R151, R152: the tile goes to LIT with counter 0, and keeps what it has scanned. -/
theorem State.leaveFaulted_tile (s : State) (i : TileNo) (detail : Half) :
    ((s.leaveFaulted i detail).tile i).state = .lit ∧ ((s.leaveFaulted i detail).tile i).counter = 0 ∧
      ((s.leaveFaulted i detail).tile i).scan = (s.tile i).scan ∧
      ((s.leaveFaulted i detail).tile i).derate = (s.tile i).derate := by
  have h := Retargeted.leaveFaulted s i detail
  rw [h.state, h.counter, h.scan, h.derate, State.onTile_tile_self]
  exact ⟨rfl, rfl, rfl, rfl⟩

theorem State.leaveFaulted_faultedCount (s : State) (i : TileNo) (detail : Half) :
    (s.leaveFaulted i detail).faults.faultedCount = s.faults.faultedCount - 1 := by
  refine (State.faceLimitCheck_faultedCount _).trans ?_
  exact congrArg (· - 1) (FaultUnit.join_faultedCount s.faults _)

/-- R156, R157: TILE_RECOVERED is the first record it raises. -/
theorem State.leaveFaulted_queue (i : TileNo) (detail : Half) (room : s.faults.queue.length < 32) :
    ∃ rest, (s.leaveFaulted i detail).faults.queue =
      s.faults.queue ++ s.faultRecord .tileRecovered (some i) detail :: rest := by
  obtain ⟨rest, _, hrest⟩ := State.faceLimitCheck_offers ((((s.onTile i fun r => { r with state := .lit, counter := 0 }).offer
    .tileRecovered (some i) detail).retargetTile i).onFaults fun f => { f with faultedCount := f.faultedCount - 1 }) |>.queue
  have hjoin : (s.faults.join (s.faultRecord .tileRecovered (some i) detail)).queue = _ :=
    FaultUnit.join_queue_of_room room
  refine ⟨rest, hrest.trans ?_⟩
  change (s.faults.join (s.faultRecord .tileRecovered (some i) detail)).queue ++ rest = _
  rw [hjoin, List.append_assoc]
  rfl

end Sys2Proof.Machine
end

section
/-! The statement on the services of the face and its tiles (R39, R151, R154, R155, R163). -/

namespace Sys2Proof.Safety

open Sys2Proof.Machine

variable {s : State}

/-- In SETUP each service of the face fails at its first check. -/
theorem face_services_of_setup {v : Service} (called : Called v s) (setup : s.governor = .setup)
    (face : v ∈ [Service.wipeBuffer, .tileTest, .clearTile, .blankFace, .unblankFace]) :
    exec (serviceRow v) s = .next (s.setService .failed .notRunning) := by
  have fails {cs : List (Bool × ServiceError)} {f : State → State} :
      s.checked ((!s.running, .notRunning) :: cs) f = s.setService .failed .notRunning :=
    checked_of_failing _ (notRunning_of_setup setup)
  refine (exec_of_called called).trans (congrArg _ ?_)
  simp only [List.mem_cons, List.not_mem_nil, or_false] at face
  rcases face with rfl | rfl | rfl | rfl | rfl
  · change s.serveWipe = _
    rw [State.serveWipe, fails]
  · change s.serveTest = _
    rw [State.serveTest, fails]
  · change s.serveClearTile = _
    rw [State.serveClearTile, fails]
  · change s.serveBlank = _
    rw [State.serveBlank, fails]
  · change s.serveUnblank = _
    rw [State.serveUnblank, fails]

section
variable (running : s.governor = .running)
include running

theorem wipe_serves (called : Called .wipeBuffer s) :
    (7 < s.p1 → exec .wipeBuffer s = .next (s.setService .failed .badParameter)) ∧
    ∀ k : BufferNo, s.p1 = k.val →
      let wipes := s.bufferState k = .free ∨ s.bufferState k = .filling ∨ s.bufferState k = .outOfUse
      (¬ wipes → exec .wipeBuffer s = .next (s.setService .failed .bufferState)) ∧
      (wipes → Runs .wipeBuffer s fun t => Follows ((s.onBuffer k fun r =>
        { r with state := .wiping, slot := none, progress := 0 }).setService .inProgress .none) t) := by
  have passes := notRunning_of_running running
  refine ⟨fun high => (exec_of_called called).trans (congrArg _ ?_), fun k hk => ?_⟩
  · change s.serveWipe = _
    rw [State.serveWipe, checked_of_passing _ passes, checked_of_failing _ (decide_eq_true high)]
  · intro wipes
    have hbuffer : (Fin.ofNat 8 s.p1 : BufferNo) = k := Fin.ext (by rw [Fin.val_ofNat, hk]; omega)
    have low : decide (7 < s.p1) = false := decide_eq_false (by omega)
    have hrefused : s.wipeRefused k = !decide wipes := by
      simp only [wipes, State.wipeRefused, bne, beq_eq_decide, Bool.decide_or, Bool.not_or, Bool.and_assoc]
    refine ⟨fun busy => (exec_of_called called).trans (congrArg _ ?_), fun wipes => .of_called called ?_⟩
    · change s.serveWipe = _
      rw [State.serveWipe, checked_of_passing _ passes, checked_of_passing _ low, hbuffer,
        checked_of_failing _ (by rw [hrefused, decide_eq_false busy]; rfl)]
    · change Follows _ s.serveWipe
      rw [State.serveWipe, checked_of_passing _ passes, checked_of_passing _ low, hbuffer,
        checked_of_passing _ (by rw [hrefused, decide_eq_true wipes]; rfl), checked_nil]
      exact event_follows s fun u => (u.onBuffer k BufferRecord.toWiping).setService .inProgress .none

theorem test_serves (called : Called .tileTest s) :
    (s.tileCount ≤ s.p1 ∨ s.p2 = 0 ∨ 15 < s.p2 →
      exec .tileTest s = .next (s.setService .failed .badParameter)) ∧
    ∀ i : TileNo, s.p1 = i.val → i.val < s.tileCount → 1 ≤ s.p2 → s.p2 ≤ 15 → exec .tileTest s =
      .next ((s.onTest fun _ =>
        { tile := some i, requested := some s.p2, used := 0, phase := .due, sequence := none
          level := none, wait := 0, named := [], lastResult := none, lastMatched := none
          lastDark := none, outcome := .inProgress }).setService .inProgress .none) := by
  have passes := notRunning_of_running running
  have hserve (hin : s.p1 < s.tileCount) (f : State → State) :
      s.checked [(!s.running, .notRunning), (decide (s.tileCount ≤ s.p1), .badParameter),
        (s.p2 == 0 || decide (15 < s.p2), .badParameter)] f =
      s.checked [(s.p2 == 0 || decide (15 < s.p2), .badParameter)] f := by
    rw [checked_of_passing _ passes, checked_of_passing _ (decide_eq_false (Nat.not_le.mpr hin))]
  refine ⟨fun bad => (exec_of_called called).trans (congrArg _ ?_),
    fun i hi inUse low high => (exec_of_called called).trans (congrArg _ ?_)⟩
  all_goals change s.serveTest = _
  · by_cases outside : s.tileCount ≤ s.p1
    · rw [State.serveTest, checked_of_passing _ passes, checked_of_failing _ (decide_eq_true outside)]
    · rw [State.serveTest, hserve (Nat.lt_of_not_le outside), checked_of_failing _ (by simpa [outside] using bad)]
  · have attempts : (s.p2 == 0 || decide (15 < s.p2)) = false := by
      have hzero : s.p2 ≠ 0 := by omega
      simp [hzero, high]
    have htile : (Fin.ofNat 128 s.p1 : TileNo) = i := Fin.ext (by rw [Fin.val_ofNat, hi]; omega)
    rw [State.serveTest, hserve (hi ▸ inUse), checked_of_passing _ attempts, checked_nil, htile]
    rfl

theorem clearTile_serves (called : Called .clearTile s) :
    (s.tileCount ≤ s.p1 → exec .clearTile s = .next (s.setService .failed .badParameter)) ∧
    ∀ i : TileNo, s.p1 = i.val → i.val < s.tileCount → Runs .clearTile s fun t =>
      (t.tile i).state = .lit ∧ (t.tile i).counter = 0 ∧ (t.tile i).scan = (s.tile i).scan ∧
      (t.tile i).derate = (s.tile i).derate ∧ Ended .clearTile .done .none t ∧
      Unchanged [.tiles, .faults, .link] s t ∧
      ((s.tile i).state ≠ .faulted → t.faults = s.faults ∧ t.tiles.records.set i (s.tile i) = s.tiles.records) ∧
      ((s.tile i).state = .faulted → t.faults.faultedCount = s.faults.faultedCount - 1 ∧
        (s.faults.queue.length < 32 → ∃ rest, t.faults.queue = s.faults.queue ++
          s.faultRecord .tileRecovered (some i) 1 :: rest)) := by
  have passes := notRunning_of_running running
  refine ⟨fun outside => (exec_of_called called).trans (congrArg _ ?_), fun i hi inUse => .of_called called ?_⟩
  · change s.serveClearTile = _
    rw [State.serveClearTile, checked_of_passing _ passes, checked_of_failing _ (decide_eq_true outside)]
  · have htile : (Fin.ofNat 128 s.p1 : TileNo) = i := Fin.ext (by rw [Fin.val_ofNat, hi]; omega)
    have hserve : serviceTake .clearTile s = (s.clearTile i).endService := by
      change s.serveClearTile = _
      rw [State.serveClearTile, checked_of_passing _ passes,
        checked_of_passing _ (decide_eq_false (by omega)), checked_nil, htile]
    have frame : Unchanged [.tiles, .faults] s (s.clearTile i) := State.clearTile_unchanged i (by decide) (.refl _ s)
    rw [hserve]
    have hends : Ended .clearTile .done .none (s.clearTile i).endService :=
      setService_of_link called (frame.agree .link (by decide)) _ _
    have hframe : Unchanged [.tiles, .faults, .link] s (s.clearTile i).endService :=
      State.endService_unchanged (by decide) (frame.mono (by decide))
    by_cases faulted : (s.tile i).state = .faulted
    · have hclear : s.clearTile i = s.leaveFaulted i 1 := by simp [State.clearTile, faulted]
      rw [hclear] at hends hframe ⊢
      obtain ⟨hstate, hcounter, hscan, hderate⟩ := s.leaveFaulted_tile i 1
      exact ⟨hstate, hcounter, hscan, hderate, hends, hframe, fun sound => absurd faulted sound,
        fun _ => ⟨s.leaveFaulted_faultedCount i 1, State.leaveFaulted_queue i 1⟩⟩
    · have hclear : s.clearTile i = s.onTile i fun r => { r with state := .lit, counter := 0 } := by
        simp [State.clearTile, faulted]
      rw [hclear] at hends hframe ⊢
      have hself : ((s.onTile i fun r => { r with state := .lit, counter := 0 }).endService).tile i =
          { s.tile i with state := .lit, counter := 0 } := State.onTile_tile_self ..
      rw [hself]
      refine ⟨rfl, rfl, rfl, rfl, hends, hframe, fun _ => ⟨rfl, Table.ext_get fun j => ?_⟩, fun h => absurd h faulted⟩
      by_cases hj : j = i
      · rw [hj, Table.get_set_self]
        rfl
      · rw [Table.get_set_of_ne _ _ hj]
        exact Table.get_modify_of_ne _ _ hj

theorem blank_serves (called : Called .blankFace s) : Runs .blankFace s fun t =>
    t.faults.reasons = { s.faults.reasons with supervisor := true } ∧ Ended .blankFace .done .none t ∧
    Unchanged [.tiles, .faults, .link] s t ∧
    (s.blanked = true → t.faults.queue = s.faults.queue ∧ t.tiles = s.tiles) ∧
    (s.blanked = false →
      t.faults = { s.faults.join (s.faultRecord .faceBlanked none 1) with reasons := t.faults.reasons }) ∧
    (s.blanked = false → ∀ i, i.val < s.tileCount → (t.tile i).target = 0 ∧ (t.tile i).applied = 0) := by
  have hserve : serviceTake .blankFace s = (s.addReason .supervisor).endService := by
    change s.serveBlank = _
    rw [State.serveBlank, checked_of_passing _ (notRunning_of_running running), checked_nil]
  have frame : Unchanged [.tiles, .faults] s (s.addReason .supervisor) :=
    State.addReason_unchanged _ (by decide) (.refl _ s)
  refine .of_called called ?_
  rw [hserve]
  refine ⟨s.addReason_reasons .supervisor, setService_of_link called (frame.agree .link (by decide)) _ _,
    State.endService_unchanged (by decide) (frame.mono (by decide)), fun blanked => ⟨?_, ?_⟩, fun unblanked => ?_,
    fun unblanked i inUse => ?_⟩
  · exact (congrArg FaultUnit.queue (State.addReason_faults_of_blanked .supervisor blanked) :)
  · exact State.addReason_tiles_of_blanked .supervisor blanked
  · have hfaults := State.addReason_faults_of_unblanked .supervisor unblanked
    rw [← State.addReason_reasons] at hfaults
    exact hfaults
  · change ((s.addReason .supervisor).tile i).target = 0 ∧ ((s.addReason .supervisor).tile i).applied = 0
    rw [State.addReason_tile_of_unblanked .supervisor unblanked]
    refine GainContext.retarget_of_dark ?_
    rw [GainContext.targetCase_blanked _ (beq_iff_eq.mpr running) inUse rfl]
    rfl

theorem unblank_serves (called : Called .unblankFace s) : Runs .unblankFace s fun t =>
    t.faults.reasons = { s.faults.reasons with supervisor := false } ∧ Ended .unblankFace .done .none t ∧
    Unchanged [.tiles, .faults, .link] s t ∧
    (s.faults.reasons.supervisor = false ∨ s.faults.reasons.faultLimit = true →
      t.faults.queue = s.faults.queue ∧ t.tiles = s.tiles) ∧
    (s.faults.reasons = { supervisor := true, faultLimit := false } →
      t.faults = { s.faults.join (s.faultRecord .faceUnblanked none 1) with reasons := t.faults.reasons } ∧
      ∀ i, (t.tile i).target = t.gainContext.target i (t.tile i)) := by
  have hserve : serviceTake .unblankFace s = (s.removeReason .supervisor).endService := by
    change s.serveUnblank = _
    rw [State.serveUnblank, checked_of_passing _ (notRunning_of_running running), checked_nil]
  have frame : Unchanged [.tiles, .faults] s (s.removeReason .supervisor) :=
    State.removeReason_unchanged _ (by decide) (.refl _ s)
  refine .of_called called ?_
  rw [hserve]
  refine ⟨s.removeReason_reasons .supervisor, setService_of_link called (frame.agree .link (by decide)) _ _,
    State.endService_unchanged (by decide) (frame.mono (by decide)), fun kept => ?_, fun alone => ⟨?_, fun i => ?_⟩⟩
  · have kept' : s.blanked = false ∨ (s.faults.reasons.put .supervisor false).any = true := by
      simp only [State.blanked, BlankReasons.any, BlankReasons.put, Bool.false_or]
      rcases kept with off | limit
      · cases h : s.faults.reasons.faultLimit <;> simp [off]
      · exact .inr limit
    exact ⟨(congrArg FaultUnit.queue (State.removeReason_faults_of_kept .supervisor kept') :),
      State.removeReason_tiles_of_kept .supervisor kept'⟩
  · have hfaults := State.removeReason_faults_of_left (s := s) .supervisor (by simp [State.blanked, alone, BlankReasons.any])
      (by simp [alone, BlankReasons.any, BlankReasons.put])
    rw [← State.removeReason_reasons] at hfaults
    exact hfaults
  · have hleft : s.removeReason .supervisor =
        ((s.putReason .supervisor false).offer .faceUnblanked none BlankReason.supervisor.detail).retargetAll := by
      simp [State.removeReason, alone, BlankReasons.has, BlankReasons.put, BlankReasons.any]
    rw [hleft]
    exact retargetAll_target _ i

end

/-- Settles O60, one service after the other. -/
theorem faceAndTileServices : Obligations.FaceAndTileServices := by
  refine ⟨fun c v s called setup row => ?_, fun s called running => wipe_serves running called,
    fun s called running => test_serves running called, fun s called running => clearTile_serves running called,
    fun s called running => blank_serves running called, fun s called running => unblank_serves running called⟩
  simp only [List.mem_cons, Prod.mk.injEq, List.not_mem_nil, or_false] at row
  rcases row with ⟨rfl, rfl⟩ | ⟨rfl, rfl⟩ | ⟨rfl, rfl⟩ | ⟨rfl, rfl⟩ | ⟨rfl, rfl⟩ <;>
    exact face_services_of_setup called setup (by decide)

end Sys2Proof.Safety
end

section
/-! SUPPORT. The bits of the link (R1, R172, R174): the CRC-8, a response's frame, the edges of a whole frame; and that
nothing but the wires' own edges reads the wires. -/

namespace Sys2Proof.Machine

variable {s : State}

/-! ## The CRC-8 -/

theorem crc8Bit_eq (c : Byte) (b : Bool) : crc8Bit c b = (c <<< 1) ^^^ (if c.msb = b then 0#8 else 0x07#8) := by
  unfold crc8Bit
  by_cases h : c.msb = b <;> simp [h]

theorem crc8_eq (bytes : BitVec 40) : crc8 bytes = (List.range 40).foldl
    (fun (c : Byte) i => (c <<< 1) ^^^ (if c.msb = bytes.getLsbD (39 - i) then 0#8 else 0x07#8)) 0xFF#8 := by
  unfold crc8
  refine List.foldl_ext _ _ _ fun c i hi => ?_
  have hbit : bytes.getMsbD i = bytes.getLsbD (39 - i) := by
    rw [BitVec.getMsbD_eq_getLsbD, decide_eq_true (List.mem_range.mp hi), Bool.true_and]
  rw [crc8Bit_eq, hbit]

/-! ## A response's frame -/

section
variable (r : Response)

/-- The five bytes before the CRC-8. -/
def Response.bytes : BitVec 40 :=
  r.outcome.code ++ BitVec.ofBool r.flags.faultsWaiting ++ BitVec.ofBool r.flags.faceBlanked
    ++ BitVec.ofBool r.flags.clockUnset ++ BitVec.ofBool r.flags.resetSeen ++ r.item ++ r.data

theorem Response.frame_eq : r.frame = r.bytes ++ crc8 r.bytes := rfl

theorem Response.frame_crc : r.frame.extractLsb' 0 8 = crc8 (r.frame.extractLsb' 8 40) := by
  rw [r.frame_eq, BitVec.extractLsb'_append_eq_left, BitVec.extractLsb'_append_eq_right]

theorem Response.frame_data : r.frame.extractLsb' 8 16 = r.data := by
  rw [r.frame_eq, BitVec.extractLsb'_append_eq_of_le (by decide)]
  exact BitVec.extractLsb'_append_eq_right

theorem Response.frame_item : r.frame.extractLsb' 24 16 = r.item := by
  rw [r.frame_eq, BitVec.extractLsb'_append_eq_of_le (by decide), Response.bytes,
    BitVec.extractLsb'_append_eq_of_le (by decide)]
  exact BitVec.extractLsb'_append_eq_right

theorem Response.frame_outcome : r.frame.extractLsb' 44 4 = r.outcome.code := by
  simp only [r.frame_eq, Response.bytes, BitVec.extractLsb'_append_eq_of_le (show 8 ≤ 44 by decide),
    BitVec.extractLsb'_append_eq_of_le (show 16 ≤ 36 by decide), BitVec.extractLsb'_append_eq_of_le (show 16 ≤ 20 by decide),
    BitVec.extractLsb'_append_eq_of_le (show 1 ≤ 4 by decide), BitVec.extractLsb'_append_eq_of_le (show 1 ≤ 3 by decide),
    BitVec.extractLsb'_append_eq_of_le (show 1 ≤ 2 by decide)]
  exact BitVec.extractLsb'_append_eq_left

theorem Response.frame_flags : r.frame.getLsbD 43 = r.flags.faultsWaiting ∧ r.frame.getLsbD 42 = r.flags.faceBlanked ∧
    r.frame.getLsbD 41 = r.flags.clockUnset ∧ r.frame.getLsbD 40 = r.flags.resetSeen := by
  simp only [r.frame_eq, Response.bytes, BitVec.getLsbD_append]
  simp

end

/-! ## The edges of a whole frame -/

theorem State.linkEdges_append (s : State) (es fs : List LinkEdge) :
    s.linkEdges (es ++ fs) = (s.linkEdges es).linkEdges fs := List.foldl_append

theorem State.linkEdges_cons (s : State) (e : LinkEdge) (es : List LinkEdge) :
    s.linkEdges (e :: es) = (s.linkEdge e).linkEdges es := rfl

/-- The wires as `n` bits of the request have been clocked in, and as many of the response out. -/
def clockedWires (r : Response) (f : BitVec 48) (n : Nat) : LinkWires :=
  { frame := some { bits := n, request := f >>> (48 - n), place := n }, svdo := r.level n
    shifted := (List.range n).map r.frame.getMsbD }

theorem shiftConcat_bit (f : BitVec 48) {n : Nat} (h : n < 48) :
    (f >>> (48 - n)).shiftConcat (f.getMsbD n) = f >>> (48 - (n + 1)) := by
  have hbit : f.getMsbD n = f.getLsbD (48 - n - 1) := by
    rw [BitVec.getMsbD_eq_getLsbD, decide_eq_true h, Bool.true_and, show 48 - 1 - n = 48 - n - 1 by omega]
  rw [hbit, ← BitVec.shiftRight_sub_one_eq_shiftConcat f (by omega), show 48 - n - 1 = 48 - (n + 1) by omega]

theorem clockedWires_step (s : State) (f : BitVec 48) {n : Nat} (h : n < 48) :
    ((s.onWires fun _ => clockedWires s.link.response f n).linkEdge (.clockRise (f.getMsbD n))).linkEdge .clockFall =
      s.onWires fun _ => clockedWires s.link.response f (n + 1) := by
  have hlevel : (s.link.response.level n).toList = [s.link.response.frame.getMsbD n] := by simp [Response.level, h]
  simp only [State.linkEdge, State.onWires, clockedWires, LinkWires.sample, LinkWires.advance, LinkFrame.sample, if_pos h,
    shiftConcat_bit f h, hlevel, List.range_succ, List.map_append, List.map_cons, List.map_nil]

theorem linkEdges_bits (s : State) (f : BitVec 48) {n : Nat} (h : n ≤ 48) :
    (s.onWires fun _ => clockedWires s.link.response f 0).linkEdges
      ((List.range n).flatMap fun i => [.clockRise (f.getMsbD i), .clockFall]) =
      s.onWires fun _ => clockedWires s.link.response f n := by
  induction n with
  | zero => rfl
  | succ n ih =>
    rw [List.range_succ, List.flatMap_append, State.linkEdges_append, ih (by omega)]
    exact clockedWires_step s f (by omega)

/-- R172: after the edges of a whole frame its 48 bits stand in the request. -/
theorem linkEdges_frame (hidle : s.wires.frame = none) (f : BitVec 48) :
    s.linkEdges (Safety.frameEdges f) = s.onWires fun _ => clockedWires s.link.response f 48 := by
  have hzero : f >>> 48 = 0 := by
    apply BitVec.eq_of_toNat_eq
    rw [BitVec.toNat_ushiftRight, Nat.shiftRight_eq_div_pow, Nat.div_eq_of_lt f.isLt]
    rfl
  have hselect : s.linkEdge .selectFall = s.onWires fun _ => clockedWires s.link.response f 0 := by
    simp only [State.linkEdge, State.onWires, LinkWires.select, hidle, clockedWires, Nat.sub_zero, hzero]
    rfl
  unfold Safety.frameEdges
  rw [State.linkEdges_cons, hselect]
  exact linkEdges_bits s f (Nat.le_refl 48)

/-- A whole frame clocked through, and judged as SVSEL rises. -/
theorem wholeFrame_end (hidle : s.wires.frame = none) (f : BitVec 48) :
    (s.linkEdges (Safety.frameEdges f)).linkEdge .selectRise = s.clockFrame.frameEnd 48 f := by
  rw [linkEdges_frame hidle]
  rfl

/-! ## What a frame does, apart from the wires -/

section
variable (f : LinkWires → LinkWires)

theorem State.addReason_onWires (s : State) (x : BlankReason) : (s.onWires f).addReason x = (s.addReason x).onWires f := by
  have hhas : (s.onWires f).faults.reasons.has x = s.faults.reasons.has x := rfl
  have hblank : (s.onWires f).blanked = s.blanked := rfl
  unfold State.addReason
  rw [hhas, hblank, apply_ite (State.onWires · f), apply_ite (State.onWires · f)]
  rfl

theorem State.removeReason_onWires (s : State) (x : BlankReason) :
    (s.onWires f).removeReason x = (s.removeReason x).onWires f := by
  have hfaults : (s.onWires f).faults = s.faults := rfl
  unfold State.removeReason
  rw [hfaults, apply_ite (State.onWires · f), apply_ite (State.onWires · f)]
  rfl

theorem State.faceLimitCheck_onWires (s : State) : (s.onWires f).faceLimitCheck = s.faceLimitCheck.onWires f := by
  have hreached : (s.onWires f).faceLimitReached = s.faceLimitReached := rfl
  unfold State.faceLimitCheck
  rw [hreached, State.addReason_onWires, State.removeReason_onWires, apply_ite (State.onWires · f)]

theorem State.enterFaulted_onWires (s : State) (i : TileNo) : (s.onWires f).enterFaulted i = (s.enterFaulted i).onWires f := by
  unfold State.enterFaulted
  dsimp only
  rw [← State.faceLimitCheck_onWires]
  rfl

theorem State.evaluateTile_onWires (s : State) (i : TileNo) : (s.onWires f).evaluateTile i = (s.evaluateTile i).onWires f := by
  have htile : (s.onWires f).tile i = s.tile i := rfl
  have hset : (s.onWires f).settings = s.settings := rfl
  unfold State.evaluateTile
  dsimp only
  rw [htile, hset, State.enterFaulted_onWires, apply_ite (State.onWires · f), apply_ite (State.onWires · f),
    apply_ite (State.onWires · f), apply_ite (State.onWires · f)]
  rfl

theorem State.evaluateTiles_onWires (s : State) : (s.onWires f).evaluateTiles = s.evaluateTiles.onWires f := by
  have hfold (is : List TileNo) (s : State) :
      is.foldl State.evaluateTile (s.onWires f) = (is.foldl State.evaluateTile s).onWires f := by
    induction is generalizing s with
    | nil => rfl
    | cons i is ih => rw [List.foldl_cons, State.evaluateTile_onWires, ih, List.foldl_cons]
  exact hfold s.tilesInUse s

theorem State.recomputeLight_onWires (s : State) : (s.onWires f).recomputeLight = s.recomputeLight.onWires f := by
  have hceiling : (s.onWires f).bandCeiling = s.bandCeiling := rfl
  have hgain (c : Nat) : (s.onWires f).gainUnder c = s.gainUnder c := rfl
  have hlight : (s.onWires f).light = s.light := rfl
  unfold State.recomputeLight
  dsimp only
  rw [hceiling, hgain, hlight, apply_ite (State.onWires · f)]
  rfl

theorem State.storeEnable_onWires (s : State) (ch : Channel) (v : Half) :
    (s.onWires f).storeEnable ch v = (s.storeEnable ch v).onWires f := by
  unfold State.storeEnable
  dsimp only
  rw [← State.recomputeLight_onWires]
  rfl

theorem State.writeOperating_onWires (s : State) (i : Fin 36) (v : Half) :
    (s.onWires f).writeOperating i v = (s.writeOperating i v).onWires f := by
  unfold State.writeOperating
  split
  case h_1 => exact State.storeEnable_onWires f s .a v
  case h_2 => exact State.storeEnable_onWires f s .b v
  case h_13 | h_14 => exact State.evaluateTiles_onWires f (s.storeOperating i v)
  case h_15 | h_21 => rfl
  case h_16 => exact State.faceLimitCheck_onWires f (s.storeOperating 23 v)
  all_goals exact State.recomputeLight_onWires f (s.storeOperating i v)

theorem State.writeLayout_onWires (s : State) (i : Fin 15) (v : Half) :
    (s.onWires f).writeLayout i v = (s.writeLayout i v).onWires f := by
  unfold State.writeLayout
  dsimp only
  rw [apply_ite (State.onWires · f)]
  rfl

theorem State.storeItem_onWires (s : State) (v : Half) (it : Item) :
    (s.onWires f).storeItem v it = (s.storeItem v it).onWires f := by
  cases it
  case layout i => exact State.writeLayout_onWires f s i v
  case operating i => exact State.writeOperating_onWires f s i v
  case curve p field => exact State.recomputeLight_onWires f (s.onSettings fun g => g.storeCurve p field v)
  case band b field => exact State.recomputeLight_onWires f (s.onSettings fun g => g.storeBand b field v)
  all_goals rfl

theorem State.frameWrite_onWires (s : State) (n v : Half) :
    (s.onWires f).frameWrite n v = (s.frameWrite n v).onWires f := by
  cases hitem : itemOf n with
  | none => rw [Safety.frameWrite_of_none hitem, Safety.frameWrite_of_none hitem]; rfl
  | some it =>
    have hvalue : (s.onWires f).itemValue it = s.itemValue it := by cases it <;> rfl
    cases refusal : s.writeRefusal it v with
    | none =>
      rw [Safety.frameWrite_of_stored hitem refusal, Safety.frameWrite_of_stored (s := s.onWires f) hitem refusal,
        State.storeItem_onWires, hvalue]
      rfl
    | some o =>
      rw [Safety.frameWrite_of_refused hitem refusal, Safety.frameWrite_of_refused (s := s.onWires f) hitem refusal, hvalue]
      rfl

theorem State.frameRead_onWires (s : State) (n : Half) : (s.onWires f).frameRead n = (s.frameRead n).onWires f := by
  cases hitem : itemOf n with
  | none => rw [Safety.frameRead_of_none hitem, Safety.frameRead_of_none hitem]; rfl
  | some it =>
    have hvalue : (s.onWires f).itemValue it = s.itemValue it := by cases it <;> rfl
    rw [Safety.frameRead_of_some hitem, Safety.frameRead_of_some hitem, hvalue, Safety.readEffect_eq, Safety.readEffect_eq]
    rfl

end

/-! ## The command of a sound frame -/

theorem frameEnd_of_sound {f : BitVec 48} (sound : crc8 (f.extractLsb' 8 40) = f.extractLsb' 0 8) :
    s.frameEnd 48 f = s.frameAction f := by
  unfold State.frameEnd
  rw [if_neg (by decide), if_neg]
  simpa [frameBytes, frameCrc] using sound

section
variable {f : BitVec 48}

theorem frameAction_nop (h : f.extractLsb' 40 8 = 0#8) : s.frameAction f = s.frameNop (frameItem f) := by
  simp [State.frameAction, frameCommand, commandNop, h]

theorem frameAction_read (h : f.extractLsb' 40 8 = 1#8) : s.frameAction f = s.frameRead (frameItem f) := by
  simp [State.frameAction, frameCommand, commandNop, commandRead, h]

theorem frameAction_write (h : f.extractLsb' 40 8 = 2#8) :
    s.frameAction f = s.frameWrite (frameItem f) (frameData f) := by
  simp [State.frameAction, frameCommand, commandNop, commandRead, commandWrite, h]

theorem frameAction_takeFault (h : f.extractLsb' 40 8 = 3#8) : s.frameAction f = s.frameTakeFault (frameItem f) := by
  simp [State.frameAction, frameCommand, commandNop, commandRead, commandWrite, commandTakeFault, h]

theorem frameAction_unknown (h0 : f.extractLsb' 40 8 ≠ 0#8) (h1 : f.extractLsb' 40 8 ≠ 1#8)
    (h2 : f.extractLsb' 40 8 ≠ 2#8) (h3 : f.extractLsb' 40 8 ≠ 3#8) :
    s.frameAction f = s.respond .unknown (frameItem f) 0 := by
  simp [State.frameAction, frameCommand, commandNop, commandRead, commandWrite, commandTakeFault, h0, h1, h2, h3]

end

end Sys2Proof.Machine
end

section
/-! The statement on the link's frames (R1, R172 to R175, R195). -/

namespace Sys2Proof.Safety

open Sys2Proof.Machine

variable {s : State}

theorem exec_edges (quiet : Quiet s) (es : List LinkEdge) (e : LinkEdge) :
    exec (.frameCheckFailure es e) s = .next ((s.linkEdges es).linkEdge e) :=
  exec_of_act quiet (f := fun t => (t.linkEdges es).linkEdge e) rfl

theorem exec_edge (quiet : Quiet s) (e : LinkEdge) : exec (.frameCheckFailure [] e) s = .next (s.linkEdge e) :=
  exec_edges quiet [] e

theorem quiet_linkEdges (quiet : Quiet s) (es : List LinkEdge) (e : LinkEdge) : Quiet ((s.linkEdges es).linkEdge e) := by
  have frame : Unchanged [.light, .tiles, .faults, .wires, .link, .settings] s ((s.linkEdges es).linkEdge e) :=
    State.linkEdge_unchanged e (by decide) (State.linkEdges_unchanged es (by decide) (.refl _ s))
  have hlines : ((s.linkEdges es).linkEdge e).lines = s.lines := frame.agree .lines (by decide)
  have hdue : ((s.linkEdges es).linkEdge e).due = s.due := frame.agree .due (by decide)
  exact ⟨by rw [hlines]; exact quiet.1, hdue.trans quiet.2⟩

/-- Edges in two rows are the edges in one. -/
theorem edges_compose (quiet : Quiet s) (es fs : List LinkEdge) (e f : LinkEdge) :
    Runs (.frameCheckFailure es e) s fun t =>
      exec (.frameCheckFailure (es ++ e :: fs) f) s = exec (.frameCheckFailure fs f) t := by
  refine ⟨_, exec_edges quiet es e, ?_⟩
  dsimp only
  rw [exec_edges quiet, exec_edges (quiet_linkEdges quiet es e), State.linkEdges_append]
  rfl

theorem edges_while_idle (quiet : Quiet s) (hidle : s.wires.frame = none) :
    exec (.frameCheckFailure [] .selectFall) s = .next (s.onWires fun _ =>
      { frame := some { bits := 0, request := 0, place := 0 }
        svdo := some (s.link.response.frame.getMsbD 0), shifted := [] }) ∧
    ∀ e, e ≠ .selectFall → exec (.frameCheckFailure [] e) s = .next s := by
  refine ⟨?_, fun e he => ?_⟩
  · rw [exec_edge quiet]
    simp only [State.linkEdge, State.onWires, LinkWires.select, hidle]
    rfl
  · rw [exec_edge quiet]
    refine congrArg _ ?_
    cases e with
    | selectFall => exact absurd rfl he
    | clockRise d =>
      simp only [State.linkEdge, State.onWires, LinkWires.sample, hidle]
    | clockFall =>
      simp only [State.linkEdge, State.onWires, LinkWires.advance, hidle]
    | selectRise => simp only [State.linkEdge, State.endFrame, hidle]

theorem edges_while_framed {f : LinkFrame} (quiet : Quiet s) (hframe : s.wires.frame = some f) :
    exec (.frameCheckFailure [] .selectFall) s = .next s ∧
    (∀ d, exec (.frameCheckFailure [] (.clockRise d)) s = .next (s.onWires fun w =>
      { w with
        frame := some { f with
          bits := f.bits + 1
          request := if f.bits < 48 then (f.request ++ BitVec.ofBool d).setWidth 48 else f.request }
        shifted := w.shifted ++ w.svdo.toList })) ∧
    exec (.frameCheckFailure [] .clockFall) s = .next (s.onWires fun w =>
      { w with
        frame := some { f with place := f.place + 1 }
        svdo := if f.place + 1 < 48 then some (s.link.response.frame.getMsbD (f.place + 1)) else none }) := by
  refine ⟨?_, fun d => ?_, ?_⟩
  all_goals rw [exec_edge quiet]
  · simp only [State.linkEdge, State.onWires, LinkWires.select, hframe]
  · simp only [State.linkEdge, State.onWires, LinkWires.sample, hframe]
    rfl
  · simp only [State.linkEdge, State.onWires, LinkWires.advance, hframe]
    rfl

theorem endFrame_eq {f : LinkFrame} (hframe : s.wires.frame = some f) :
    s.linkEdge .selectRise = (s.onWires LinkWires.released).frameEnd f.bits f.request := by
  change s.endFrame = _
  unfold State.endFrame
  rw [hframe]

/-- A frame that fails a check answers by its own outcome and changes nothing else. -/
theorem frame_refused {f : LinkFrame} (quiet : Quiet s) (hframe : s.wires.frame = some f) {o : LinkOutcome} {n : Half}
    (judged : (s.onWires LinkWires.released).frameEnd f.bits f.request = (s.onWires LinkWires.released).respond o n 0) :
    Runs (.frameCheckFailure [] .selectRise) s fun t => Unchanged [.wires, .link] s t ∧
      t.wires = { s.wires with frame := none, svdo := none } ∧
      t.link = { s.link with response := t.link.response, resetMark := false } ∧ Responded s t o n 0 := by
  refine ⟨_, exec_edge quiet .selectRise, ?_⟩
  rw [endFrame_eq hframe, judged]
  exact ⟨unchanged_respond (by decide) (State.onWires_unchanged _ (by decide) (.refl _ s)) .., rfl, rfl,
    respond_responded rfl ..⟩

/-- A sound frame is carried out as its command, but that the lines stay as they were clocked. -/
theorem frame_carried {f : LinkFrame} {c : Instr} {g : State → State} (quiet : Quiet s) (hframe : s.wires.frame = some f)
    (hexec : exec c s = .next (s.act fun t => g t.clockFrame))
    (commutes : ∀ h : LinkWires → LinkWires, g (s.onWires h) = (g s).onWires h)
    (hbits : f.bits = 48) (sound : crc8 (f.request.extractLsb' 8 40) = f.request.extractLsb' 0 8)
    (haction : ∀ t : State, t.frameAction f.request = g t) :
    ∃ t, exec c s = .next t ∧ exec (.frameCheckFailure [] .selectRise) s =
      .next (t.onWires fun _ => { s.wires with frame := none, svdo := none }) := by
  refine ⟨_, exec_of_act quiet hexec, ?_⟩
  rw [exec_edge quiet, endFrame_eq hframe, hbits, frameEnd_of_sound sound, haction]
  have hclock : g s.clockFrame = (g s).onWires fun _ => s.clockFrame.wires := commutes fun _ => s.clockFrame.wires
  have hreleased : g (s.onWires LinkWires.released) = (g s).onWires fun _ => s.wires.released := commutes fun _ => s.wires.released
  rw [hclock, hreleased]
  rfl

/-- Settles O56: the checksum and the bits of a response, the edges one by one, a frame's end, and a whole frame. -/
theorem frameChecks : Obligations.FrameChecks := by
  unfold Obligations.FrameChecks
  intro edge step
  refine ⟨crc8_eq, by decide +kernel, fun r => ⟨r.frame_outcome, ?_⟩, rfl, fun es fs e f s quiet => edges_compose quiet es fs e f,
    fun s quiet hidle => edges_while_idle quiet hidle, fun f s quiet hframe => edges_while_framed quiet hframe,
    fun f s quiet hframe => ?_, fun f s quiet hidle sound => ?_⟩
  · obtain ⟨h43, h42, h41, h40⟩ := r.frame_flags
    exact ⟨h43, h42, h41, h40, r.frame_item, r.frame_data, r.frame_crc⟩
  · intro command item data sound idle refused carries
    refine ⟨fun hbits => frame_refused quiet hframe ?_, fun hbits unsound => frame_refused quiet hframe ?_,
      fun ⟨hbits, sound⟩ h0 h1 h2 h3 => frame_refused quiet hframe ?_, fun ⟨hbits, sound⟩ h => ?_,
      fun ⟨hbits, sound⟩ h => ?_, fun ⟨hbits, sound⟩ h => ?_, fun ⟨hbits, sound⟩ h => ?_⟩
    · unfold State.frameEnd
      rw [if_pos (bne_iff_ne.mpr hbits)]
    · unfold State.frameEnd
      rw [hbits, if_neg (by decide)]
      exact if_pos (bne_iff_ne.mpr unsound)
    · rw [hbits, frameEnd_of_sound sound, frameAction_unknown h0 h1 h2 h3]
      rfl
    · exact frame_carried (g := fun t => t.frameNop item) quiet hframe rfl (fun _ => rfl) hbits sound
        fun _ => frameAction_nop h
    · exact frame_carried (g := fun t => t.frameRead item) quiet hframe rfl (fun g => s.frameRead_onWires g item) hbits sound
        fun _ => frameAction_read h
    · exact frame_carried (g := fun t => t.frameWrite item data) quiet hframe rfl
        (fun g => s.frameWrite_onWires g item data) hbits sound fun _ => frameAction_write h
    · exact frame_carried (g := fun t => t.frameTakeFault item) quiet hframe rfl (fun _ => rfl) hbits sound
        fun _ => frameAction_takeFault h
  · intro item data whole
    have hwhole : exec whole s = .next (s.clockFrame.frameAction f) := by
      rw [exec_edges quiet, wholeFrame_end hidle, frameEnd_of_sound sound]
    refine ⟨fun h => ?_, fun h => ?_, fun h => ?_, fun h => ?_⟩
    · rw [hwhole, frameAction_nop h]
      exact (exec_of_act quiet (c := .nop item data) rfl).symm
    · rw [hwhole, frameAction_read h]
      exact (exec_of_act quiet (c := .read item data) rfl).symm
    · rw [hwhole, frameAction_write h]
      exact (exec_of_act quiet (c := .write item data) rfl).symm
    · rw [hwhole, frameAction_takeFault h]
      exact (exec_of_act quiet (c := .takeFault item data) rfl).symm

end Sys2Proof.Safety
end

section
/-! SUPPORT. The band in force (R102 to R104), as the latest of the bands that play. -/

namespace Sys2Proof.Machine

section
variable (bands : Table Band 8) (c : Clock)

/-- Of two bands the one that started later plays, and of two that started together the lower. -/
def Band.Beats (m n : BandNo) : Prop :=
  (bands.get n).start < (bands.get m).start ∨ ((bands.get n).start = (bands.get m).start ∧ m < n)

/-- What a search of these bands has chosen. -/
def LatestOf (ns : List BandNo) : Option BandNo → Prop
  | none => ∀ n ∈ ns, (bands.get n).qualifies c = false
  | some m => m ∈ ns ∧ (bands.get m).qualifies c = true ∧
      ∀ n ∈ ns, (bands.get n).qualifies c = true → n ≠ m → Band.Beats bands m n

/-- One more band, of a number above those searched. -/
theorem LatestOf.step {ns : List BandNo} {best : Option BandNo} {n : BandNo} (h : LatestOf bands c ns best)
    (above : ∀ m ∈ ns, m < n) : LatestOf bands c (ns ++ [n]) (laterBand bands c best n) := by
  unfold laterBand
  by_cases plays : (bands.get n).qualifies c = true
  · rw [if_pos plays]
    cases best with
    | none =>
      refine ⟨by simp, plays, fun m hm playsToo apart => ?_⟩
      rcases List.mem_append.mp hm with hm | hm
      · rw [h m hm] at playsToo
        cases playsToo
      · exact absurd (List.mem_singleton.mp hm) apart
    | some m =>
      obtain ⟨hmem, hplays, hbest⟩ := h
      dsimp only
      by_cases later : (bands.get m).start < (bands.get n).start
      · rw [if_pos later]
        refine ⟨by simp, plays, fun k hk playsToo apart => .inl ?_⟩
        rcases List.mem_append.mp hk with hk | hk
        · by_cases hkm : k = m
          · rwa [hkm]
          · rcases hbest k hk playsToo hkm with h | ⟨h, _⟩ <;> omega
        · exact absurd (List.mem_singleton.mp hk) apart
      · rw [if_neg later]
        refine ⟨List.mem_append_left _ hmem, hplays, fun k hk playsToo apart => ?_⟩
        rcases List.mem_append.mp hk with hk | hk
        · exact hbest k hk playsToo apart
        · rw [List.mem_singleton.mp hk]
          rcases Nat.lt_or_eq_of_le (Nat.le_of_not_lt later) with earlier | same
          · exact .inl earlier
          · exact .inr ⟨same, above m hmem⟩
  · rw [if_neg plays]
    have silent : (bands.get n).qualifies c = false := by simpa using plays
    cases best with
    | none =>
      intro k hk
      rcases List.mem_append.mp hk with hk | hk
      · exact h k hk
      · rwa [List.mem_singleton.mp hk]
    | some m =>
      obtain ⟨hmem, hplays, hbest⟩ := h
      refine ⟨List.mem_append_left _ hmem, hplays, fun k hk playsToo apart => ?_⟩
      rcases List.mem_append.mp hk with hk | hk
      · exact hbest k hk playsToo apart
      · rw [List.mem_singleton.mp hk] at playsToo
        exact absurd playsToo plays

theorem latestOf_search (ns : List BandNo) (rising : ns.Pairwise (· < ·)) :
    LatestOf bands c ns (ns.foldl (laterBand bands c) none) := by
  induction ns using List.reverseRecOn with
  | nil => exact fun n hn => absurd hn (by simp)
  | append_singleton ns n ih =>
    obtain ⟨hns, _, above⟩ := List.pairwise_append.mp rising
    rw [List.foldl_append]
    exact (ih hns).step bands c fun m hm => above m hm n (by simp)

theorem latestOf_all : LatestOf bands c (List.finRange 8) ((List.finRange 8).foldl (laterBand bands c) none) :=
  latestOf_search bands c _ (List.pairwise_lt_finRange 8)

theorem search_eq_some_iff (b : BandNo) : (List.finRange 8).foldl (laterBand bands c) none = some b ↔
    (bands.get b).qualifies c = true ∧ ∀ n, (bands.get n).qualifies c = true → n ≠ b → Band.Beats bands b n := by
  have h := latestOf_all bands c
  constructor
  · intro hb
    rw [hb] at h
    obtain ⟨_, plays, best⟩ := h
    exact ⟨plays, fun n => best n (List.mem_finRange n)⟩
  · rintro ⟨plays, best⟩
    cases hsearch : (List.finRange 8).foldl (laterBand bands c) none with
    | none =>
      rw [hsearch] at h
      rw [h b (List.mem_finRange b)] at plays
      cases plays
    | some m =>
      rw [hsearch] at h
      obtain ⟨_, plays', best'⟩ := h
      by_cases hm : m = b
      · rw [hm]
      · have hbm := best m plays' hm
        have hmb := best' b (List.mem_finRange b) plays fun h => hm h.symm
        rcases hbm with hbm | ⟨_, hbm⟩ <;> rcases hmb with hmb | ⟨_, hmb⟩
        · omega
        · omega
        · omega
        · exact absurd hbm (lt_asymm hmb)

theorem search_eq_none_iff : (List.finRange 8).foldl (laterBand bands c) none = none ↔
    ∀ n, (bands.get n).qualifies c = false := by
  have h := latestOf_all bands c
  constructor
  · intro hnone
    rw [hnone] at h
    exact fun n => h n (List.mem_finRange n)
  · intro silent
    cases hsearch : (List.finRange 8).foldl (laterBand bands c) none with
    | none => rfl
    | some m =>
      rw [hsearch] at h
      obtain ⟨_, plays, _⟩ := h
      rw [silent m] at plays
      cases plays

end

variable {s : State}

theorem State.bandInForce_of_unset (h : s.light.clock.isSet = false) : s.bandInForce = .unset := by
  simp [State.bandInForce, h]

theorem State.bandInForce_eq_band_iff (set : s.light.clock.isSet = true) (b : BandNo) : s.bandInForce = .band b ↔
    (List.finRange 8).foldl (laterBand s.settings.bands s.light.clock) none = some b := by
  unfold State.bandInForce
  rw [if_pos set]
  cases (List.finRange 8).foldl (laterBand s.settings.bands s.light.clock) none <;> simp

theorem State.bandInForce_eq_default_iff (set : s.light.clock.isSet = true) : s.bandInForce = .default ↔
    (List.finRange 8).foldl (laterBand s.settings.bands s.light.clock) none = none := by
  unfold State.bandInForce
  rw [if_pos set]
  cases (List.finRange 8).foldl (laterBand s.settings.bands s.light.clock) none <;> simp

end Sys2Proof.Machine
end

section
/-! The statements on the band in force, the second step, and the sensors' and the Show unit's timers. -/

namespace Sys2Proof.Safety

open Sys2Proof.Machine

variable {s : State}

/-- Settles O43, by the search of the eight bands. -/
theorem bandInForceIsLatest : Obligations.BandInForceIsLatest := by
  intro s
  refine ⟨State.bandInForce_of_unset, fun set => ?_, fun b hb => ?_, fun hnone => ?_⟩
  · intro plays
    have hplays (b : BandNo) : (s.settings.bands.get b).qualifies s.light.clock = true ↔ plays b := by
      simp [Band.qualifies, plays, and_assoc]
    refine ⟨fun b => ?_, ?_⟩
    · rw [State.bandInForce_eq_band_iff set, search_eq_some_iff]
      simp only [hplays]
      rfl
    · rw [State.bandInForce_eq_default_iff set, search_eq_none_iff]
      simp only [← hplays, Bool.not_eq_true]
  · simp only [State.bandCeiling, State.bandFallback, State.bandMinDwell, hb, and_self]
  · have hother : s.bandInForce = .default ∧ s.light.clock.isSet = true ∨
        s.bandInForce = .unset ∧ s.light.clock.isSet = false := by
      cases set : s.light.clock.isSet with
      | false => exact .inr ⟨State.bandInForce_of_unset set, rfl⟩
      | true =>
        refine .inl ⟨?_, rfl⟩
        rw [State.bandInForce_eq_default_iff set]
        cases hsearch : (List.finRange 8).foldl (laterBand s.settings.bands s.light.clock) none with
        | none => rfl
        | some b => exact absurd ((State.bandInForce_eq_band_iff set b).mpr hsearch) (hnone b)
    rcases hother with ⟨h, set⟩ | ⟨h, unset⟩
    · simp [State.bandCeiling, State.bandFallback, State.bandMinDwell, h, set]
    · simp [State.bandCeiling, State.bandFallback, State.bandMinDwell, h, unset]

/-! ## The second step and the notice gate -/

theorem secondStep_parts (s : State) :
    s.secondStep.light = s.tickClock.light ∧ s.secondStep.settings = s.tickClock.settings ∧
    s.secondStep.table.records = s.table.records ∧
    (∀ n, s.table.gate = .opened n → 1 < n → s.secondStep.table.gate = .opened (n - 1)) ∧
    (∀ n, s.table.gate = .opened n → n ≤ 1 →
      s.secondStep.table.gate = s.table.gate ∧ .noticeGateTimeout ∈ s.secondStep.due) ∧
    (s.table.gate = .closed → s.secondStep.table.gate = .closed) := by
  have htable : s.tickClock.table = s.table :=
    (State.tickClock_unchanged (xs := [.light, .tiles]) (by decide) (.refl _ s)).agree .table (by decide)
  unfold State.secondStep
  dsimp only
  split
  next n hgate =>
    split
    next last =>
      refine ⟨rfl, rfl, (congrArg BufferTable.records htable :), fun m hm early => ?_, fun m hm _ => ?_, fun closed => ?_⟩
      · cases hgate.symm.trans hm
        omega
      · refine ⟨congrArg BufferTable.gate htable, ?_⟩
        change _ ∈ insertDue _ _
        unfold insertDue
        split
        · assumption
        · simp
      · cases hgate.symm.trans closed
    next early =>
      refine ⟨rfl, rfl, (congrArg BufferTable.records htable :), fun m hm _ => ?_, fun m hm last => ?_, fun closed => ?_⟩
      · cases hgate.symm.trans hm
        rfl
      · cases hgate.symm.trans hm
        omega
      · cases hgate.symm.trans closed
  next hgate =>
    refine ⟨rfl, rfl, (congrArg BufferTable.records htable :), fun m hm => ?_, fun m hm => ?_, fun _ => ?_⟩
    · cases hgate.symm.trans hm
    · cases hgate.symm.trans hm
    · exact (congrArg BufferTable.gate htable).trans hgate

/-- Settles O42: the tick recomputes the light, and the gate's countdown is a case of its own. -/
theorem secondStepAdvances : Obligations.SecondStepAdvances := by
  refine ⟨fun s due => ?_, fun n s due hgate last => ?_⟩
  · refine .of_due (e := .secondStep) due ?_
    obtain ⟨hlight, hset, hrecords, hcounts, hlast, hclosed⟩ := secondStep_parts (s.dropDue .secondStep)
    have current : (s.dropDue .secondStep).secondStep.LightCurrent :=
      (State.recomputeLight_current _).congr hset hlight
    refine ⟨?_, current.ceiling, current.gain, ?_, hrecords, hcounts, hlast, hclosed⟩
    · change (s.dropDue .secondStep).secondStep.light.clock = _
      rw [hlight]
      exact State.recomputeLight_clock _
    · exact State.secondStep_unchanged (by decide) (State.dropDue_unchanged _ (by decide) (.refl _ s))
  · refine .of_due (e := .noticeGateTimeout) due ?_
    have htake : (s.dropDue .noticeGateTimeout).takeDue .noticeGateTimeout =
        (s.dropDue .noticeGateTimeout).event State.closeGate := by
      change (s.dropDue .noticeGateTimeout).timeoutGate = _
      unfold State.timeoutGate
      have hgate' : (s.dropDue .noticeGateTimeout).table.gate = .opened n := hgate
      rw [hgate']
      exact if_pos last
    rw [htake]
    have h := event_follows (s.dropDue .noticeGateTimeout) State.closeGate
    refine ⟨h.gate, ?_, fun k hk => ?_⟩
    · rw [h.bufferState, closeGate_bufferState]
      by_cases filling : s.bufferState noticeBuffer = .filling
      · rw [if_pos filling]
        exact if_pos ⟨rfl, filling, by rw [State.dropDue, State.onDue_table, hgate]; nofun⟩
      · rw [if_neg filling]
        exact if_neg fun h => filling h.2.1
    · rw [h.bufferState, closeGate_bufferState]
      exact if_neg fun h => hk h.1

/-! ## The rows that name what a window's end does (log 12) -/

/-- Settles O46: each of the three rows is the window's end where it does what the row names. -/
theorem sensorChangesAreWindowEnds : Obligations.SensorChangesAreWindowEnds := by
  intro ch s due on hleft r c q raw dies floods
  let w := r.capture c.gate
  have hresult : s.windowResult ch = w.act c := rfl
  have hon : w.state ≠ .off := on
  have hdark : w.darkRun = if q = 0 then min 255 (r.darkRun + 1) else 0 := r.capture_darkRun c.gate
  have hclip : w.clipRun = if 4095 < q then min 255 (r.clipRun + 1) else 0 := r.capture_clipRun c.gate
  have hrow (b : Bool) (c : Instr) (hexec : exec c s = .next (if b then s.takeIfDue (.gateWindowEnd ch) else s)) :
      exec c s = exec (.gateWindowEnd ch) s ∨ exec c s = .next s := by
    cases b
    · exact .inr hexec
    · exact .inl hexec
  refine ⟨fun hdead hsat f good hlevel lives drains third far => ?_, fun alive hdies => ?_,
    fun hdead unsaturated hfloods => ?_, hrow _ (.jump ch) rfl, hrow _ (.sensorDead ch) rfl, hrow _ (.sensorSaturated ch) rfl⟩
  · have hlives : ¬ w.reachesDead c = true := by
      rw [ChannelRecord.reachesDead_iff hon, hdark]
      rintro ⟨h, _⟩
      split at h
      next dark => exact lives ⟨dark, h⟩
      next => omega
    have hdrains : ¬ w.reachesSaturated c = true := by
      rw [ChannelRecord.reachesSaturated_iff hon, hclip]
      rintro ⟨h, _⟩
      split at h
      next clipped => exact drains ⟨clipped, h⟩
      next => omega
    have hact : w.act c = ({ w with level := some raw, jumpRun := 0 }, none) := by
      rw [ChannelRecord.act_of_good (f := f) hlives hdrains good hlevel, ← ChannelRecord.follow_jumping (w := w) far third]
      rfl
    have hjumps : s.windowJumps ch = true := by
      unfold State.windowJumps
      rw [hresult, hact]
      change ((r.state == .good && w.state == .good && decide (2 ≤ r.jumpRun)) &&
        match r.level, (some raw : Option Nat) with
        | some f, some raw => decide (c.jump < levelDistance f raw)
        | _, _ => false) = true
      have hgood : w.state = .good := good
      rw [hlevel, good, hgood]
      simp only [BEq.rfl, Bool.true_and, Bool.and_eq_true, decide_eq_true_eq]
      exact ⟨third, far⟩
    have hexec : exec (.jump ch) s = exec (.gateWindowEnd ch) s := by
      change Host.Outcome.next (if s.windowJumps ch then _ else _) = _
      rw [if_pos hjumps]
      rfl
    obtain ⟨t, ht, hchannel, _, _, _, _, _, _, hfaults, _⟩ :=
      gateWindowEnd_runs due on hleft (hresult.trans hact)
    refine ⟨t, hexec.trans ht, ?_⟩
    dsimp only
    rw [hchannel]
    exact ⟨good, rfl, rfl, hfaults rfl⟩
  · have hact : w.act c = (w.moveTo .dead none, some .sensorDead) := by
      refine ChannelRecord.act_of_reachesDead ((ChannelRecord.reachesDead_iff hon).mpr ⟨?_, alive⟩)
      rw [hdark, if_pos hdies.1]
      exact hdies.2
    have hexec : exec (.sensorDead ch) s = exec (.gateWindowEnd ch) s := by
      change Host.Outcome.next (if (s.windowResult ch).2 == some .sensorDead then _ else _) = _
      rw [hresult, hact]
      rfl
    obtain ⟨t, ht, hchannel, _, _, _, _, _, _, _, hoffer⟩ :=
      gateWindowEnd_runs due on hleft (hresult.trans hact)
    refine ⟨t, hexec.trans ht, ?_⟩
    dsimp only
    rw [hchannel]
    exact ⟨rfl, rfl, rfl, hoffer _ rfl⟩
  · have hlit : q ≠ 0 := by have := hfloods.1; omega
    have hact : w.act c = (w.moveTo .saturated none, some .sensorSaturated) := by
      refine ChannelRecord.act_of_reachesSaturated ?_ ((ChannelRecord.reachesSaturated_iff hon).mpr ⟨?_, unsaturated⟩)
      · rw [ChannelRecord.reachesDead_iff hon, hdark, if_neg hlit]
        omega
      · rw [hclip, if_pos hfloods.1]
        exact hfloods.2
    have hexec : exec (.sensorSaturated ch) s = exec (.gateWindowEnd ch) s := by
      change Host.Outcome.next (if (s.windowResult ch).2 == some .sensorSaturated then _ else _) = _
      rw [hresult, hact]
      rfl
    obtain ⟨t, ht, hchannel, _, _, _, _, _, _, _, hoffer⟩ :=
      gateWindowEnd_runs due on hleft (hresult.trans hact)
    refine ⟨t, hexec.trans ht, ?_⟩
    dsimp only
    rw [hchannel]
    exact ⟨rfl, rfl, rfl, hoffer _ rfl⟩

/-! ## The timers of the Show unit -/

theorem stallTest_idle (h : s.test.outcome ≠ .inProgress) : s.stallTest = s := by
  simp [State.stallTest, TestRecord.runs, h]

theorem stallTest_running (h : s.test.outcome = .inProgress) : s.stallTest =
    (s.setService .failed .scanStall).onTest fun t => t.ended .failedStall := by
  simp [State.stallTest, TestRecord.runs, h]

/-- Settles O39. -/
theorem showTimersEnd : Obligations.ShowTimersEnd := by
  refine ⟨fun s due hdwell => .of_due (e := .dwellMet) due ?_, fun s due hwait => (exec_of_due (e := .pairWaitExpiry) due).trans ?_,
    fun s due running unstalled limit => .of_due (e := .scanStall) due ?_⟩
  · have htake : (s.dropDue .dwellMet).takeDue .dwellMet =
        (s.dropDue .dwellMet).event fun t => t.onFace fun f => { f with dwell := .met } :=
      if_pos (beq_iff_eq.mpr hdwell)
    rw [htake]
    exact event_follows (s.dropDue .dwellMet) fun t => t.onFace fun f => { f with dwell := .met }
  · refine congrArg _ (?_ : (s.dropDue .pairWaitExpiry).expirePairWait = _)
    unfold State.expirePairWait
    exact if_pos (beq_iff_eq.mpr hwait)
  · have hstall : (s.dropDue .scanStall).stallDue = true := by
      change (s.governor == .running && !s.face.stalled && decide (s.settings.stallLimit ≤ s.face.stallCount)) = true
      simp [running, unstalled, limit]
    let told := ((s.dropDue .scanStall).onFace fun f => { f with stalled := true }).offer .scanStall none
      (natItem s.face.stallCount)
    have htake : (s.dropDue .scanStall).takeDue .scanStall = told.stallTest := by
      change (s.dropDue .scanStall).stallScan = _
      unfold State.stallScan
      exact if_pos hstall
    rw [htake]
    have frame : Unchanged [.link, .test] told told.stallTest := State.stallTest_unchanged (by decide) (.refl _ told)
    refine ⟨?_, frame.agree .face (by decide), frame.agree .faults (by decide), fun notRun => ?_, fun runs => ?_⟩
    · exact Unchanged.trans (State.offer_unchanged _ _ _ (by decide) (State.onFace_unchanged _ (by decide)
        (State.dropDue_unchanged _ (by decide) (.refl _ s)))) (frame.mono (by decide))
    · rw [stallTest_idle (s := told) notRun]
      exact ⟨rfl, rfl⟩
    · rw [stallTest_running (s := told) runs]
      exact ⟨rfl, rfl⟩

/-! ## Power-on -/

theorem arbitrate_of_idle (hport : s.bus.port = none) (hrequest : s.bus.anyRequest = false) (hrst : s.lines.rstn = false) :
    s.arbitrate = if s.canTake then s.addDue .takePresented else s := by
  have hclaims : s.bus.guardClaims = false := by simp [BusState.guardClaims, hrequest]
  have hnone : s.bus.writeBackReq = none ∧ s.bus.wipeReq = none ∧ s.bus.verifyReq = none := by
    simpa [BusState.anyRequest, and_assoc] using hrequest
  unfold State.arbitrate
  rw [if_neg (by simp [hrst, hport]), hclaims, if_neg Bool.false_ne_true]
  unfold State.grantOwn
  rw [hnone.1, hnone.2.1, hnone.2.2]

theorem act_of_reset (hrst : s.lines.rstn = true) (f : State → State) : s.act f = s := by simp [State.act, hrst]

theorem takeIfDue_of_reset (hrst : s.lines.rstn = true) (e : DueEvent) : s.takeIfDue e = s :=
  State.takeIfDue_of_not_due fun h => by rw [hrst] at h; cases h.1

/-- While RSTN is asserted a command has no effect, the lines' own rows and a transaction newly presented apart. -/
theorem exec_of_reset {c : Instr} (hrst : s.lines.rstn = true) (formed : c.wellFormed = true)
    (notRelease : ∀ strap, c ≠ .powerOnRelease strap) (notTake : ∀ p, c ≠ .transactionTake (some p))
    (notPartner : ∀ level, c ≠ .partnerRise level) (notReset : c ≠ .upstreamReset)
    (notFree : c ≠ .upstreamResetRelease) : exec c s = .next s := by
  have hact (f : State → State) : (Host.Outcome.next (s.act f) : Answer) = .next s := congrArg _ (act_of_reset hrst f)
  have hdue (e : DueEvent) : (Host.Outcome.next (s.takeIfDue e) : Answer) = .next s :=
    congrArg _ (takeIfDue_of_reset hrst e)
  have hwindow (b : Bool) (e : DueEvent) :
      (Host.Outcome.next (if b then s.takeIfDue e else s) : Answer) = .next s := by
    rw [takeIfDue_of_reset hrst, ite_self]
  cases c
  case powerOnRelease strap => exact absurd rfl (notRelease strap)
  case transactionTake p =>
    cases p with
    | none => exact hdue _
    | some p => exact absurd rfl (notTake p)
  case partnerRise level => exact absurd rfl (notPartner level)
  case upstreamReset => exact absurd rfl notReset
  case upstreamResetRelease => exact absurd rfl notFree
  case verifyBurstEnd st ws =>
    rw [exec_verifyBurstEnd, if_pos formed]
    exact hact _
  case forwardedBurstEnd st =>
    change execForwardedBurstEnd st s = _
    unfold execForwardedBurstEnd
    exact if_pos hrst
  case jump | sensorDead | sensorSaturated => exact hwindow _ _
  case starvationGuardClaim | silent | testWaitExpiry | holdOffEnd | cueExpiry | noticeTimeEnd | dwellMet |
      pairWaitExpiry | scanStall | gateWindowEnd | secondStep | noticeGateTimeout => exact hdue _
  all_goals exact hact _

/-- Settles O49: the assertion and the release of RSTN, and the commands between them. -/
theorem powerOnResets : Obligations.PowerOnResets := by
  refine ⟨fun s quiet => .of_act quiet rfl ?_, fun strap s hrst hnone => ?_, fun strap p s hrst hpresented => ?_,
    fun strap s hrst => ?_, fun c s hrst formed h1 h2 h3 h4 h5 => exec_of_reset hrst formed h1 h2 h3 h4 h5,
    fun strap => ⟨rfl, rfl⟩⟩
  · exact ⟨State.powerDown_unchanged (by decide) (.refl _ s), rfl, rfl, rfl, rfl, rfl, rfl, rfl, rfl, rfl, rfl, rfl⟩
  · change Host.Outcome.next (if s.lines.rstn then s.powerUp strap else s) = _
    rw [if_pos hrst]
    refine congrArg _ ?_
    unfold State.powerUp
    dsimp only
    rw [arbitrate_of_idle rfl rfl rfl, hnone, if_neg]
    · rfl
    · exact Bool.false_ne_true
  · refine ⟨s.powerUp strap, ?_, ?_⟩
    · change Host.Outcome.next (if s.lines.rstn then s.powerUp strap else s) = _
      rw [if_pos hrst]
    · unfold State.powerUp
      dsimp only
      rw [arbitrate_of_idle rfl rfl rfl, hpresented]
      cases hfbrst : s.lines.fbrst with
      | false => exact ⟨rfl, rfl, fun _ => rfl⟩
      | true => exact ⟨rfl, rfl, nofun⟩
  · exact congrArg _ (if_neg (by simp [hrst]))

end Sys2Proof.Safety
end

section
/-! SUPPORT. The words of a transaction and its ends at the upstream port (01 R2, R9 to R14, R19): the places of a word in
the ring and the report window, a data word taken, a word delivered, the initiator's short end. Settles O21, O23 and
O24. -/

namespace Sys2Proof.Safety

open Sys2Proof.Machine

variable {s t : State} {r : TxRecord}

/-! ## Places and cells -/

theorem cueAt_place (l : Layout) (n : SlotNo) {j : Nat} (hj : j < 8) :
    cueSlotAt l (l.cueBase.toNat + 32 * n.val + 4 * j) = n ∧ cueWordAt l (l.cueBase.toNat + 32 * n.val + 4 * j) = j := by
  have hn := n.isLt
  refine ⟨Fin.ext ?_, ?_⟩
  · simp only [cueSlotAt, Fin.ofNat]
    omega
  · simp only [cueWordAt]
    omega

theorem reportAt_place (l : Layout) (i : TileNo) {j : Nat} (hj : j < 4) :
    reportSlotAt l (l.reportBase.toNat + 16 * i.val + 4 * j) = i ∧
      reportWordAt l (l.reportBase.toNat + 16 * i.val + 4 * j) = j := by
  have hi := i.isLt
  refine ⟨Fin.ext ?_, ?_⟩
  · simp only [reportSlotAt, Fin.ofNat]
    omega
  · simp only [reportWordAt]
    omega

theorem cueShadowCell_val (n : SlotNo) {j : Nat} (hj : j < 4) : (cueShadowCell n j).val = 4 * n.val + j :=
  Nat.mod_eq_of_lt (by have := n.isLt; omega)

theorem reportShadowCell_val (i : TileNo) {j : Nat} (hj : j < 3) : (reportShadowCell i j).val = 3 * i.val + j :=
  Nat.mod_eq_of_lt (by have := i.isLt; omega)

theorem mergeBytes_eq (old new : Word) (en : ByteEnables) :
    let byte := fun (on : Bool) (start : Nat) => (if on then new else old).extractLsb' start 8
    mergeBytes old new en = byte en.b3 24 ++ byte en.b2 16 ++ byte en.b1 8 ++ byte en.b0 0 := by
  simp only [mergeBytes, apply_ite (BitVec.extractLsb' _ 8)]

/-! ## The end of a transaction -/

theorem complete_eq_closedAs (h : s.bus.upstream = some r) (st : Completion) : s.complete st = closedAs s r st := by
  simp only [State.complete, closedAs, State.onBus, h, Option.map_some]

/-- A transaction that ends without a burst of its own: the port is left to the arbiter. -/
theorem complete_follows (h : s.bus.upstream = some r) (st : Completion) :
    Follows (closedAs s r st) (s.complete st).arbitrate := by
  rw [complete_eq_closedAs h]
  exact arbitrate_follows _

/-! ## A data word of a write (R9 to R11, R48, R131) -/

theorem takeCueWord_eq (s : State) (n : SlotNo) (j : Nat) (d : DataWord) :
    s.takeCueWord n j d = s.onCues fun c =>
      if j < 4 then { c with shadow := c.shadow.modify (cueShadowCell n j) fun old => mergeBytes old d.word d.enables }
      else if j = 7 then { c with noted := c.noted ++ [{ slot := n, word := d.word, enables := d.enables }] }
      else c := by
  by_cases low : j < 4
  · simp only [State.takeCueWord, State.onCues, if_pos low]
  · by_cases last : j = 7
    · simp only [State.takeCueWord, State.onCues, if_neg low, if_pos last]
    · simp only [State.takeCueWord, State.onCues, if_neg low, if_neg last]

theorem takeReportWord_eq (s : State) (i : TileNo) (j : Nat) (d : DataWord) :
    s.takeReportWord i j d = s.onScan fun c =>
      if j < 3 then { c with shadow := c.shadow.modify (reportShadowCell i j) fun old => mergeBytes old d.word d.enables }
      else { c with noted := c.noted ++ [{ slot := i, word := d.word, enables := d.enables }] } := by
  by_cases low : j < 3
  · simp only [State.takeReportWord, State.onScan, if_pos low]
  · simp only [State.takeReportWord, State.onScan, if_neg low]

/-- A watched word is handed on by its window; every other word is handed to no block. -/
theorem handWord_eq (s : State) (r : TxRecord) (w : Word) (en : ByteEnables) :
    let l := r.layout
    let a := wordAddress r.address r.wordsDone
    s.handWord r { word := w, enables := en } =
      if r.verdict = .watch ∧ r.window = .cue then
        s.onCues fun c =>
          if cueWordAt l a < 4 then
            { c with shadow := c.shadow.modify (cueShadowCell (cueSlotAt l a) (cueWordAt l a)) fun old =>
                mergeBytes old w en }
          else if cueWordAt l a = 7 then
            { c with noted := c.noted ++ [{ slot := cueSlotAt l a, word := w, enables := en }] }
          else c
      else if r.verdict = .watch ∧ r.window = .report then
        s.onScan fun c =>
          if reportWordAt l a < 3 then
            { c with shadow := c.shadow.modify (reportShadowCell (reportSlotAt l a) (reportWordAt l a)) fun old =>
                mergeBytes old w en }
          else { c with noted := c.noted ++ [{ slot := reportSlotAt l a, word := w, enables := en }] }
      else s := by
  dsimp only
  unfold State.handWord
  split
  next hverdict hwindow =>
    rw [if_pos ⟨hverdict, hwindow⟩, takeCueWord_eq]
    rfl
  next hverdict hwindow =>
    rw [if_neg (by simp [hwindow]), if_pos ⟨hverdict, hwindow⟩, takeReportWord_eq]
    rfl
  next hcue hreport => rw [if_neg fun h => hcue h.1 h.2, if_neg fun h => hreport h.1 h.2]

theorem exec_writeDataWord (quiet : Quiet s) (w : Word) (en : ByteEnables) :
    exec (.writeDataWord w en) s = .next (s.writeWord { word := w, enables := en }) :=
  exec_of_act (f := fun t => t.writeWord { word := w, enables := en }) quiet rfl

theorem writeWord_of_owed (owed : Owed r .write s) (d : DataWord) :
    s.writeWord d = (((s.handWord r d).onBus fun b => b.takeWord r d)).finishRefused r := by
  obtain ⟨_, hupstream, hdirection, howed⟩ := owed
  simp [State.writeWord, hupstream, hdirection, howed]

theorem writeWord_of_none {d : DataWord}
    (h : ∀ r, s.bus.upstream = some r → r.direction ≠ .write ∨ r.wordOwed = false) : s.writeWord d = s := by
  unfold State.writeWord
  split
  next r hupstream =>
    rw [if_neg]
    rcases h r hupstream with other | idle
    · simp [other]
    · simp [idle]
  next => rfl

theorem forwarded_iff (v : Verdict) : v.forwarded = true ↔ v = .pass ∨ v = .watch ∨ v = .remap := by
  cases v <;> simp [Verdict.forwarded]

/-- A word of a forwarded write joins the record and the burst. -/
theorem writeWord_of_forwarded (owed : Owed r .write s) (forwarded : r.verdict.forwarded = true) (d : DataWord) :
    s.writeWord d = (s.handWord r d).onBus fun b =>
      { b with
        upstream := some { r with wordsDone := r.wordsDone + 1, data := r.data ++ [d] }
        port := b.port.map fun q => { q with data := q.data ++ [d] } } := by
  have notRefused : (r.verdict == .refuse) = false := by
    cases hv : r.verdict <;> simp_all [Verdict.forwarded]
  rw [writeWord_of_owed owed]
  simp [State.finishRefused, notRefused, BusState.takeWord, forwarded]

/-- A word of a refused write is discarded, and counted. -/
theorem writeWord_of_refused (owed : Owed r .write s) (refused : r.verdict = .refuse) (d : DataWord) :
    s.writeWord d = (s.onBus fun b => { b with upstream := some { r with wordsDone := r.wordsDone + 1 } }).finishRefused r := by
  rw [writeWord_of_owed owed]
  simp [State.handWord, refused, BusState.takeWord, Verdict.forwarded]

/-- Settles O21. -/
theorem writeWordTaken : Obligations.WriteWordTaken := by
  refine ⟨fun l n j hj => cueAt_place l n hj, fun l i j hj => reportAt_place l i hj,
    fun n j s hj => ⟨cueShadowCell_val n hj, rfl⟩, fun i j s hj => ⟨reportShadowCell_val i hj, rfl⟩, mergeBytes_eq, ?_, ?_, ?_⟩
  · intro w en r s owed l a n i watching verdict
    rw [exec_writeDataWord owed.1, writeWord_of_forwarded owed ((forwarded_iff _).mpr verdict), handWord_eq]
  · intro w en r s owed refused
    dsimp only
    have hexec := exec_writeDataWord owed.1 w en
    rw [writeWord_of_refused owed refused] at hexec
    constructor
    · intro more
      rw [hexec, State.finishRefused, if_neg (by simp; omega)]
    · intro last
      refine Runs.of_next hexec ?_
      rw [State.finishRefused, if_pos (by simp [refused, last])]
      exact complete_follows (s := s.onBus fun b => { b with upstream := some { r with wordsDone := r.wordsDone + 1 } })
        rfl .refused
  · intro w en s quiet h
    rw [exec_writeDataWord quiet, writeWord_of_none h]

/-! ## A word of a read (R6, R12 to R14, R22, R109 to R111, R128) -/

/-- The three fields hold the level, one above the other. -/
theorem patternWord_toNat {level : Nat} (h : level ≤ 1023) :
    (patternWord level).toNat = (2 ^ 20 + 2 ^ 10 + 1) * level := by
  have hfield : (BitVec.ofNat 10 level).toNat = level := Nat.mod_eq_of_lt (by omega)
  simp only [patternWord, BitVec.toNat_append, hfield, BitVec.toNat_ofNat]
  rw [← Nat.shiftLeft_add_eq_or_of_lt (by omega), ← Nat.shiftLeft_add_eq_or_of_lt (by omega),
    ← Nat.shiftLeft_add_eq_or_of_lt (by omega)]
  simp only [Nat.shiftLeft_eq]
  omega

theorem substitutes_iff (u : TestRecord) (i : TileNo) :
    u.substitutes i = true ↔ u.outcome = .inProgress ∧ u.tile = some i ∧ u.phase = .sending := by
  simp [TestRecord.substitutes, TestRecord.runs, and_assoc]

theorem obtain_eq (r : TxRecord) (w : Word) :
    r.obtain w = if r.verdict = .answer ∨ (r.verdict = .remap ∧ r.governed = false) then 0 else w := by
  cases hverdict : r.verdict <;> cases hgoverned : r.governed <;> simp [TxRecord.obtain, hverdict, hgoverned]

/-- A read of the face that counts as SCAN's was taken under the layout that stands. -/
theorem obtain_of_scansFace (h : r.scansFace = true) (w : Word) :
    r.obtain w = if r.verdict = .answer then 0 else w := by
  have hgoverned : r.governed = true := by
    simp only [TxRecord.scansFace, Bool.and_eq_true] at h
    exact h.2
  simp [obtain_eq, hgoverned]

theorem exec_readWordDelivery (quiet : Quiet s) (w : Word) : exec (.readWordDelivery w) s = .next (s.readWord w) :=
  exec_of_act (f := fun t => t.readWord w) quiet rfl

theorem readWord_of_owed (owed : Owed r .read s) (w : Word) : s.readWord w = (s.deliverWord r w).finishAnswer r := by
  obtain ⟨_, hupstream, hdirection, howed⟩ := owed
  simp [State.readWord, hupstream, hdirection, howed]

theorem readWord_of_none {w : Word} (h : ∀ r, s.bus.upstream = some r → r.direction ≠ .read ∨ r.wordOwed = false) :
    s.readWord w = s := by
  unfold State.readWord
  split
  next r hupstream =>
    rw [if_neg]
    rcases h r hupstream with other | idle
    · simp [other]
    · simp [idle]
  next => rfl

/-- The word is delivered; the last one of an answered read completes it. -/
theorem readWord_runs (owed : Owed r .read s) {w : Word} {driven : State}
    (hdriven : s.deliverWord r w = driven.onBus fun b => { b with upstream := some { r with wordsDone := r.wordsDone + 1 } }) :
    (r.verdict ≠ .answer ∨ r.wordsDone + 1 < r.length → exec (.readWordDelivery w) s = .next (s.deliverWord r w)) ∧
    (r.verdict = .answer → r.length ≤ r.wordsDone + 1 → Runs (.readWordDelivery w) s fun t =>
      Follows (closedAs (s.deliverWord r w) { r with wordsDone := r.wordsDone + 1 } .ok) t) := by
  have hexec : exec (.readWordDelivery w) s = .next ((s.deliverWord r w).finishAnswer r) := by
    rw [exec_readWordDelivery owed.1, readWord_of_owed owed]
  constructor
  · intro more
    rw [hexec, State.finishAnswer, if_neg]
    rcases more with other | more
    · simp [other]
    · simp [more]
  · intro answered last
    refine Runs.of_next hexec ?_
    rw [State.finishAnswer, if_pos (by simp [answered, last])]
    exact complete_follows (by rw [hdriven]; rfl) .ok

/-- Settles O23. -/
theorem readWordDelivered : Obligations.ReadWordDelivered := by
  refine ⟨fun level h => patternWord_toNat h, ?_, ?_, ?_⟩
  · intro w r s owed scans l pixel x y i place obtained out counted driven moved
    have hout : s.datapath (r.wordOffset l) (r.obtain w) = out := by
      rw [obtain_of_scansFace scans]
      exact ite_congr (propext (substitutes_iff s.test i)) (fun _ => rfl) fun _ => rfl
    have hdriven : s.deliverWord r w = driven (some moved) := by
      rw [State.deliverWord, if_pos scans]
      dsimp only
      rw [hout]
      rfl
    rw [← hdriven]
    exact readWord_runs owed (driven := counted.onBus fun b => { b with delivered := some out }) hdriven
  · intro w r s owed other out moved driven
    have hdriven : s.deliverWord r w = driven := by
      rw [State.deliverWord, if_neg (by simp [other]), obtain_eq]
      rfl
    rw [← hdriven]
    exact readWord_runs owed (driven := s.onBus fun b => { b with delivered := some out }) hdriven
  · intro w s quiet h
    rw [exec_readWordDelivery quiet, readWord_of_none h]

/-! ## The initiator's short end (R11, R19) -/

theorem exec_initiatorShortEnd (quiet : Quiet s) : exec .initiatorShortEnd s = .next s.shortEnd :=
  exec_of_act (f := State.shortEnd) quiet rfl

/-- Settles O24. -/
theorem shortEndByVerdict : Obligations.ShortEndByVerdict := by
  constructor
  · intro d r s owed
    obtain ⟨quiet, hupstream, _, howed⟩ := owed
    have hexec := exec_initiatorShortEnd quiet
    refine ⟨fun verdict => ?_, fun verdict => Runs.of_next hexec ?_, fun verdict => Runs.of_next hexec ?_⟩
    · rw [hexec]
      rcases verdict with verdict | verdict | verdict <;>
        simp only [State.shortEnd, hupstream, howed, verdict, if_true, State.endForwardedShort]
    · simp only [State.shortEnd, hupstream, howed, verdict, if_true]
      exact complete_follows hupstream .ok
    · simp only [State.shortEnd, hupstream, howed, verdict, if_true]
      exact complete_follows hupstream .refused
  · intro s quiet h
    rw [exec_initiatorShortEnd quiet]
    unfold State.shortEnd
    split
    next r hupstream => rw [if_neg (by simp [h r hupstream])]
    next => rfl

end Sys2Proof.Safety
end

section
/-! SUPPORT. The end of a forwarded burst (01 R3, R9, R10, R20 to R22). Settles O25. -/

namespace Sys2Proof.Safety

open Sys2Proof.Machine

variable {s t : State} {r : TxRecord} {st : MemStatus}

/-- The transaction completed with its burst's status, and the memory port free. -/
def completedAs (s : State) (r : TxRecord) (st : MemStatus) : State :=
  (closedAs s r (completionOf st)).onBus fun b => { b with port := none }

theorem completion_eq (st : MemStatus) : MemStatus.completion st = completionOf st := by
  cases st <;> rfl

theorem freePort_complete (h : s.bus.upstream = some r) (st : MemStatus) :
    s.freePort.complete (MemStatus.completion st) = completedAs s r st := by
  rw [complete_eq_closedAs (s := s.freePort) h, completion_eq]
  rfl

theorem exec_forwardedBurstEnd_of_quiet (quiet : Quiet s) (st : MemStatus) :
    exec (.forwardedBurstEnd st) s = s.endForwardedBurst st := by
  change execForwardedBurstEnd st s = _
  rw [execForwardedBurstEnd, settle_of_quiet quiet, if_neg (by simp [quiet.1])]

theorem forwardedBurst_of_port {p : Burst} (hport : s.bus.port = some p) (own : p.source = .forwarded) :
    s.forwardedBurst = some p := by
  simp [State.forwardedBurst, hport, own]

/-- What the end of a burst makes of its transaction (R3, R9, R10, R20), before the engines and the arbiter. -/
theorem ending_runs (ending : Ending r st s) : Runs (.forwardedBurstEnd st) s fun t =>
    Follows (((completedAs s r st).handStatus r st).memoryErrorRecord r st) t := by
  obtain ⟨quiet, hupstream, late, p, hport, forwarded, kept⟩ := ending
  have hexec : exec (.forwardedBurstEnd st) s = .next (s.endForwarded r st) := by
    rw [exec_forwardedBurstEnd_of_quiet quiet]
    simp [State.endForwardedBurst, forwardedBurst_of_port hport forwarded, hupstream, kept, late]
  refine Runs.of_next hexec ?_
  have h := event_follows s fun u => ((u.freePort.complete (MemStatus.completion st)).handStatus r st).memoryErrorRecord r st
  rw [freePort_complete hupstream] at h
  exact h

theorem watched_iff (w : Window) : r.watched w = true ↔ r.verdict = .watch ∧ r.window = w := by
  simp [TxRecord.watched]

theorem handStatus_of_unwatched (h : r.verdict ≠ .watch) (s : State) (st : MemStatus) : s.handStatus r st = s := by
  simp [State.handStatus, TxRecord.watched, h]

/-- A watched write that is not judged drops what was noted. -/
theorem handStatus_of_dropped (h : r.verdict = .watch) (dropped : st = .error ∨ r.governed = false ∨ s.governor = .setup) :
    s.handStatus r st = if r.window = .cue then s.onCues fun c => { c with noted := [] }
      else if r.window = .report then s.onScan fun c => { c with noted := [] } else s := by
  have hjudged : (st == .ok && r.governed && s.running) = false := by
    rcases dropped with h | h | h <;> simp [h, State.running]
  cases hwindow : r.window <;>
    simp [State.handStatus, TxRecord.watched, h, hwindow, hjudged, State.dropNotedCues, State.dropNotedReports]

theorem handStatus_of_judged (h : r.verdict = .watch) (governed : r.governed = true) (running : s.governor = .running) :
    (r.window = .cue → s.handStatus r .ok = s.judgeCommits) ∧
    (r.window = .report → s.handStatus r .ok = s.makeReports) := by
  constructor <;> intro hwindow <;>
    simp [State.handStatus, TxRecord.watched, h, hwindow, governed, State.running, running]

theorem memoryErrorRecord_of_unsteered (h : ¬ (st = .error ∧ r.scansFace = true ∧ r.verdict = .remap) ∨ s.bus.errorMark = true) :
    s.memoryErrorRecord r st = s := by
  unfold State.memoryErrorRecord
  rw [if_neg]
  rcases h with h | h
  · simpa [and_assoc] using fun a b c => absurd ⟨a, b, c⟩ h
  · simp [h]

theorem memoryErrorRecord_of_failed (h : st = .error ∧ r.scansFace = true ∧ r.verdict = .remap) (first : s.bus.errorMark = false) :
    s.memoryErrorRecord r st = (s.onFaults fun f => f.join
      (s.faultRecord .memoryError none (optNatItem (r.target.map Fin.val)))).onBus fun b => { b with errorMark := true } := by
  obtain ⟨herror, hscans, hremap⟩ := h
  unfold State.memoryErrorRecord
  rw [if_pos (by simp [herror, hscans, hremap, first])]
  rfl

/-- A watched write hands its status on, and raises no MEMORY_ERROR. -/
theorem watched_ending_runs (ending : Ending r st s) (h : r.verdict = .watch) : Runs (.forwardedBurstEnd st) s fun t =>
    Follows ((completedAs s r st).handStatus r st) t := by
  obtain ⟨t, hexec, hfollows⟩ := ending_runs ending
  rw [memoryErrorRecord_of_unsteered (Or.inl (by simp [h]))] at hfollows
  exact ⟨t, hexec, hfollows⟩

/-- Settles O25. -/
theorem forwardedBurstEndCompletes : Obligations.ForwardedBurstEndCompletes := by
  refine ⟨?_, ?_, ?_, ?_, ?_⟩
  · intro st r s ending unwatched done failed
    have hruns := ending_runs ending
    rw [handStatus_of_unwatched unwatched] at hruns
    constructor
    · intro hfailed first
      rw [memoryErrorRecord_of_failed (s := completedAs s r st) hfailed first] at hruns
      exact hruns
    · intro hfailed
      rw [memoryErrorRecord_of_unsteered (s := completedAs s r st) hfailed] at hruns
      exact hruns
  · intro st p s quiet hport forwarded gone
    refine Runs.of_next (t := s.event State.freePort) ?_ (event_follows s State.freePort)
    rw [exec_forwardedBurstEnd_of_quiet quiet, State.endForwardedBurst, forwardedBurst_of_port hport forwarded]
    rcases gone with discarded | idle
    · cases s.bus.upstream <;> simp [discarded]
    · simp [idle]
  · intro st r p s quiet hport forwarded kept hupstream early
    rw [exec_forwardedBurstEnd_of_quiet quiet]
    simp [State.endForwardedBurst, forwardedBurst_of_port hport forwarded, hupstream, kept, early]
  · intro st s quiet other
    have hnone : s.forwardedBurst = none := by
      unfold State.forwardedBurst
      split
      next p hport => exact if_neg (by simp [other p hport])
      next => rfl
    rw [exec_forwardedBurstEnd_of_quiet quiet, State.endForwardedBurst, hnone]
  · intro st r s ending watched dropped done
    obtain ⟨t, hexec, hfollows⟩ := watched_ending_runs ending watched
    rw [handStatus_of_dropped (s := completedAs s r st) watched dropped] at hfollows
    exact ⟨t, hexec, hfollows⟩

end Sys2Proof.Safety
end

section
/-! SUPPORT. Windows and verdicts (01 R4, R7 to R9): the class of a transaction, the verdict on a write in RUNNING.
Settles O14. -/

namespace Sys2Proof.Safety

open Sys2Proof.Machine

variable {l : Layout} {p : Presented}

/-! ## Addresses and windows (R2, R4) -/

theorem wordAddress_eq (a : Word) (j : Nat) : wordAddress a j = (a.toNat + 4 * j) % 2 ^ 32 := by
  simp only [wordAddress, BitVec.toNat_add, BitVec.toNat_ofNat, Nat.add_mod_mod]

theorem forall_burstAddresses {a : Word} {n : Nat} {q : Nat → Prop} :
    (∀ x ∈ burstAddresses a n, q x) ↔ ∀ j, j < n → q (wordAddress a j) := by
  simp [burstAddresses]

theorem exists_burstAddresses {a : Word} {n : Nat} {q : Nat → Prop} :
    (∃ x ∈ burstAddresses a n, q x) ↔ ∃ j, j < n ∧ q (wordAddress a j) := by
  simp [burstAddresses]

theorem holds_iff (l : Layout) (w : LayoutWindow) (a : Nat) : w.holds l a = true ↔ w.base l ≤ a ∧ a < w.base l + w.size l := by
  simp [LayoutWindow.holds]

theorem faceSize_eq (l : Layout) : l.faceSize = 4 * (l.columns * l.tileWidth * (l.rows * l.tileHeight)) :=
  Nat.mul_comm ..

/-- Two windows of a layout that passes its check share no address. -/
theorem window_unique (passed : l.check.1 = .passed) {a : Nat} {v w : LayoutWindow} (hv : v.holds l a = true)
    (hw : w.holds l a = true) : v = w := by
  have apart : windowPairs.find? (windowsOverlap l) = none :=
    ((Layout.check_eq_passed l).mp (Layout.check_of_passed l passed)).2.2.2
  rw [findPair_eq_none] at apart
  have meet (x y : LayoutWindow) (hx : x.holds l a = true) (hy : y.holds l a = true) : windowsOverlap l (x, y) = true := by
    rw [holds_iff] at hx hy
    simp only [windowsOverlap, Bool.and_eq_true, decide_eq_true_eq]
    omega
  rcases Nat.lt_trichotomy v.code.toNat w.code.toNat with h | h | h
  · exact absurd (meet v w hv hw) (by simp [apart v w h])
  · revert h
    cases v <;> cases w <;> simp [LayoutWindow.code]
  · exact absurd (meet w v hw hv) (by simp [apart w v h])

theorem toWindow_inj {v w : LayoutWindow} (h : v.toWindow = w.toWindow) : v = w := by
  cases v <;> cases w <;> simp_all [LayoutWindow.toWindow]

theorem toWindow_ne (w : LayoutWindow) : w.toWindow ≠ .outside ∧ w.toWindow ≠ .straddle := by
  cases w <;> simp [LayoutWindow.toWindow]

/-- A window holds every word of the burst. -/
def HoldsAll (l : Layout) (p : Presented) (w : LayoutWindow) : Prop :=
  ∀ j, j < p.length → w.holds l (wordAddress p.address j) = true

theorem holdsAll_iff (w : LayoutWindow) : (burstAddresses p.address p.length).all (w.holds l) = true ↔ HoldsAll l p w := by
  rw [List.all_eq_true]
  exact forall_burstAddresses

theorem windowOf_of_some {w : LayoutWindow}
    (h : layoutWindows.find? (fun w => (burstAddresses p.address p.length).all (w.holds l)) = some w) :
    windowOf l p = w.toWindow := by
  simp only [windowOf, classify, h]

theorem windowOf_of_none
    (h : layoutWindows.find? (fun w => (burstAddresses p.address p.length).all (w.holds l)) = none) :
    let out := ∀ j, j < p.length → ∀ w : LayoutWindow, ¬ w.holds l (wordAddress p.address j) = true
    (out → windowOf l p = .outside) ∧ (¬ out → windowOf l p = .straddle) := by
  intro out
  have hout : ((burstAddresses p.address p.length).all fun a => layoutWindows.all fun w => !w.holds l a) = true ↔ out := by
    rw [List.all_eq_true, forall_burstAddresses]
    refine forall_congr' fun j => imp_congr_right fun _ => ?_
    rw [List.all_eq_true]
    exact ⟨fun h w => by simpa using h w (mem_layoutWindows w), fun h w _ => by simpa using h w⟩
  simp only [windowOf, classify, h]
  exact ⟨fun h => if_pos (hout.mpr h), fun h => if_neg fun hall => h (hout.mp hall)⟩

/-- R4: the class of a transaction by the windows its words lie in. -/
theorem windowOf_cases (passed : l.check.1 = .passed) (nonempty : 1 ≤ p.length) :
    let lies := fun (w : LayoutWindow) (j : Nat) => w.holds l (wordAddress p.address j) = true
    (∀ w : LayoutWindow, windowOf l p = w.toWindow ↔ ∀ j, j < p.length → lies w j) ∧
    (windowOf l p = .outside ↔ ∀ j, j < p.length → ∀ w, ¬ lies w j) ∧
    (windowOf l p = .straddle ↔
      (∃ j, j < p.length ∧ ∃ w, lies w j) ∧ ∀ w, ∃ j, j < p.length ∧ ¬ lies w j) := by
  intro lies
  cases hfind : layoutWindows.find? fun w => (burstAddresses p.address p.length).all (w.holds l) with
  | some w =>
    have hall : HoldsAll l p w := (holdsAll_iff w).mp
      (List.find?_some (p := fun w : LayoutWindow => (burstAddresses p.address p.length).all (w.holds l)) hfind)
    have hfirst : lies w 0 := hall 0 nonempty
    rw [windowOf_of_some hfind]
    refine ⟨fun v => ⟨fun h => ?_, fun h => ?_⟩, ?_, ?_⟩
    · rw [← toWindow_inj h]
      exact hall
    · rw [window_unique passed hfirst (h 0 nonempty)]
    · exact iff_of_false (toWindow_ne w).1 fun h => h 0 nonempty w hfirst
    · refine iff_of_false (toWindow_ne w).2 fun h => ?_
      obtain ⟨j, hj, out⟩ := h.2 w
      exact out (hall j hj)
  | none =>
    have hnone (w : LayoutWindow) : ¬ HoldsAll l p w := fun h => by
      have := (findWindow_eq_none _).mp hfind w
      rw [(holdsAll_iff w).mpr h] at this
      exact absurd this (by decide)
    have hleaves (w : LayoutWindow) : ∃ j, j < p.length ∧ ¬ lies w j := by
      have := hnone w
      simp only [HoldsAll, not_forall] at this
      obtain ⟨j, hj, out⟩ := this
      exact ⟨j, hj, out⟩
    by_cases hout : ∀ j, j < p.length → ∀ w : LayoutWindow, ¬ w.holds l (wordAddress p.address j) = true
    · rw [(windowOf_of_none hfind).1 hout]
      refine ⟨fun w => iff_of_false (toWindow_ne w).1.symm (hnone w), iff_of_true rfl hout, iff_of_false (by decide) ?_⟩
      rintro ⟨⟨j, hj, w, inside⟩, _⟩
      exact hout j hj w inside
    · rw [(windowOf_of_none hfind).2 hout]
      refine ⟨fun w => iff_of_false (toWindow_ne w).2.symm (hnone w), iff_of_false (by decide) hout, iff_of_true rfl ⟨?_, hleaves⟩⟩
      simp only [not_forall, not_not] at hout
      obtain ⟨j, hj, w, inside⟩ := hout
      exact ⟨j, hj, w, inside⟩

/-! ## The verdict on a write (R7 to R9) -/

variable (s : State)

theorem mem_touchedBuffers (l : Layout) (p : Presented) (k : BufferNo) : k ∈ touchedBuffers l p.address p.length ↔
    ∃ j, j < p.length ∧ l.bufferAddress k ≤ wordAddress p.address j ∧ wordAddress p.address j < l.bufferAddress k + l.faceSize := by
  simp only [touchedBuffers, List.mem_filter, List.mem_finRange, true_and, List.any_eq_true, Bool.and_eq_true,
    decide_eq_true_eq]
  exact exists_burstAddresses

theorem gateOpen_iff : s.gateOpen = true ↔ s.table.gate ≠ .closed := by
  unfold State.gateOpen
  split
  next n h => simp [h]
  next h => simp [h]

theorem bufferWriteRefusal_eq_none (ks : List BufferNo) : s.bufferWriteRefusal ks = none ↔
    (∀ k ∈ ks, s.bufferState k = .free ∨ s.bufferState k = .filling) ∧ (noticeBuffer ∈ ks → s.table.gate ≠ .closed) := by
  unfold State.bufferWriteRefusal
  split
  next h =>
    simp only [List.any_eq_true, Bool.and_eq_true, bne_iff_ne] at h
    obtain ⟨k, hk, notFree, notFilling⟩ := h
    exact iff_of_false (by decide) fun h => (h.1 k hk).elim notFree notFilling
  next h =>
    have hstates : ∀ k ∈ ks, s.bufferState k = .free ∨ s.bufferState k = .filling := fun k hk => by
      by_contra hother
      refine h (List.any_eq_true.mpr ⟨k, hk, ?_⟩)
      simpa [not_or] using hother
    split
    next closed =>
      simp only [List.contains_eq_mem, Bool.and_eq_true, decide_eq_true_eq, Bool.not_eq_true', ← Bool.not_eq_true, gateOpen_iff,
        not_not] at closed
      exact iff_of_false (by decide) fun h => h.2 closed.1 closed.2
    next gated =>
      refine iff_of_true rfl ⟨hstates, fun hmem => ?_⟩
      rw [← gateOpen_iff]
      simpa [hmem] using gated

theorem bufferRefusal_eq_none (who : Initiator) (ks : List BufferNo) : s.bufferRefusal who ks = none ↔
    who = .content ∧ (∀ k ∈ ks, s.bufferState k = .free ∨ s.bufferState k = .filling) ∧
      (noticeBuffer ∈ ks → s.table.gate ≠ .closed) := by
  unfold State.bufferRefusal
  by_cases h : who = .content
  · simp only [h, beq_self_eq_true, if_true, true_and]
    exact bufferWriteRefusal_eq_none s ks
  · simp [h]

theorem writeVerdict_buffer (p : Presented) : s.writeVerdict p .buffer =
    if s.bufferRefusal p.initiator (touchedBuffers s.settings.layout p.address p.length) = none then .pass else .refuse := by
  simp only [State.writeVerdict]
  cases s.bufferRefusal p.initiator (touchedBuffers s.settings.layout p.address p.length) <;> simp

theorem hostMayWrite_iff (a : Nat) : s.hostMayWrite a = true ↔
    (cueWordAt s.settings.layout a < 4 ∨ cueWordAt s.settings.layout a = 7) ∧
      (s.slot (cueSlotAt s.settings.layout a)).state = .empty := by
  simp [State.hostMayWrite]

theorem writeVerdict_cue (p : Presented) : s.writeVerdict p .cue =
    if p.initiator = .content ∧ ∀ j, j < p.length →
      (cueWordAt s.settings.layout (wordAddress p.address j) < 4 ∨ cueWordAt s.settings.layout (wordAddress p.address j) = 7) ∧
        (s.slot (cueSlotAt s.settings.layout (wordAddress p.address j))).state = .empty
    then .watch else .refuse := by
  simp only [State.writeVerdict]
  refine if_congr ?_ rfl rfl
  rw [Bool.and_eq_true, beq_iff_eq, State.cueWriteAllowed, List.all_eq_true, forall_burstAddresses]
  simp only [hostMayWrite_iff]

/-- Settles O14. -/
theorem writeVerdicts : Obligations.WriteVerdicts := by
  refine ⟨wordAddress_eq, ?_, fun _ _ passed nonempty => windowOf_cases passed nonempty, ?_⟩
  · intro l face windows
    have hface : l.faceSize = face := faceSize_eq l
    refine ⟨hface, fun k => by rw [Layout.bufferAddress, hface], rfl, ?_, fun w a => holds_iff l w a, rfl⟩
    simp only [windows, List.map_cons, List.map_nil, LayoutWindow.size, hface]
  · intro p s l touched
    refine ⟨rfl, rfl, rfl, by simp [State.writeVerdict], ?_, ?_, ?_, ?_, fun k => mem_touchedBuffers l p k⟩
    · rw [writeVerdict_cue]
      split <;> simp_all [l]
    · rw [writeVerdict_cue]
      split <;> simp
    · rw [writeVerdict_buffer, ← bufferRefusal_eq_none]
      split <;> simp_all [l, touched]
    · rw [writeVerdict_buffer]
      split <;> simp

end Sys2Proof.Safety
end

section
/-! SUPPORT. The take of a transaction that starts no refresh (01 R2, R5 to R9, R12, R13, R16, R25, R26): what follows an
event changes no verdict, and the record opened is the one of the state before. Settles O13, O15 and O16. -/

namespace Sys2Proof.Safety

open Sys2Proof.Machine

variable {s t : State} {p : Presented}

/-! ## What the record is opened from -/

theorem Follows.slotState (h : Follows s t) (n : SlotNo) : (t.slot n).state = (s.slot n).state :=
  (congrArg SlotRecord.state (h.slots n) :)

theorem Follows.showing (h : Follows s t) : t.face.showing = s.face.showing := (congrArg ShowUnit.showing h.face :)

theorem Follows.running (h : Follows s t) : t.running = s.running := congrArg (· == Governor.running) h.governor

theorem Follows.gateOpen (h : Follows s t) : t.gateOpen = s.gateOpen := by
  rw [State.gateOpen, h.gate]
  rfl

theorem Follows.bufferRefusal (h : Follows s t) (who : Initiator) (ks : List BufferNo) :
    t.bufferRefusal who ks = s.bufferRefusal who ks := by
  simp only [State.bufferRefusal, State.bufferWriteRefusal, h.bufferState, h.gateOpen]

theorem Follows.cueWriteAllowed (h : Follows s t) (a : Word) (n : Nat) : t.cueWriteAllowed a n = s.cueWriteAllowed a n := by
  have hwrites : t.hostMayWrite = s.hostMayWrite := funext fun a => by
    simp only [State.hostMayWrite, h.settings, h.slotState]
  rw [State.cueWriteAllowed, hwrites]
  rfl

theorem Follows.writeVerdict (h : Follows s t) (p : Presented) (w : Window) : t.writeVerdict p w = s.writeVerdict p w := by
  cases w <;> simp only [State.writeVerdict, h.cueWriteAllowed, h.bufferRefusal, h.settings]

theorem Follows.readVerdict (h : Follows s t) (w : Window) : t.readVerdict w = s.readVerdict w := by
  cases w <;> simp only [State.readVerdict, h.showing]

theorem Follows.verdictOf (h : Follows s t) (p : Presented) (w : Window) : t.verdictOf p w = s.verdictOf p w := by
  cases hdirection : p.direction <;>
    simp only [State.verdictOf, State.setupVerdict, hdirection, h.running, h.writeVerdict, h.readVerdict, h.settings]

theorem Follows.targetOf (h : Follows s t) (v : Verdict) : t.targetOf v = s.targetOf v := by
  cases v <;> simp only [State.targetOf, h.showing]

theorem Follows.openRecord (h : Follows s t) (p : Presented) (starts : Bool) : t.openRecord p starts = s.openRecord p starts := by
  simp only [State.openRecord, h.targetOf, h.running, h.verdictOf, h.settings]

/-! ## Steps that follow an event alike before and after it -/

theorem unchanged_symm {xs : List Block} (h : Unchanged xs s t) : Unchanged xs t s :=
  ⟨fun b hb => by cases b <;> exact Eq.symm (h.agree _ hb)⟩

/-- The bus changed alike, but for the engines' requests and the waited-grant count. -/
theorem Follows.onBus (h : Follows s t) {f g : BusState → BusState}
    (path : { g t.bus with port := (f s.bus).port, writeBackReq := (f s.bus).writeBackReq, wipeReq := (f s.bus).wipeReq
                           verifyReq := (f s.bus).verifyReq, waited := (f s.bus).waited } = f s.bus)
    (port : (g t.bus).port = (f s.bus).port) : Follows (s.onBus f) (t.onBus g) where
  blocks := (unchanged_symm (State.onBus_unchanged (xs := [.due, .bus, .table, .cues, .face]) f (by decide) (.refl _ s))).trans
    (State.onBus_unchanged g (by decide) h.blocks)
  slots := h.slots
  ring := h.ring
  buffers := h.buffers
  gate := h.gate
  sweep := h.sweep
  verify := h.verify
  face := h.face
  path := path
  held _ := port
  own hnone b hb := by
    have hport : some b = (f s.bus).port := hb.symm.trans port
    exact nomatch hport.trans hnone

/-- The buffer records changed alike, by a change that neither reads nor sets the progress. -/
theorem Follows.onRecords (h : Follows s t) {f : BufferNo → BufferRecord → BufferRecord}
    (hf : ∀ k q n, f k { q with progress := n } = { f k q with progress := n }) :
    Follows (s.onTable fun b => { b with records := b.records.mapIdx f })
      (t.onTable fun b => { b with records := b.records.mapIdx f }) where
  blocks := (unchanged_symm (State.onTable_unchanged (xs := [.due, .bus, .table, .cues, .face]) _ (by decide) (.refl _ s))).trans
    (State.onTable_unchanged _ (by decide) h.blocks)
  slots := h.slots
  ring := h.ring
  buffers k := by
    have hchanged := hf k (t.table.records.get k) (s.table.records.get k).progress
    rw [h.buffers k] at hchanged
    simp only [State.onTable, Table.get_mapIdx, hchanged]
  gate := h.gate
  sweep hsome := by
    obtain ⟨hsweeping, hrecords⟩ := h.sweep hsome
    exact ⟨hsweeping, by simp only [State.onTable, hrecords]⟩
  verify := h.verify
  face := h.face
  path := h.path
  held := h.held
  own := h.own

/-! ## What the buffers are told of a write (R25, R26) -/

theorem onBuffers_eq (f : BufferRecord → BufferRecord) (ks : List BufferNo) (distinct : ks.Nodup) (s : State) :
    s.onBuffers ks f = s.onTable fun b => { b with records := b.records.mapIdx fun k q => if k ∈ ks then f q else q } := by
  induction ks generalizing s with
  | nil =>
    have hsame : (s.table.records.mapIdx fun k q => if k ∈ ([] : List BufferNo) then f q else q) = s.table.records :=
      Table.ext_get fun k => by simp
    simp only [State.onBuffers, List.foldl_nil, State.onTable, hsame]
  | cons k ks ih =>
    obtain ⟨hk, hks⟩ := List.nodup_cons.mp distinct
    have hboth : ((s.table.records.modify k f).mapIdx fun j q => if j ∈ ks then f q else q) =
        s.table.records.mapIdx fun j q => if j ∈ k :: ks then f q else q := Table.ext_get fun j => by
      by_cases hj : j = k
      · subst hj
        simp [hk]
      · simp [Table.get_modify_of_ne _ _ hj, hj]
    have hrest := ih hks (s.onBuffer k f)
    simp only [State.onBuffers, List.foldl_cons] at hrest ⊢
    rw [hrest]
    simp only [State.onBuffer, State.onTable, hboth]

theorem touchedBuffers_nodup (l : Layout) (a : Word) (n : Nat) : (touchedBuffers l a n).Nodup := by
  unfold touchedBuffers
  exact (List.nodup_finRange 8).filter _

/-- What a buffer's record becomes as the Buffer Table is told of the write. -/
def toldBuffer (s : State) (r : TxRecord) (k : BufferNo) (q : BufferRecord) : BufferRecord :=
  if s.running = true ∧ r.window = .buffer ∧ r.direction = .write ∧
      k ∈ touchedBuffers s.settings.layout r.address r.length then
    match s.bufferRefusal r.initiator (touchedBuffers s.settings.layout r.address r.length) with
    | some cause => q.refusedWrite cause
    | none => q.filled
  else q

theorem tellBuffers_eq (s : State) (r : TxRecord) :
    s.tellBuffers r = s.onTable fun b => { b with records := b.records.mapIdx (toldBuffer s r) } := by
  unfold State.tellBuffers
  split
  next told =>
    simp only [Bool.and_eq_true, beq_iff_eq, and_assoc] at told
    obtain ⟨running, window, direction⟩ := told
    dsimp only
    split
    next cause hcause =>
      have htold (k : BufferNo) (q : BufferRecord) : toldBuffer s r k q =
          if k ∈ touchedBuffers s.settings.layout r.address r.length then q.refusedWrite cause else q := by
        simp only [toldBuffer, running, window, direction, true_and, hcause]
      simp only [onBuffers_eq _ _ (touchedBuffers_nodup ..), funext fun k => funext fun q => htold k q]
    next hnone =>
      have htold (k : BufferNo) (q : BufferRecord) : toldBuffer s r k q =
          if k ∈ touchedBuffers s.settings.layout r.address r.length then q.filled else q := by
        simp only [toldBuffer, running, window, direction, true_and, hnone]
      simp only [onBuffers_eq _ _ (touchedBuffers_nodup ..), funext fun k => funext fun q => htold k q]
  next untold =>
    have hsame : s.table.records.mapIdx (toldBuffer s r) = s.table.records := Table.ext_get fun k => by
      rw [Table.get_mapIdx, toldBuffer, if_neg]
      intro h
      exact untold (by simp [h.1, h.2.1, h.2.2.1])
    simp only [State.onTable, hsame]

theorem toldBuffer_progress (s : State) (r : TxRecord) (k : BufferNo) (q : BufferRecord) (n : Nat) :
    toldBuffer s r k { q with progress := n } = { toldBuffer s r k q with progress := n } := by
  unfold toldBuffer
  split
  · split
    · rfl
    · unfold BufferRecord.filled
      split <;> rfl
  · rfl

theorem Follows.tellBuffers (h : Follows s t) (r : TxRecord) : Follows (s.tellBuffers r) (t.tellBuffers r) := by
  have hsame : toldBuffer t r = toldBuffer s r := funext fun k => funext fun q => by
    simp only [toldBuffer, h.running, h.settings, h.bufferRefusal]
  rw [tellBuffers_eq, tellBuffers_eq, hsame]
  exact h.onRecords (toldBuffer_progress s r)

/-! ## The take -/

theorem takePresented_of_ready (hp : s.bus.presented = some p) (ready : s.portReady = true) :
    s.takePresented = s.takeTransaction p := by
  simp [State.takePresented, hp, ready]

theorem exec_take (takes : Takes p s) : exec (.transactionTake (some p)) s =
    .next ((s.onBus fun b => { b with presented := some p }).takeTransaction p) := by
  obtain ⟨quiet, formed, idle, ready⟩ := takes
  rw [execTransactionTake_some, if_pos formed, settle_of_quiet quiet, if_neg (by simp [quiet.1])]
  rw [State.present, if_neg (by simp [idle]), takePresented_of_ready (s := s.onBus fun b => { b with presented := some p }) rfl ready]

/-- The state a take leaves, before the arbiter: the record opened, and the burst of a forwarded one in flight. -/
def tookAs (s : State) (r : TxRecord) : State :=
  let told := s.tellBuffers r
  if r.verdict.forwarded then takenAs told r (some (r.burst s.settings.layout))
  else if r.verdict = .refuse ∧ r.direction = .read then closedAs (takenAs told r none) r .refused
  else takenAs told r none

theorem port_of_ready (h : s.portReady = true) : s.bus.port = none ∧ s.bus.upstream = none := by
  simp only [State.portReady, Bool.and_eq_true, Option.isNone_iff_eq_none] at h
  exact ⟨h.1.1.1.1, h.1.1.1.2⟩

theorem tellBuffers_bus (s : State) (r : TxRecord) : (s.tellBuffers r).bus = s.bus := by
  rw [tellBuffers_eq]
  rfl

theorem prepare_port (s : State) : s.prepare.bus.port = s.bus.port := by
  have hw : s.wipeChoice.bus = s.bus := (State.wipeChoice_unchanged (xs := [.table]) (by decide) (.refl _ s)).agree .bus (by decide)
  have hv : s.wipeChoice.verifyChoice.bus = s.wipeChoice.bus :=
    (State.verifyChoice_unchanged (xs := [.table]) (by decide) (.refl _ s.wipeChoice)).agree .bus (by decide)
  exact (congrArg BusState.port (hv.trans hw) :)

/-- The record enacted where only an event's following lies between. -/
theorem enact_follows {q : Option Presented} (h : Follows (s.onBus fun b => { b with presented := q }) t) (r : TxRecord) (free : s.bus.port = none) (still : t.bus.port = none) : Follows (tookAs s r) (t.enact r) := by
  have htold : Follows ((s.onBus fun b => { b with upstream := some r, presented := none }).tellBuffers r)
      ((t.onBus fun b => { b with upstream := some r, presented := none }).tellBuffers r) := by
    refine Follows.tellBuffers (s := s.onBus fun b => { b with upstream := some r, presented := none })
      (h.onBus (f := fun b => { b with upstream := some r, presented := none }) ?_ (still.trans free.symm)) r
    exact (congrArg (fun b : BusState => { b with upstream := some r, presented := none }) h.path :)
  have hrecord : (((t.onBus fun b => { b with upstream := some r, presented := none }).tellBuffers r)).bus.upstream = some r := by
    rw [tellBuffers_bus]
    rfl
  have hstill : ((t.onBus fun b => { b with upstream := some r, presented := none }).tellBuffers r).bus.port = none := by
    rw [tellBuffers_bus]
    exact still
  have hopen : takenAs (s.tellBuffers r) r none =
      (s.onBus fun b => { b with upstream := some r, presented := none }).tellBuffers r := by
    rw [tellBuffers_eq, tellBuffers_eq]
    simp only [takenAs, State.onBus, State.onTable, ← free]
    rfl
  unfold State.enact tookAs
  dsimp only
  split
  · have hsettings : t.settings = s.settings := h.settings
    have htaken : takenAs (s.tellBuffers r) r (some (r.burst s.settings.layout)) =
        ((s.onBus fun b => { b with upstream := some r, presented := none }).tellBuffers r).onBus fun b =>
          { b with port := some (r.burst s.settings.layout) } := by
      rw [tellBuffers_eq, tellBuffers_eq]
      rfl
    rw [htaken, hsettings]
    refine htold.onBus ?_ rfl
    exact (congrArg (fun b : BusState => { b with port := some (r.burst s.settings.layout) }) htold.path :)
  · rw [hopen]
    split
    next refused =>
      rw [if_pos (by simpa using refused), complete_eq_closedAs hrecord]
      refine Follows.trans ?_ (arbitrate_follows _)
      refine htold.onBus ?_ ?_
      · exact (congrArg (fun b : BusState => { b with upstream := none, closed := some { r with status := some .refused } })
          htold.path :)
      · rw [tellBuffers_bus, tellBuffers_bus]
        exact still.trans free.symm
    next other =>
      rw [if_neg (by simpa using other)]
      exact htold.trans (arbitrate_follows _)

/-- A transaction that starts no refresh is taken by the verdict of the state it finds. -/
theorem take_runs (takes : Takes p s) (plain : s.startsRefresh p = false) : Runs (.transactionTake (some p)) s fun t =>
    Follows (tookAs s (s.openRecord p false)) t := by
  refine Runs.of_next (exec_take takes) ?_
  have hport := port_of_ready takes.2.2.2
  have hfree : Follows (s.onBus fun b => { b with presented := some p })
    (s.onBus fun b => { b with presented := some p }).prepare := prepare_follows _
  have hstarts : (s.onBus fun b => { b with presented := some p }).startsRefresh p = false := plain
  simp only [State.takeTransaction, hstarts, Bool.false_eq_true, if_false]
  rw [hfree.openRecord]
  have hrecord : (s.onBus fun b => { b with presented := some p }).openRecord p false = s.openRecord p false := rfl
  rw [hrecord]
  exact enact_follows hfree (s.openRecord p false) hport.1 ((prepare_port _).trans hport.1)

end Sys2Proof.Safety
end

section
/-! Takes in SETUP and in RUNNING (01 R6 to R9, R12, R13, R25, R26). Settles O13, O15 and O16. -/

namespace Sys2Proof.Safety

open Sys2Proof.Machine

variable {s : State} {p : Presented}

theorem openRecord_eq {v : Verdict} {target : Option BufferNo} (starts : Bool)
    (hv : s.verdictOf p (windowOf s.settings.layout p) = v) (htarget : s.targetOf v = target) :
    s.openRecord p starts = openedRecord s p v target starts := by
  subst hv htarget
  rfl

theorem targetOf_of_ne {v : Verdict} (h : v ≠ .remap) : s.targetOf v = none := by
  cases v <;> simp_all [State.targetOf]

theorem tookAs_of_forwarded {r : TxRecord} (h : r.verdict.forwarded = true) :
    tookAs s r = takenAs (s.tellBuffers r) r (some (r.burst s.settings.layout)) := if_pos h

theorem tookAs_of_answered {r : TxRecord} (h : r.verdict = .answer) : tookAs s r = takenAs (s.tellBuffers r) r none := by
  simp [tookAs, h, Verdict.forwarded]

theorem tookAs_of_refused_write {r : TxRecord} (h : r.verdict = .refuse) (write : r.direction = .write) :
    tookAs s r = takenAs (s.tellBuffers r) r none := by
  simp [tookAs, h, write, Verdict.forwarded]

theorem tookAs_of_refused_read {r : TxRecord} (h : r.verdict = .refuse) (read : r.direction = .read) :
    tookAs s r = closedAs (takenAs (s.tellBuffers r) r none) r .refused := by
  simp [tookAs, h, read, Verdict.forwarded]

/-- Where the buffers are told nothing, a take is the record opened and the burst granted. -/
theorem tellBuffers_of_untold {r : TxRecord} (h : s.governor = .setup ∨ r.direction = .read) : s.tellBuffers r = s := by
  rcases h with h | h <;> simp [State.tellBuffers, State.running, h]

/-! ## In SETUP (R6) -/

theorem setupVerdict_eq (s : State) (p : Presented) : s.setupVerdict p =
    if p.direction = .read ∧ ∃ j, j < p.length ∧ LayoutWindow.face.holds s.settings.layout (wordAddress p.address j) = true
    then .answer else .pass := by
  unfold State.setupVerdict
  refine if_congr ?_ rfl rfl
  rw [Bool.and_eq_true, beq_iff_eq, List.any_eq_true, exists_burstAddresses]

theorem verdictOf_of_setup (setup : s.governor = .setup) (w : Window) : s.verdictOf p w = s.setupVerdict p := by
  simp [State.verdictOf, State.running, setup]

theorem startsRefresh_of_setup (setup : s.governor = .setup) : s.startsRefresh p = false := by
  simp [State.startsRefresh, State.running, setup]

/-- Settles O13. -/
theorem takeInSetup : Obligations.TakeInSetup := by
  intro p s takes setup facing
  have hruns := take_runs takes (startsRefresh_of_setup setup)
  have hverdict : s.verdictOf p (windowOf s.settings.layout p) = if facing then .answer else .pass :=
    (verdictOf_of_setup setup _).trans (setupVerdict_eq s p)
  constructor
  · intro hfacing
    rw [if_pos hfacing] at hverdict
    rw [openRecord_eq false hverdict (targetOf_of_ne (by decide)), tookAs_of_answered rfl,
      tellBuffers_of_untold (.inl setup)] at hruns
    exact hruns
  · intro hother
    rw [if_neg hother] at hverdict
    rw [openRecord_eq false hverdict (targetOf_of_ne (by decide)), tookAs_of_forwarded rfl,
      tellBuffers_of_untold (.inl setup)] at hruns
    exact hruns

/-! ## A write in RUNNING (R7 to R9, R25, R26) -/

theorem verdictOf_of_running (running : s.governor = .running) (w : Window) :
    (p.direction = .write → s.verdictOf p w = s.writeVerdict p w) ∧
    (p.direction = .read → s.verdictOf p w = s.readVerdict w) := by
  constructor <;> intro hdirection <;> simp [State.verdictOf, State.running, running, hdirection]

theorem startsRefresh_of_write (write : p.direction = .write) : s.startsRefresh p = false := by
  simp [State.startsRefresh, write]

/-- A write is passed, watched or refused. -/
theorem writeVerdict_cases (s : State) (p : Presented) (w : Window) :
    s.writeVerdict p w = .pass ∨ s.writeVerdict p w = .watch ∨ s.writeVerdict p w = .refuse := by
  cases w
  case outside => exact .inl rfl
  case face => exact .inr (.inr rfl)
  case straddle => exact .inr (.inr rfl)
  case buffer =>
    rw [writeVerdict_buffer]
    split <;> simp
  case cue =>
    rw [writeVerdict_cue]
    split <;> simp
  case report =>
    simp only [State.writeVerdict]
    split <;> simp

/-- R26: the cause of a refused write into the buffer area. -/
theorem bufferRefusal_eq_some {who : Initiator} {ks : List BufferNo} {cause : RefusalCause}
    (h : s.bufferRefusal who ks = some cause) : cause =
      if who = .content then
        if ∃ k ∈ ks, s.bufferState k ≠ .free ∧ s.bufferState k ≠ .filling then .state else .gate
      else .initiator := by
  unfold State.bufferRefusal at h
  by_cases hwho : who = .content
  · simp only [hwho, beq_self_eq_true, if_true, State.bufferWriteRefusal, List.any_eq_true, Bool.and_eq_true, bne_iff_ne] at h ⊢
    split at h
    next hstate => rw [if_pos hstate, Option.some.inj h]
    next hstate =>
      rw [if_neg hstate]
      split at h
      · exact (Option.some.inj h).symm
      · cases h
  · simp only [beq_iff_eq, hwho, if_false, Option.some.injEq] at h ⊢
    exact h.symm

/-- What the Buffer Table is told of a write taken in RUNNING. -/
def toldOfWrite (s : State) (p : Presented) : State :=
  let w := windowOf s.settings.layout p
  let touched := touchedBuffers s.settings.layout p.address p.length
  let filled := fun r : BufferRecord => if r.state = .free then { r with state := .filling } else r
  let counted := fun r : BufferRecord =>
    { r with
      refused := min 65535 (r.refused + 1)
      lastRefusal := some
        (if p.initiator = .content then
          if ∃ k ∈ touched, s.bufferState k ≠ .free ∧ s.bufferState k ≠ .filling then .state else .gate
        else .initiator) }
  s.onTable fun b =>
    if w = .buffer then
      { b with records := b.records.mapIdx fun k r =>
          if k ∈ touched then (if s.writeVerdict p w = .pass then filled r else counted r) else r }
    else b

theorem tellBuffers_eq_toldOfWrite {r : TxRecord} (running : s.governor = .running) (write : r.direction = .write)
    (hinitiator : r.initiator = p.initiator) (haddress : r.address = p.address) (hlength : r.length = p.length)
    (hwindow : r.window = windowOf s.settings.layout p) : s.tellBuffers r = toldOfWrite s p := by
  have hrunning : s.running = true := by simp [State.running, running]
  unfold toldOfWrite
  dsimp only
  by_cases hbuffer : windowOf s.settings.layout p = .buffer
  · rw [tellBuffers_eq]
    simp only [hbuffer, if_true]
    refine congrArg (fun f => s.onTable fun b => { b with records := b.records.mapIdx f }) (funext fun k => funext fun q => ?_)
    unfold toldBuffer
    simp only [hrunning, write, hwindow, hbuffer, haddress, hlength, hinitiator, true_and]
    refine ite_congr rfl (fun _ => ?_) fun _ => rfl
    rw [writeVerdict_buffer]
    cases hrefusal : s.bufferRefusal p.initiator (touchedBuffers s.settings.layout p.address p.length) with
    | none => simp [BufferRecord.filled]
    | some cause =>
      simp only [BufferRecord.refusedWrite, bufferRefusal_eq_some hrefusal]
      rfl
  · simp only [hbuffer, if_false]
    simp only [State.tellBuffers, hwindow, beq_eq_false_iff_ne.mpr hbuffer, Bool.and_false, Bool.false_and,
      Bool.false_eq_true, if_false]
    rfl

/-- Settles O15. -/
theorem takeWriteInRunning : Obligations.TakeWriteInRunning := by
  intro p s takes running write w v touched filled counted told
  have hruns := take_runs takes (startsRefresh_of_write write)
  have hverdict : s.verdictOf p w = v := (verdictOf_of_running running w).1 write
  have htold : s.tellBuffers (openedRecord s p v none false) = told :=
    tellBuffers_eq_toldOfWrite (p := p) running write rfl rfl rfl rfl
  have hkept : v ≠ .remap := by
    rcases writeVerdict_cases s p w with h | h | h <;> simp [v, h]
  rw [openRecord_eq false hverdict (targetOf_of_ne hkept)] at hruns
  by_cases refused : v = .refuse
  · rw [tookAs_of_refused_write refused write, htold] at hruns
    simpa only [if_pos refused] using hruns
  · have forwarded : v.forwarded = true := by
      rcases writeVerdict_cases s p w with h | h | h
      · simp [v, h, Verdict.forwarded]
      · simp [v, h, Verdict.forwarded]
      · exact absurd h refused
    rw [tookAs_of_forwarded forwarded, htold] at hruns
    simp only [if_neg refused]
    exact hruns

/-! ## A read in RUNNING (R7, R12, R13) -/

theorem readVerdict_face_of_buffer {b : BufferNo} {n : SlotNo} (h : s.face.showing = .buffer b n) :
    s.readVerdict .face = .remap ∧ s.targetOf .remap = some b := by
  simp [State.readVerdict, State.targetOf, h]

theorem readVerdict_face_of_none (h : ∀ b n, s.face.showing ≠ .buffer b n) : s.readVerdict .face = .answer := by
  cases hshowing : s.face.showing with
  | buffer b n => exact absurd hshowing (h b n)
  | blank n => simp [State.readVerdict, hshowing]
  | black => simp [State.readVerdict, hshowing]

theorem readVerdict_of_other {w : Window} (h : w ≠ .straddle) (h' : w ≠ .face) : s.readVerdict w = .pass := by
  cases w <;> simp_all [State.readVerdict]

/-- Settles O16. -/
theorem takeReadInRunning : Obligations.TakeReadInRunning := by
  intro p s takes running read plain l w
  have hruns := take_runs takes plain
  have hverdict : s.verdictOf p w = s.readVerdict w := (verdictOf_of_running running w).2 read
  have hopen {v : Verdict} {target : Option BufferNo} (hv : s.readVerdict w = v) (htarget : s.targetOf v = target) :
      s.openRecord p false = openedRecord s p v target false := openRecord_eq false (hverdict.trans hv) htarget
  have huntold (v : Verdict) (target : Option BufferNo) : s.tellBuffers (openedRecord s p v target false) = s :=
    tellBuffers_of_untold (.inr read)
  refine ⟨fun straddle => ?_, fun notStraddle notFace => ?_, fun b n face showing => ?_, fun face dark => ?_⟩
  · rw [hopen (v := .refuse) (by rw [straddle]; simp only [State.readVerdict]) (targetOf_of_ne (by decide)), tookAs_of_refused_read rfl read, huntold] at hruns
    exact hruns
  · rw [hopen (readVerdict_of_other notStraddle notFace) (targetOf_of_ne (by decide)), tookAs_of_forwarded rfl, huntold] at hruns
    exact hruns
  · obtain ⟨hremap, htarget⟩ := readVerdict_face_of_buffer showing
    rw [hopen (by rw [face, hremap]) htarget, tookAs_of_forwarded rfl, huntold] at hruns
    exact hruns
  · rw [hopen (by rw [face, readVerdict_face_of_none dark]) (targetOf_of_ne (by decide)), tookAs_of_answered rfl, huntold] at hruns
    exact hruns

end Sys2Proof.Safety
end

section
/-! The engines' choices and requests (01 R15, 02 R36, R37, R41, R42, 03 R64). Settles O35. -/

namespace Sys2Proof.Safety

open Sys2Proof.Machine

variable {s t : State}

/-! ## The wipe engine's choice (R36) -/

theorem wipeChoice_of_busy {k : BufferNo} (h : s.table.sweeping = some k) : s.wipeChoice = s := by
  simp [State.wipeChoice, h]

theorem nextWipe_eq_some_iff (s : State) (k : BufferNo) :
    s.nextWipe = some k ↔ s.bufferState k = .wiping ∧ ∀ j, j < k → s.bufferState j ≠ .wiping := by
  have horder : (List.finRange 8).Pairwise (· < ·) := List.pairwise_lt_finRange 8
  rw [State.nextWipe, find?_eq_some_of_pairwise (fun _ _ => Fin.lt_asymm) horder]
  simp only [List.mem_finRange, true_and, beq_iff_eq, true_implies]
  exact and_congr_right fun _ => ⟨fun h j hj wiping => h j wiping hj, fun h j wiping hj => h j hj wiping⟩

theorem wipeChoice_of_idle (h : s.table.sweeping = none) : s.wipeChoice.table.sweeping = s.nextWipe ∧
    ∀ k, s.wipeChoice.table.records.get k = if s.nextWipe = some k then { s.table.records.get k with progress := 0 }
      else s.table.records.get k := by
  cases hnext : s.nextWipe with
  | none => simp [State.wipeChoice, h, hnext]
  | some j =>
    refine ⟨?_, fun k => ?_⟩
    · simp only [State.wipeChoice, h, hnext]
      rfl
    · simp only [State.wipeChoice, h, hnext, State.onBuffer_record, State.onTable_table, Option.some.injEq]
      by_cases hk : k = j
      · simp [hk]
      · simp [hk, Ne.symm hk]

theorem wipeChoice_verifying (s : State) : s.wipeChoice.table.verifying = s.table.verifying := by
  unfold State.wipeChoice
  split <;> rfl

/-! ## The verify engine's choice (R41) -/

theorem verifyChoice_records (s : State) : s.verifyChoice.table.records = s.table.records := by
  unfold State.verifyChoice
  split <;> rfl

theorem verifyChoice_of_busy {w : VerifyWork} (h : s.table.verifying = some w) : s.verifyChoice = s := by
  simp [State.verifyChoice, h]

theorem verifyChoice_of_idle (h : s.table.verifying = none) :
    s.verifyChoice.table.verifying = s.cues.queue.findSome? s.verifyOf := by
  cases hnext : s.cues.queue.findSome? s.verifyOf <;> simp [State.verifyChoice, h, hnext]

theorem wipeChoice_verifyOf (s : State) : s.wipeChoice.verifyOf = s.verifyOf := funext fun e => by
  simp only [State.verifyOf, wipeChoice_bufferState]

/-- What the two engines work on after their choices. -/
theorem prepare_choices (s : State) :
    s.prepare.table.gate = s.table.gate ∧
    s.prepare.table.sweeping = s.wipeChoice.table.sweeping ∧
    s.prepare.table.records = s.wipeChoice.table.records ∧
    (∀ w, s.table.verifying = some w → s.prepare.table.verifying = some w) ∧
    (s.table.verifying = none → s.prepare.table.verifying = s.cues.queue.findSome? s.verifyOf) := by
  refine ⟨(prepare_follows s).gate, verifyChoice_sweeping _, verifyChoice_records _, fun w hw => ?_, fun hnone => ?_⟩
  · have hwork := (wipeChoice_verifying s).trans hw
    exact (congrArg (fun u : State => u.table.verifying) (verifyChoice_of_busy hwork)).trans hwork
  · refine (verifyChoice_of_idle ((wipeChoice_verifying s).trans hnone)).trans ?_
    rw [wipeChoice_cues, wipeChoice_verifyOf]

/-- The cue nearest the head that waits for the engine. -/
theorem findSome_verifyOf {before : List QueueEntry} {e : QueueEntry} {rest : List QueueEntry} {k : BufferNo} {x : Half}
    (hqueue : s.cues.queue = before ++ e :: rest) (first : ∀ q ∈ before, ¬ WaitsForVerify s q)
    (hk : e.buffer = some k) (hx : e.expected = some x) (verifying : s.bufferState k = .verifying) :
    s.cues.queue.findSome? s.verifyOf = some { buffer := k, expected := x, wordsRead := 0, running := 0xFFFF#16 } := by
  have hbefore : before.findSome? s.verifyOf = none :=
    List.findSome?_eq_none_iff.mpr fun q hq => verifyOf_eq_none.mpr (first q hq)
  have he : s.verifyOf e = some { buffer := k, expected := x, wordsRead := 0, running := 0xFFFF#16 } :=
    verifyOf_eq_some.mpr ⟨hk, hx, verifying, rfl, rfl⟩
  rw [hqueue, List.findSome?_append, hbefore, List.findSome?_cons, he]
  rfl

/-! ## The requests (R15, R37, R42, R64) -/

theorem raised_of_some {current next : Option OwnRequest} {busy : Bool} {q : OwnRequest} (h : current = some q) :
    raised current busy next = some q := by
  simp [raised, h]

theorem raised_of_none {current next : Option OwnRequest} {busy : Bool} (h : current = none) :
    raised current busy next = if busy = true then none else next := by
  simp [raised, h]

/-- The bus after the engines have asked: only their requests have moved. -/
theorem prepare_requests (s : State) : s.prepare.bus = { s.bus with
    writeBackReq := raised s.bus.writeBackReq (s.bus.inFlight .writeBack)
      (s.cues.writeBack.head?.map (writeBackRequest s.settings.layout))
    wipeReq := raised s.bus.wipeReq (s.bus.inFlight .wipe)
      (s.prepare.table.sweeping.map fun k => wipeRequest s.settings.layout k (s.prepare.table.records.get k).progress)
    verifyReq := raised s.bus.verifyReq (s.bus.inFlight .verify)
      (s.prepare.table.verifying.map (verifyRequest s.settings.layout)) } := by
  have frame : Unchanged [.table] s s.wipeChoice.verifyChoice :=
    State.verifyChoice_unchanged (by decide) (State.wipeChoice_unchanged (by decide) (.refl _ s))
  have hbus : s.wipeChoice.verifyChoice.bus = s.bus := frame.agree .bus (by decide)
  have hcues : s.wipeChoice.verifyChoice.cues = s.cues := frame.agree .cues (by decide)
  have hsettings : s.wipeChoice.verifyChoice.settings = s.settings := frame.agree .settings (by decide)
  have hprepare := prepare_bus s
  rw [hbus, hcues, hsettings] at hprepare
  exact hprepare

/-- Settles O35. -/
theorem enginesChooseAndRequest : Obligations.EnginesChooseAndRequest := by
  intro s t l
  obtain ⟨hgate, hsweeping, hrecords, hverifying, hidle⟩ := prepare_choices s
  have hbus := prepare_requests s
  have hwriteBack := congrArg BusState.writeBackReq hbus
  have hwipe := congrArg BusState.wipeReq hbus
  have hverify := congrArg BusState.verifyReq hbus
  dsimp only at hwriteBack hwipe hverify
  refine ⟨State.prepare_unchanged (by decide) (.refl _ s), ?_, hgate, ?_, ?_, hverifying, ?_, ?_, ?_, ?_, ?_, ?_, ?_⟩
  · rw [show t.bus = s.prepare.bus from rfl, hbus]
  · intro k hk
    rw [wipeChoice_of_busy hk] at hsweeping hrecords
    exact ⟨hsweeping.trans hk, hrecords⟩
  · intro hnone
    obtain ⟨hchosen, hprogress⟩ := wipeChoice_of_idle hnone
    refine ⟨fun k => ?_, fun k => ?_⟩
    · rw [hsweeping, hchosen]
      exact nextWipe_eq_some_iff s k
    · rw [hsweeping, hrecords, hchosen]
      exact hprogress k
  · intro hnone
    rw [hidle hnone]
    refine ⟨fun before e rest k x hqueue first hk hx verifying => findSome_verifyOf hqueue first hk hx verifying, fun hno => ?_⟩
    exact List.findSome?_eq_none_iff.mpr fun e he => verifyOf_eq_none.mpr (hno e he)
  · exact fun q hq => hwriteBack.trans (raised_of_some hq)
  · exact fun q hq => hwipe.trans (raised_of_some hq)
  · exact fun q hq => hverify.trans (raised_of_some hq)
  · intro hnone
    rw [raised_of_none hnone] at hwriteBack
    refine ⟨fun h => hwriteBack.trans ?_, fun n rest free hlist => hwriteBack.trans ?_⟩
    · rcases h with h | h <;> simp [h]
    · simp [free, hlist, l]
  · intro hnone
    rw [raised_of_none hnone] at hwipe
    refine ⟨fun h => hwipe.trans ?_, fun k free hk => hwipe.trans ?_⟩
    · rcases h with h | h
      · simp [h]
      · simp [show s.prepare.table.sweeping = none from h]
    · simp [free, show s.prepare.table.sweeping = some k from hk, l, t]
  · intro hnone
    rw [raised_of_none hnone] at hverify
    refine ⟨fun h => hverify.trans ?_, fun w free hw => hverify.trans ?_⟩
    · rcases h with h | h
      · simp [h]
      · simp [show s.prepare.table.verifying = none from h]
    · simp [free, show s.prepare.table.verifying = some w from hw, l]

end Sys2Proof.Safety
end

section
/-! SUPPORT. The arbiter (01 R15 to R18): its grants, and the port as the end of a burst leaves it. Settles O36. -/

namespace Sys2Proof.Safety

open Sys2Proof.Machine

variable {s t : State}

/-! ## The arbiter, case by case (R16, R17) -/

theorem canTake_iff (s : State) :
    s.canTake = true ↔ s.bus.presented.isSome = true ∧ s.bus.upstream = none ∧ s.lines.fbrst = false := by
  simp [State.canTake, and_assoc]

theorem arbitrate_of_held (h : s.lines.rstn = true ∨ s.bus.port.isSome = true) : s.arbitrate = s :=
  if_pos (by simpa using h)

section
variable (hrst : s.lines.rstn = false) (hport : s.bus.port = none)
include hrst hport

theorem arbitrate_of_claim (claims : s.bus.guardClaims = true) : s.arbitrate = s.addDue .guardClaim := by
  simp [State.arbitrate, hrst, hport, claims]

theorem arbitrate_of_waiting (unclaimed : s.bus.guardClaims = false) (waits : s.canTake = true) :
    s.arbitrate = s.addDue .takePresented := by
  simp [State.arbitrate, hrst, hport, unclaimed, waits]

theorem arbitrate_of_own (unclaimed : s.bus.guardClaims = false) (none : s.canTake = false) : s.arbitrate = s.grantOwn := by
  simp [State.arbitrate, hrst, hport, unclaimed, none]

end

theorem grantOwn_writeBack {r : OwnRequest} {n : SlotNo} {rest : List SlotNo} (hr : s.bus.writeBackReq = some r)
    (hlist : s.cues.writeBack = n :: rest) : s.grantOwn = writeBackGranted s r n rest := by
  simp only [State.grantOwn, hr, State.grantWriteBack, hlist]
  rfl

theorem grantOwn_wipe {r : OwnRequest} (hw : s.bus.writeBackReq = none) (hr : s.bus.wipeReq = some r) :
    s.grantOwn = s.onBus fun b => { b with port := some r.burst, wipeReq := none, waited := 0 } := by
  simp only [State.grantOwn, hw, hr]

theorem grantOwn_verify {r : OwnRequest} (hw : s.bus.writeBackReq = none) (hp : s.bus.wipeReq = none)
    (hr : s.bus.verifyReq = some r) :
    s.grantOwn = s.onBus fun b => { b with port := some r.burst, verifyReq := none, waited := 0 } := by
  simp only [State.grantOwn, hw, hp, hr]

theorem anyRequest_eq_false {b : BusState} :
    b.anyRequest = false ↔ b.writeBackReq = none ∧ b.wipeReq = none ∧ b.verifyReq = none := by
  simp [BusState.anyRequest, and_assoc]

theorem grantOwn_none (h : s.bus.anyRequest = false) : s.grantOwn = s := by
  obtain ⟨hw, hp, hv⟩ := anyRequest_eq_false.mp h
  simp only [State.grantOwn, hw, hp, hv]

theorem grantOwn_waited (s : State) : s.grantOwn.bus.waited ≤ s.bus.waited := by
  unfold State.grantOwn
  split
  · unfold State.grantWriteBack
    split
    · exact Nat.zero_le _
    · simp only [State.onBus_bus, BusState.withdrawn]
      split <;> simp
  · exact Nat.zero_le _
  · exact Nat.zero_le _
  · exact Nat.le_refl _

theorem arbitrate_waited (s : State) : s.arbitrate.bus.waited ≤ s.bus.waited := by
  unfold State.arbitrate
  split
  · exact Nat.le_refl _
  · split
    · exact Nat.le_refl _
    · split
      · exact Nat.le_refl _
      · exact grantOwn_waited s

/-! ## The port as the arbiter leaves it -/

theorem portServed_grantOwn (held : EnginesHeld s) (hport : s.bus.port = none) (none : s.canTake = false) :
    PortServed s.grantOwn := by
  have hwaits : ¬ (s.bus.presented.isSome = true ∧ s.bus.upstream = Option.none ∧ s.lines.fbrst = false) := fun h => by
    rw [(canTake_iff s).mpr h] at none
    cases none
  cases hw : s.bus.writeBackReq with
  | some r =>
    have hreq := held.work.writeBackReq.resolve_left (by simp [hw])
    rw [hw] at hreq
    cases hlist : s.cues.writeBack with
    | nil => simp [hlist] at hreq
    | cons n rest =>
      rw [hlist] at hreq
      have hengine : r.engine = .writeBack := by
        rw [Option.some.inj hreq]
        rfl
      rw [grantOwn_writeBack hw hlist]
      refine ⟨fun h => (by cases h), fun b hb => ?_⟩
      cases hb
      exact ⟨by simp, hwaits, rfl, fun _ => rfl, by simp [hengine]⟩
  | none =>
    cases hp : s.bus.wipeReq with
    | some r =>
      have hreq := held.work.wipeReq.resolve_left (by simp [hp])
      rw [hp] at hreq
      have hengine : r.engine = .wipe := by
        obtain ⟨k, -, hk⟩ := Option.map_eq_some_iff.mp hreq.symm
        rw [← hk]
        rfl
      rw [grantOwn_wipe hw hp]
      refine ⟨fun h => (by cases h), fun b hb => ?_⟩
      cases hb
      exact ⟨by simp [OwnRequest.burst], hwaits, rfl, fun _ => hw, by simp [OwnRequest.burst, hengine]⟩
    | none =>
      cases hv : s.bus.verifyReq with
      | some r =>
        rw [grantOwn_verify hw hp hv]
        refine ⟨fun h => (by cases h), fun b hb => ?_⟩
        cases hb
        exact ⟨by simp [OwnRequest.burst], hwaits, rfl, fun _ => hw, fun _ => ⟨hw, hp⟩⟩
      | none =>
        have hnone := anyRequest_eq_false.mpr ⟨hw, hp, hv⟩
        rw [grantOwn_none hnone]
        exact ⟨fun _ => .inl ⟨hnone, hwaits⟩, fun b hb => by simp [hport] at hb⟩

theorem mem_insertDue (es : List DueEvent) (e : DueEvent) : e ∈ insertDue es e := by
  unfold insertDue
  split
  · assumption
  · simp

theorem portServed_arbitrate (held : EnginesHeld s) (hrst : s.lines.rstn = false) (hport : s.bus.port = none) :
    PortServed s.arbitrate := by
  cases hclaims : s.bus.guardClaims with
  | true =>
    rw [arbitrate_of_claim hrst hport hclaims]
    exact ⟨fun _ => .inr (.inl ⟨hclaims, mem_insertDue _ _⟩), fun b hb => nomatch hport.symm.trans hb⟩
  | false =>
    cases hwaits : s.canTake with
    | true =>
      rw [arbitrate_of_waiting hrst hport hclaims hwaits]
      exact ⟨fun _ => .inr (.inr ⟨hclaims, (canTake_iff s).mp hwaits, mem_insertDue _ _⟩),
        fun b hb => nomatch hport.symm.trans hb⟩
    | false =>
      rw [arbitrate_of_own hrst hport hclaims hwaits]
      exact portServed_grantOwn held hport hwaits

theorem portServed_event {f : State → State} (held : EnginesHeld (f s)) (hrst : (f s).lines.rstn = false)
    (hport : (f s).bus.port = none) : PortServed (s.event f) := by
  have frame : Unchanged [.due, .face] (f s) ((f s).settlePair s.headSlot) :=
    State.settlePair_unchanged _ (by decide) (.refl _ _)
  have hbus : ((f s).settlePair s.headSlot).bus = (f s).bus := frame.agree .bus (by decide)
  have hlines : ((f s).settlePair s.headSlot).prepare.lines = (f s).lines :=
    (State.prepare_unchanged (xs := [.due, .bus, .table, .face]) (by decide) (frame.mono (by decide))).agree .lines (by decide)
  refine portServed_arbitrate (held.settlePair _).prepare ?_ ?_
  · rw [hlines, hrst]
  · rw [prepare_port, hbus, hport]

end Sys2Proof.Safety
end

section
/-! SUPPORT. What follows an event, block by block (`State.after`): the write-back list, the port and the waited-grant
count, and the verify engine's work, which stands or was given up. -/

namespace Sys2Proof.Safety

open Sys2Proof.Machine

variable {r s t u : State}

/-! ## Through the pair lines and the engines' choices -/

/-- The state the arbiter finds after an event. -/
def readied (before u : State) : State := (u.settlePair before.headSlot).prepare

theorem after_eq (before u : State) : State.after before u = (readied before u).arbitrate := rfl

theorem settlePair_frame (u : State) (before : Option SlotNo) : Unchanged [.due, .face] u (u.settlePair before) :=
  State.settlePair_unchanged before (by decide) (.refl _ u)

theorem settlePair_bus (u : State) (before : Option SlotNo) : (u.settlePair before).bus = u.bus :=
  (settlePair_frame u before).agree .bus (by decide)

theorem settlePair_table (u : State) (before : Option SlotNo) : (u.settlePair before).table = u.table :=
  (settlePair_frame u before).agree .table (by decide)

theorem settlePair_cues (u : State) (before : Option SlotNo) : (u.settlePair before).cues = u.cues :=
  (settlePair_frame u before).agree .cues (by decide)

theorem settlePair_settings (u : State) (before : Option SlotNo) : (u.settlePair before).settings = u.settings :=
  (settlePair_frame u before).agree .settings (by decide)

theorem readied_frame (before u : State) : Unchanged [.due, .bus, .table, .face] u (readied before u) :=
  State.prepare_unchanged (by decide) ((settlePair_frame u _).mono (by decide))

theorem readied_cues (before u : State) : (readied before u).cues = u.cues :=
  (readied_frame before u).agree .cues (by decide)

theorem readied_bus (before u : State) : (readied before u).bus = { u.bus with
    writeBackReq := (readied before u).bus.writeBackReq, wipeReq := (readied before u).bus.wipeReq
    verifyReq := (readied before u).bus.verifyReq } := by
  have h := prepare_requests (u.settlePair before.headSlot)
  rw [settlePair_bus] at h
  rw [readied, h]

theorem readied_port (before u : State) : (readied before u).bus.port = u.bus.port :=
  (congrArg BusState.port (readied_bus before u) :)

theorem readied_waited (before u : State) : (readied before u).bus.waited = u.bus.waited :=
  (congrArg BusState.waited (readied_bus before u) :)

theorem readied_verifyReq (before u : State) : (readied before u).bus.verifyReq =
    raised u.bus.verifyReq (u.bus.inFlight .verify)
      ((readied before u).table.verifying.map (verifyRequest u.settings.layout)) := by
  have h := congrArg BusState.verifyReq (prepare_requests (u.settlePair before.headSlot))
  rw [settlePair_bus, settlePair_settings] at h
  exact h

/-- What a verify engine that was idle has begun, it has begun afresh. -/
theorem readied_verifying_fresh (before : State) (idle : u.table.verifying = none) {v : VerifyWork}
    (hv : (readied before u).table.verifying = some v) : v.wordsRead = 0 ∧ v.running = 0xFFFF#16 := by
  have hidle : (u.settlePair before.headSlot).table.verifying = none := by rw [settlePair_table, idle]
  obtain ⟨-, -, -, -, hchosen⟩ := prepare_choices (u.settlePair before.headSlot)
  have hfound := (hchosen hidle).symm.trans hv
  obtain ⟨e, -, he⟩ := List.exists_of_findSome?_eq_some hfound
  obtain ⟨-, -, -, hread, hrunning⟩ := verifyOf_eq_some.mp he
  exact ⟨hread, hrunning⟩

/-! ## Through the arbiter -/

theorem arbitrate_table (s : State) : s.arbitrate.table = s.table :=
  (State.arbitrate_unchanged (xs := [.due, .bus, .cues]) (by decide) (.refl _ s)).agree .table (by decide)

/-- Each thing the arbiter may do. -/
theorem arbitrate_cases {P : State → Prop} (s : State) (same : P s) (due : ∀ e, P (s.addDue e))
    (writeBack : ∀ r n rest, s.bus.port = none → s.bus.writeBackReq = some r → s.cues.writeBack = n :: rest →
      P (writeBackGranted s r n rest))
    (empty : s.bus.port = none → s.cues.writeBack = [] →
      P (s.onBus fun b => ({ b with writeBackReq := none } : BusState).withdrawn))
    (wipe : ∀ r, s.bus.port = none → s.bus.wipeReq = some r →
      P (s.onBus fun b => { b with port := some r.burst, wipeReq := none, waited := 0 }))
    (verify : ∀ r, s.bus.port = none → s.bus.verifyReq = some r →
      P (s.onBus fun b => { b with port := some r.burst, verifyReq := none, waited := 0 })) : P s.arbitrate := by
  unfold State.arbitrate
  split
  · exact same
  next free =>
    have hport : s.bus.port = none := by
      simp only [Bool.or_eq_true, not_or, Option.not_isSome_iff_eq_none] at free
      exact free.2
    split
    · exact due _
    · split
      · exact due _
      · unfold State.grantOwn
        split
        next r hr =>
          unfold State.grantWriteBack
          split
          next n rest hlist => exact writeBack r n rest hport hr hlist
          next hlist => exact empty hport hlist
        next r _ hr => exact wipe r hport hr
        next r _ _ hr => exact verify r hport hr
        next => exact same

/-- R63, R64: the write-back list stands, or its head has just been granted. -/
theorem arbitrate_writeBack (s : State) : WriteBackListIs s.arbitrate s.cues.writeBack := by
  refine arbitrate_cases (P := fun t => WriteBackListIs t s.cues.writeBack) s (.inl rfl) (fun _ => .inl rfl) ?_
    (fun _ _ => .inl rfl) (fun _ _ _ => .inl rfl) fun _ _ _ => .inl rfl
  exact fun r n rest _ _ hlist => .inr ⟨_, rfl, n, rfl, hlist⟩

theorem arbitrate_verifyReq (s : State) : s.arbitrate.bus.verifyReq = s.bus.verifyReq ∨
    s.arbitrate.bus.verifyReq = none ∧ ∀ q, s.bus.verifyReq = some q → s.arbitrate.bus.port = some q.burst := by
  refine arbitrate_cases (P := fun t => t.bus.verifyReq = s.bus.verifyReq ∨
      t.bus.verifyReq = none ∧ ∀ q, s.bus.verifyReq = some q → t.bus.port = some q.burst)
    s (.inl rfl) (fun _ => .inl rfl) (fun _ _ _ _ _ _ => .inl rfl) (fun _ _ => .inl ?_) (fun _ _ _ => .inl rfl) fun r _ hr => .inr ⟨rfl, fun q hq => ?_⟩
  · exact BusState.withdrawn_verifyReq _
  · cases hr.symm.trans hq
    rfl

/-! ## After an event -/

theorem after_writeBack (before u : State) : WriteBackListIs (State.after before u) u.cues.writeBack := by
  have h := arbitrate_writeBack (readied before u)
  rw [readied_cues] at h
  exact h

theorem after_table (before u : State) : (State.after before u).table = (readied before u).table := arbitrate_table _

theorem after_port (before : State) {p : Burst} (h : u.bus.port = some p) : (State.after before u).bus.port = some p :=
  ((after_follows before u).held (by simp [h])).trans h

theorem after_waited (before : State) (h : u.bus.port.isSome = true) :
    (State.after before u).bus.waited = u.bus.waited := by
  rw [after_eq, arbitrate_of_held (.inr (by rw [readied_port]; exact h)), readied_waited]

/-- The request of a verify engine that was idle is for what it has just begun. -/
theorem after_verifyReq_fresh (before : State) (unasked : u.bus.verifyReq = none) {q : OwnRequest}
    (hq : (State.after before u).bus.verifyReq = some q) :
    ∃ v, (State.after before u).table.verifying = some v ∧ q = verifyRequest u.settings.layout v := by
  have hreadied : (readied before u).bus.verifyReq = some q := by
    rcases arbitrate_verifyReq (readied before u) with h | ⟨h, -⟩
    · exact h.symm.trans hq
    · exact nomatch h.symm.trans hq
  rw [readied_verifyReq, raised_of_none unasked] at hreadied
  split at hreadied
  · cases hreadied
  · obtain ⟨v, hv, rfl⟩ := Option.map_eq_some_iff.mp hreadied
    exact ⟨v, (congrArg BufferTable.verifying (after_table before u)).trans hv, rfl⟩

/-- A pending verify request stands or has just been granted. -/
theorem after_verifyReq (before : State) {q : OwnRequest} (hq : u.bus.verifyReq = some q) :
    (State.after before u).bus.verifyReq = some q ∨ (State.after before u).bus.port = some q.burst := by
  have hreadied : (readied before u).bus.verifyReq = some q := by rw [readied_verifyReq, raised_of_some hq]
  rcases arbitrate_verifyReq (readied before u) with h | ⟨-, h⟩
  · exact .inl (h.trans hreadied)
  · exact .inr (h q hreadied)

/-! ## The verify engine (R41, R45) -/

/-- An operation that leaves the engine idle, its request withdrawn and its burst discarded, has given it up. -/
theorem VerifyGivenUp.after (before : State) (idle : u.table.verifying = none) (unasked : u.bus.verifyReq = none)
    (port : u.bus.port = s.bus.port.map fun p => if p.source = .own .verify then { p with discarded := true } else p)
    (crcs : ∀ k, (u.table.records.get k).lastCrc = (s.table.records.get k).lastCrc) (layout : u.settings.layout = s.settings.layout) :
    VerifyGivenUp s (State.after before u) := by
  refine ⟨fun v hv => ?_, fun q hq => ?_, fun b hb own => ?_, fun k => ?_⟩
  · rw [after_table] at hv
    exact readied_verifying_fresh before idle hv
  · rw [← layout]
    exact after_verifyReq_fresh before unasked hq
  · refine after_port before ?_
    rw [port, hb, Option.map_some, if_pos own]
  · refine Eq.trans ?_ (crcs k)
    exact (congrArg BufferRecord.lastCrc ((after_follows before u).buffers k) :)

/-- An operation that leaves the engine's work, request and burst leaves it going on. -/
theorem VerifyStands.after (before : State) (work : u.table.verifying = s.table.verifying)
    (request : u.bus.verifyReq = s.bus.verifyReq) (port : u.bus.port = s.bus.port) :
    VerifyStands s (State.after before u) := by
  refine ⟨fun v hv => ?_, fun q hq => ?_, fun b hb _ => ?_⟩
  · have hu : u.table.verifying = some v := work.trans hv
    exact ((after_follows before u).verify (by simp [hu])).trans hu
  · exact after_verifyReq before (request.trans hq)
  · exact after_port before (port.trans hb)

end Sys2Proof.Safety
end

section
/-! SUPPORT. Operations on the cues, each said once: a slot's outcome and its place in the write-back list (R61 to R63), a
queued cue's end and the release of its buffer (R29, R45), and what they leave of the verify engine. -/

namespace Sys2Proof.Safety

open Sys2Proof.Machine

variable {s t u : State} {n m : SlotNo}

/-! ## A slot's record and the write-back list -/

theorem onSlot_slot (s : State) (n m : SlotNo) (f : SlotRecord → SlotRecord) :
    (s.onSlot n f).slot m = if m = n then f (s.slot n) else s.slot m := Table.get_modify ..

theorem onSlot_slot_of_ne (s : State) (f : SlotRecord → SlotRecord) (h : m ≠ n) : (s.onSlot n f).slot m = s.slot m := by
  rw [onSlot_slot, if_neg h]

theorem listSlot_slot (s : State) (n m : SlotNo) :
    (s.listSlot n).slot m = if m = n then { s.slot n with listed := true } else s.slot m := by
  unfold State.listSlot
  split
  next listed =>
    by_cases hm : m = n
    · subst hm
      rw [if_pos rfl, ← listed]
    · rw [if_neg hm]
  next => exact onSlot_slot s n m fun r => { r with listed := true }

theorem listSlot_writeBack (s : State) (n : SlotNo) : (s.listSlot n).cues.writeBack = listedAfter s [n] := by
  unfold State.listSlot listedAfter
  split
  next listed => simp [listed]
  next unlisted => simp [unlisted]; rfl

/-- The slot's record after an outcome that leaves its place in the list to the list. -/
theorem setOutcome_slot (s : State) (n m : SlotNo) {f : SlotRecord → SlotRecord} :
    (s.setOutcome n f).slot m = if m = n then { f (s.slot n) with listed := true } else s.slot m := by
  rw [State.setOutcome, listSlot_slot]
  by_cases hm : m = n
  · rw [if_pos hm, if_pos hm, onSlot_slot, if_pos rfl]
  · rw [if_neg hm, if_neg hm, onSlot_slot_of_ne _ _ hm]

theorem setOutcome_slot_self (s : State) (n : SlotNo) (f : SlotRecord → SlotRecord) :
    (s.setOutcome n f).slot n = { f (s.slot n) with listed := true } := by
  rw [setOutcome_slot, if_pos rfl]

theorem setOutcome_slot_of_ne (s : State) (f : SlotRecord → SlotRecord) (h : m ≠ n) :
    (s.setOutcome n f).slot m = s.slot m := by
  rw [setOutcome_slot, if_neg h]

theorem setOutcome_writeBack (s : State) (n : SlotNo) {f : SlotRecord → SlotRecord}
    (hf : (f (s.slot n)).listed = (s.slot n).listed) : (s.setOutcome n f).cues.writeBack = listedAfter s [n] := by
  rw [State.setOutcome, listSlot_writeBack]
  have hlisted : ((s.onSlot n f).slot n).listed = (s.slot n).listed := by rw [onSlot_slot, if_pos rfl, hf]
  simp only [listedAfter, List.filter_cons, List.filter_nil, hlisted]
  rfl

/-- Slots of the list are read in their turn. -/
theorem listedAfter_setOutcome (s : State) (n : SlotNo) {f : SlotRecord → SlotRecord} {ms : List SlotNo}
    (hf : (f (s.slot n)).listed = (s.slot n).listed) (apart : n ∉ ms) :
    listedAfter (s.setOutcome n f) ms = listedAfter s (n :: ms) := by
  have hothers : (ms.filter fun m => !((s.setOutcome n f).slot m).listed) = ms.filter fun m => !(s.slot m).listed := by
    refine List.filter_congr fun m hm => ?_
    have hne : m ≠ n := fun h => apart (by rw [← h]; exact hm)
    rw [setOutcome_slot_of_ne _ _ hne]
  rw [listedAfter, setOutcome_writeBack s n hf, hothers, listedAfter, listedAfter, List.append_assoc, ← List.filter_append]
  rfl

theorem listedAfter_congr (hlist : t.cues.writeBack = s.cues.writeBack) (ns : List SlotNo)
    (hslots : ∀ n ∈ ns, (t.slot n).listed = (s.slot n).listed) : listedAfter t ns = listedAfter s ns := by
  rw [listedAfter, listedAfter, hlist, List.filter_congr fun n hn => by rw [hslots n hn]]

theorem setOutcome_frame (s : State) (n : SlotNo) (f : SlotRecord → SlotRecord) : Unchanged [.cues] s (s.setOutcome n f) :=
  State.setOutcome_unchanged n f (by decide) (.refl _ s)

theorem setOutcome_queue (s : State) (n : SlotNo) (f : SlotRecord → SlotRecord) :
    (s.setOutcome n f).cues.queue = s.cues.queue := by
  rw [State.setOutcome, State.listSlot]
  split <;> rfl

/-- The record of a slot that closes. -/
def SlotRecord.closed (r : SlotRecord) (o : CueOutcome) (reason : Option Reason) (clock : Option Nat) : SlotRecord :=
  { r with state := .closing, outcome := some o, reason := reason, noticeTime := none
           endStamp := some { clock := clock, duration := r.shownTime }, listed := true }

theorem closeSlot_slot (s : State) (n m : SlotNo) (o : CueOutcome) (reason : Option Reason) :
    (s.closeSlot n o reason).slot m = if m = n then SlotRecord.closed (s.slot n) o reason s.clockNow else s.slot m :=
  setOutcome_slot ..

theorem closeSlot_slot_of_ne (s : State) (o : CueOutcome) (reason : Option Reason) (h : m ≠ n) :
    (s.closeSlot n o reason).slot m = s.slot m := by
  rw [closeSlot_slot, if_neg h]

theorem closeSlot_writeBack (s : State) (n : SlotNo) (o : CueOutcome) (reason : Option Reason) :
    (s.closeSlot n o reason).cues.writeBack = listedAfter s [n] := setOutcome_writeBack s n rfl

theorem closeSlot_frame (s : State) (n : SlotNo) (o : CueOutcome) (reason : Option Reason) :
    Unchanged [.cues] s (s.closeSlot n o reason) := setOutcome_frame ..

theorem closeSlot_queue (s : State) (n : SlotNo) (o : CueOutcome) (reason : Option Reason) :
    (s.closeSlot n o reason).cues.queue = s.cues.queue := setOutcome_queue ..

/-- What follows an event moves of a slot's record only its place in the list. -/
theorem Follows.slot (h : Follows s t) (n : SlotNo) : t.slot n = { s.slot n with listed := (t.slot n).listed } := by
  rw [← h.slots n]

/-! ## The verify engine given up (R41, R45) -/

theorem stopVerify_bus (s : State) : s.stopVerify.bus = verifyGivenUp s.bus := by
  change (s.bus.withdrawVerify).discardOwn .verify = _
  unfold BusState.withdrawVerify BusState.withdrawn BusState.discardOwn verifyGivenUp
  cases hv : s.bus.verifyReq with
  | none => simp [hv]
  | some q => cases hw : s.bus.writeBackReq <;> cases hp : s.bus.wipeReq <;> simp_all [BusState.anyRequest]

theorem isVerifying_iff {k : BufferNo} : s.isVerifying k = true ↔ ∃ w, s.table.verifying = some w ∧ w.buffer = k := by
  unfold State.isVerifying
  cases s.table.verifying <;> simp

/-- The entry's buffer is the one being verified. -/
def VerifiedFor (s : State) (e : QueueEntry) : Prop := ∃ w, s.table.verifying = some w ∧ e.buffer = some w.buffer

/-- R29: a buffer that a cue leaves without having reached the face. -/
def releasedRecord (k : BufferNo) (r : BufferRecord) : BufferRecord :=
  if r.state = .verifying ∨ r.state = .staged then (if k = noticeBuffer then r.toWiping else r.toState .retiring) else r

theorem releaseBuffer_eq (s : State) (k : BufferNo) :
    s.releaseBuffer k = (s.abortVerify k).onBuffer k (releasedRecord k) := by
  unfold State.releaseBuffer
  refine congrArg ((s.abortVerify k).onBuffer k) (funext fun r => ?_)
  simp only [releasedRecord, Bool.or_eq_true, beq_iff_eq]

theorem releaseEntryBuffer_frame (s : State) (e : QueueEntry) : Unchanged [.bus, .table] s (s.releaseEntryBuffer e) :=
  State.releaseEntryBuffer_unchanged e (by decide) (.refl _ s)

theorem releaseEntryBuffer_record (s : State) (e : QueueEntry) (k : BufferNo) :
    (s.releaseEntryBuffer e).table.records.get k =
      if e.buffer = some k then releasedRecord k (s.table.records.get k) else s.table.records.get k := by
  unfold State.releaseEntryBuffer
  cases hb : e.buffer with
  | none => simp
  | some j =>
    simp only [releaseBuffer_eq, State.onBuffer_record, abortVerify_records, Option.some.injEq]
    by_cases hk : k = j
    · subst hk
      simp
    · simp [hk, Ne.symm hk]

theorem releaseEntryBuffer_of_verified {e : QueueEntry} (h : VerifiedFor s e) :
    (s.releaseEntryBuffer e).bus = verifyGivenUp s.bus ∧ (s.releaseEntryBuffer e).table.verifying = none := by
  obtain ⟨w, hw, hb⟩ := h
  have habort : s.abortVerify w.buffer = s.stopVerify := if_pos (isVerifying_iff.mpr ⟨w, hw, rfl⟩)
  simp only [State.releaseEntryBuffer, hb, releaseBuffer_eq, habort]
  exact ⟨stopVerify_bus s, rfl⟩

theorem releaseEntryBuffer_of_unverified {e : QueueEntry} (h : ¬ VerifiedFor s e) :
    (s.releaseEntryBuffer e).bus = s.bus ∧ (s.releaseEntryBuffer e).table.verifying = s.table.verifying := by
  unfold State.releaseEntryBuffer
  split
  next k hk =>
    have habort : s.abortVerify k = s := if_neg fun hv => by
      obtain ⟨w, hw, rfl⟩ := isVerifying_iff.mp hv
      exact h ⟨w, hw, hk⟩
    rw [releaseBuffer_eq, habort]
    exact ⟨rfl, rfl⟩
  next => exact ⟨rfl, rfl⟩

/-! ## A queued cue ends (R54, R58, R66) -/

section
variable (s : State) (e : QueueEntry) (o : CueOutcome)

/-- The cue leaves the queue and its slot closes, before its buffer is released. -/
theorem dequeued_closed_frame : Unchanged [.cues] s ((s.dequeue e.slot).closeSlot e.slot o none) :=
  (State.dequeue_unchanged (xs := [.cues]) e.slot (by decide) (.refl _ s)).trans (closeSlot_frame ..)

theorem endQueued_cues : (s.endQueued e o).cues = ((s.dequeue e.slot).closeSlot e.slot o none).cues :=
  (releaseEntryBuffer_frame _ e).agree .cues (by decide)

theorem endQueued_queue : (s.endQueued e o).cues.queue = s.cues.queue.filter fun q => q.slot != e.slot := by
  rw [endQueued_cues, closeSlot_queue]
  rfl

theorem endQueued_slot (m : SlotNo) : (s.endQueued e o).slot m =
    if m = e.slot then SlotRecord.closed (s.slot e.slot) o none s.clockNow else s.slot m := by
  rw [State.slot, endQueued_cues]
  exact closeSlot_slot (s.dequeue e.slot) e.slot m o none

theorem endQueued_writeBack : (s.endQueued e o).cues.writeBack = listedAfter s [e.slot] := by
  rw [endQueued_cues]
  exact closeSlot_writeBack (s.dequeue e.slot) e.slot o none

theorem endQueued_record (k : BufferNo) : (s.endQueued e o).table.records.get k =
    if e.buffer = some k then releasedRecord k (s.table.records.get k) else s.table.records.get k := by
  have htable : ((s.dequeue e.slot).closeSlot e.slot o none).table = s.table :=
    (dequeued_closed_frame s e o).agree .table (by decide)
  rw [State.endQueued, releaseEntryBuffer_record, htable]

theorem endQueued_frame : Unchanged [.bus, .table, .cues] s (s.endQueued e o) :=
  ((dequeued_closed_frame s e o).mono (by decide)).trans ((releaseEntryBuffer_frame _ e).mono (by decide))

variable {s e}

theorem endQueued_of_verified (h : VerifiedFor s e) :
    (s.endQueued e o).bus = verifyGivenUp s.bus ∧ (s.endQueued e o).table.verifying = none := by
  have hframe := dequeued_closed_frame s e o
  have hbus : ((s.dequeue e.slot).closeSlot e.slot o none).bus = s.bus := hframe.agree .bus (by decide)
  have htable : ((s.dequeue e.slot).closeSlot e.slot o none).table = s.table := hframe.agree .table (by decide)
  have hverified : VerifiedFor ((s.dequeue e.slot).closeSlot e.slot o none) e := by
    rw [VerifiedFor, htable]
    exact h
  rw [← hbus]
  exact releaseEntryBuffer_of_verified hverified

theorem endQueued_of_unverified (h : ¬ VerifiedFor s e) :
    (s.endQueued e o).bus = s.bus ∧ (s.endQueued e o).table.verifying = s.table.verifying := by
  have hframe := dequeued_closed_frame s e o
  have hbus : ((s.dequeue e.slot).closeSlot e.slot o none).bus = s.bus := hframe.agree .bus (by decide)
  have htable : ((s.dequeue e.slot).closeSlot e.slot o none).table = s.table := hframe.agree .table (by decide)
  have hunverified : ¬ VerifiedFor ((s.dequeue e.slot).closeSlot e.slot o none) e := by
    rw [VerifiedFor, htable]
    exact h
  rw [← hbus, ← htable]
  exact releaseEntryBuffer_of_unverified hunverified

end

end Sys2Proof.Safety
end

section
/-! The ends of a cue's counts (03 R57 to R59). Settles O38. -/

namespace Sys2Proof.Safety

open Sys2Proof.Machine

variable {s t u : State} {n : SlotNo}

/-! ## The port and the buffers as a queued cue ends -/

theorem verifyGivenUp_port_of_other {b : BusState} {p : Burst} (h : b.port = some p) (other : p.source ≠ .own .verify) :
    (verifyGivenUp b).port = some p := by
  simp [verifyGivenUp, h, other]

theorem endQueued_port_of_other (s : State) (e : QueueEntry) (o : CueOutcome) {p : Burst} (h : s.bus.port = some p)
    (other : p.source ≠ .own .verify) : (s.endQueued e o).bus.port = some p := by
  by_cases hv : VerifiedFor s e
  · rw [(endQueued_of_verified o hv).1]
    exact verifyGivenUp_port_of_other h other
  · rw [(endQueued_of_unverified o hv).1, h]

theorem releasedRecord_lastCrc (k : BufferNo) (r : BufferRecord) : (releasedRecord k r).lastCrc = r.lastCrc := by
  unfold releasedRecord
  split
  · split <;> rfl
  · rfl

theorem endQueued_lastCrc (s : State) (e : QueueEntry) (o : CueOutcome) (k : BufferNo) :
    ((s.endQueued e o).table.records.get k).lastCrc = (s.table.records.get k).lastCrc := by
  rw [endQueued_record]
  split
  · exact releasedRecord_lastCrc ..
  · rfl

theorem endQueued_bufferState_of_other (s : State) {e : QueueEntry} (o : CueOutcome) {k : BufferNo} (h : e.buffer ≠ some k) :
    (s.endQueued e o).bufferState k = s.bufferState k := by
  rw [State.bufferState, endQueued_record, if_neg h]
  rfl

/-- R29: where the cue's buffer goes. -/
theorem endQueued_bufferState (s : State) {e : QueueEntry} (o : CueOutcome) {k : BufferNo} (h : e.buffer = some k)
    (moves : s.bufferState k = .verifying ∨ s.bufferState k = .staged) :
    (s.endQueued e o).bufferState k = if k = noticeBuffer then .wiping else .retiring := by
  have hstate : (s.table.records.get k).state = .verifying ∨ (s.table.records.get k).state = .staged := moves
  rw [State.bufferState, endQueued_record, if_pos h, releasedRecord, if_pos hstate]
  split <;> rfl

/-- R45: the verify of the ended cue's buffer is given up. -/
theorem after_endQueued_givenUp (before : State) {e : QueueEntry} (o : CueOutcome) (h : VerifiedFor s e) :
    VerifyGivenUp s (State.after before (s.endQueued e o)) := by
  obtain ⟨hbus, hidle⟩ := endQueued_of_verified o h
  refine .after before hidle (by rw [hbus]; rfl) (by rw [hbus]; rfl) (endQueued_lastCrc s e o) ?_
  rw [(endQueued_frame s e o).agree .settings (by decide)]

theorem after_endQueued_stands (before : State) {e : QueueEntry} (o : CueOutcome) (h : ¬ VerifiedFor s e) :
    VerifyStands s (State.after before (s.endQueued e o)) := by
  obtain ⟨hbus, hwork⟩ := endQueued_of_unverified o h
  exact .after before hwork (by rw [hbus]) (by rw [hbus])

/-! ## The rows -/

theorem onEntry_holdOff (s : State) (n : SlotNo) :
    (s.onEntry n fun e => if e.holdOff == 1 then { e with holdOff := 0 } else e) = s.onCues fun c =>
      { c with queue := c.queue.map fun e => if e.slot = n ∧ e.holdOff = 1 then { e with holdOff := 0 } else e } := by
  unfold State.onEntry
  refine congrArg (fun f : QueueEntry → QueueEntry => s.onCues fun c => { c with queue := c.queue.map f }) (funext fun e => ?_)
  by_cases hslot : e.slot = n <;> by_cases hlast : e.holdOff = 1 <;> simp [hslot, hlast]

theorem expireCue_of_last {e : QueueEntry} (hfind : s.cues.queue.find? (fun q => q.slot == n) = some e)
    (kind : e.kind ≠ .notice) (last : e.lifetime = 1) : s.expireCue n = State.after s (s.endQueued e .expired) := by
  have hentry : s.entryOf n = some e := hfind
  simp only [State.expireCue, hentry, QueueEntry.lastStep, last]
  rw [if_pos (by simp [kind])]
  rfl

theorem cueExpiry_runs {e : QueueEntry} (due : Due (.cueExpiry n) s)
    (hfind : s.cues.queue.find? (fun q => q.slot == n) = some e) (kind : e.kind ≠ .notice) (last : e.lifetime = 1) :
    Runs (.cueExpiry n) s fun t =>
      t.cues.queue = s.cues.queue.filter (fun q => q.slot != n) ∧
      (t.slot n).state = .closing ∧ (t.slot n).outcome = some .expired ∧ (t.slot n).reason = none ∧
      (t.slot n).showStamp = (s.slot n).showStamp ∧
      (t.slot n).endStamp = some { clock := s.clockNow, duration := (s.slot n).shownTime } ∧
      (∀ m, m ≠ n → { t.slot m with listed := (s.slot m).listed } = s.slot m) ∧
      (∀ k, e.buffer = some k → k ≠ 7 →
        (s.bufferState k = .verifying ∨ s.bufferState k = .staged) → t.bufferState k = .retiring) ∧
      (∀ k, e.buffer ≠ some k → t.bufferState k = s.bufferState k) ∧
      (∀ b, s.bus.port = some b → b.source ≠ .own .verify → t.bus.port = some b) ∧
      ∀ w, s.table.verifying = some w →
        (e.buffer = some w.buffer → VerifyGivenUp s t ∧
          (s.bus.port.isSome = true → t.bus.waited = (verifyGivenUp s.bus).waited)) ∧
        (e.buffer ≠ some w.buffer → VerifyStands s t) := by
  have hslot : e.slot = n := by simpa using List.find?_some hfind
  subst hslot
  refine Runs.of_due (e := .cueExpiry e.slot) due ?_
  have hexpire : (s.dropDue (.cueExpiry e.slot)).takeDue (.cueExpiry e.slot) =
      State.after (s.dropDue (.cueExpiry e.slot)) ((s.dropDue (.cueExpiry e.slot)).endQueued e .expired) :=
    expireCue_of_last (s := s.dropDue (.cueExpiry e.slot)) hfind kind last
  rw [hexpire]
  have hfollows := after_follows (s.dropDue (.cueExpiry e.slot)) ((s.dropDue (.cueExpiry e.slot)).endQueued e .expired)
  have hclosed := hfollows.slot e.slot
  rw [endQueued_slot, if_pos rfl] at hclosed
  refine ⟨hfollows.ring.2.1.trans (endQueued_queue ..), ?_, ?_, ?_, ?_, ?_, fun m hm => ?_, fun k hk hnotice moves => ?_,
    fun k hk => ?_, fun b hb other => ?_, fun w hw => ⟨fun hbuffer => ⟨?_, fun held => ?_⟩, fun hbuffer => ?_⟩⟩
  · rw [hclosed]; rfl
  · rw [hclosed]; rfl
  · rw [hclosed]; rfl
  · rw [hclosed]; rfl
  · rw [hclosed]; rfl
  · have hother := hfollows.slot m
    rw [endQueued_slot, if_neg hm] at hother
    rw [hother]
    rfl
  · rw [hfollows.bufferState, endQueued_bufferState (s.dropDue (.cueExpiry e.slot)) .expired hk moves]
    exact if_neg hnotice
  · rw [hfollows.bufferState, endQueued_bufferState_of_other (s.dropDue (.cueExpiry e.slot)) .expired hk]
    rfl
  · exact after_port _ (endQueued_port_of_other _ e .expired hb other)
  · exact after_endQueued_givenUp (s := s.dropDue (.cueExpiry e.slot)) _ .expired ⟨w, hw, hbuffer⟩
  · have hbus := (endQueued_of_verified (s := s.dropDue (.cueExpiry e.slot)) .expired ⟨w, hw, hbuffer⟩).1
    rw [after_waited _ (by rw [hbus, verifyGivenUp, Option.isSome_map]; exact held), hbus]
    rfl
  · refine after_endQueued_stands (s := s.dropDue (.cueExpiry e.slot)) _ .expired fun h => ?_
    obtain ⟨v, hv, hb⟩ := h
    cases hw.symm.trans hv
    exact hbuffer hb

theorem handNoticeEnd_eq (s : State) :
    s.handNoticeEnd = s.onFace fun f => { f with noticeEnd := s.noticeShowing || f.noticeEnd } := by
  unfold State.handNoticeEnd
  cases h : s.noticeShowing <;> simp [State.onFace]

theorem noticeTimeEnd_runs (due : Due (.noticeTimeEnd n) s) (active : (s.slot n).state = .active)
    (last : (s.slot n).noticeTime = some 1) : Runs (.noticeTimeEnd n) s fun t =>
      Unchanged [.due, .cues, .face] s t ∧ (t.slot n).noticeTime = some 0 ∧
      t.cues.queue = s.cues.queue ∧ (∀ m, m ≠ n → t.slot m = s.slot m) ∧
      t.face = { s.face with noticeEnd := s.noticeShowing || s.face.noticeEnd } := by
  refine Runs.of_due (e := .noticeTimeEnd n) due ?_
  have hactive : ((s.dropDue (.noticeTimeEnd n)).slot n).state = .active := active
  have hlast : ((s.dropDue (.noticeTimeEnd n)).slot n).noticeTime = some 1 := last
  have hend : (s.dropDue (.noticeTimeEnd n)).takeDue (.noticeTimeEnd n) =
      ((s.dropDue (.noticeTimeEnd n)).onSlot n fun r => { r with noticeTime := some 0 }).handNoticeEnd := by
    simp only [State.takeDue, State.endNoticeTime, hactive, hlast]
    rfl
  rw [hend, handNoticeEnd_eq]
  refine ⟨State.onFace_unchanged _ (by decide) (State.onSlot_unchanged _ _ (by decide)
    (State.dropDue_unchanged _ (by decide) (.refl _ s))), ?_, rfl, fun m hm => ?_, rfl⟩
  · exact congrArg SlotRecord.noticeTime ((onSlot_slot (s.dropDue (.noticeTimeEnd n)) n n _).trans (if_pos rfl))
  · exact onSlot_slot_of_ne (s.dropDue (.noticeTimeEnd n)) _ hm

/-- Settles O38. -/
theorem cueCountsEnd : Obligations.CueCountsEnd := by
  refine ⟨fun n s due => ?_, fun n e s due hfind kind last => cueExpiry_runs due hfind kind last,
    fun n s due active last => noticeTimeEnd_runs due active last⟩
  refine Runs.of_due (e := .holdOffEnd n) due ?_
  have hfollows := event_follows (s.dropDue (.holdOffEnd n)) fun t =>
    t.onEntry n fun e => if e.holdOff == 1 then { e with holdOff := 0 } else e
  rw [onEntry_holdOff] at hfollows
  exact hfollows

end Sys2Proof.Safety
end

section
/-! SUPPORT. A commit judged (03 R51 to R54), case by case, and what it leaves of the bus: the bus as it stands, or with the
verify given up (R41, R45). -/

namespace Sys2Proof.Safety

open Sys2Proof.Machine

variable {s t u : State} {n : SlotNo} {w7 : Word}

/-! ## The cases -/

theorem judgeCommit_of_rejected {reason : Reason}
    (h : s.commitCheck (cueKindOf (s.cueShadow n 0)) (cueBufferOf (s.cueShadow n 0)) = some reason) :
    s.judgeCommit n w7 = s.rejectCommit n (cueKindOf (s.cueShadow n 0)) (cueBufferOf (s.cueShadow n 0)) w7 reason := by
  simp only [State.judgeCommit, h]

theorem judgeCommit_of_withdraw (hkind : cueKindOf (s.cueShadow n 0) = some .withdraw)
    (h : s.commitCheck (some .withdraw) (cueBufferOf (s.cueShadow n 0)) = none) :
    s.judgeCommit n w7 = s.acceptWithdraw n (cueBufferOf (s.cueShadow n 0)) w7 := by
  simp only [State.judgeCommit, hkind, h]

theorem judgeCommit_of_accepted {kind : CueKind} (hkind : cueKindOf (s.cueShadow n 0) = some kind) (other : kind ≠ .withdraw)
    (h : s.commitCheck (some kind) (cueBufferOf (s.cueShadow n 0)) = none) :
    s.judgeCommit n w7 = s.acceptCue n kind (cueBufferOf (s.cueShadow n 0)) w7 := by
  simp only [State.judgeCommit, hkind, h]

/-- Every commit falls under one of the three. -/
theorem judgeCommit_cases {P : State → Prop} (rejected : ∀ kind k reason, P (s.rejectCommit n kind k w7 reason))
    (withdrawn : ∀ k, P (s.acceptWithdraw n k w7)) (accepted : ∀ kind k, P (s.acceptCue n kind k w7)) :
    P (s.judgeCommit n w7) := by
  cases hcheck : s.commitCheck (cueKindOf (s.cueShadow n 0)) (cueBufferOf (s.cueShadow n 0)) with
  | some reason =>
    rw [judgeCommit_of_rejected hcheck]
    exact rejected ..
  | none =>
    cases hkind : cueKindOf (s.cueShadow n 0) with
    | none =>
      rw [hkind] at hcheck
      cases hcheck
    | some kind =>
      rw [hkind] at hcheck
      by_cases hw : kind = .withdraw
      · subst hw
        rw [judgeCommit_of_withdraw hkind hcheck]
        exact withdrawn _
      · rw [judgeCommit_of_accepted hkind hw hcheck]
        exact accepted ..

/-! ## A cue accepted (R53) -/

/-- The cue in its slot and in the queue, before its buffer and the verify engine are told. -/
def placedCue (s : State) (n : SlotNo) (kind : CueKind) (k : BufferNo) (w7 : Word) : State :=
  (s.onSlot n fun r => r.committed .pending (some kind) k w7).onCues fun c =>
    { c with queue := QueueEntry.place c.queue (s.newEntry n kind k) }

theorem acceptCue_eq (s : State) (n : SlotNo) (kind : CueKind) (k : BufferNo) (w7 : Word) :
    s.acceptCue n kind k w7 =
      ((placedCue s n kind k w7).handBuffer (s.newEntry n kind k)).noticeTakesVerify (s.newEntry n kind k) := rfl

theorem handBuffer_frame (s : State) (e : QueueEntry) : Unchanged [.table] s (s.handBuffer e) :=
  State.handBuffer_unchanged e (by decide) (.refl _ s)

theorem handBuffer_verifying (s : State) (e : QueueEntry) : (s.handBuffer e).table.verifying = s.table.verifying := by
  unfold State.handBuffer
  split <;> rfl

theorem handBuffer_record (s : State) (e : QueueEntry) (j : BufferNo) : (s.handBuffer e).table.records.get j =
    if e.buffer = some j then
      { s.table.records.get j with
        state := if e.expected.isSome then .verifying else .staged, slot := some e.slot }
    else s.table.records.get j := by
  unfold State.handBuffer
  cases hb : e.buffer with
  | none => simp
  | some k =>
    simp only [State.onBuffer_record, Option.some.injEq]
    by_cases hj : j = k
    · subst hj
      simp
    · simp [hj, Ne.symm hj]

/-- A NOTICE with a content check, while the engine is at work (R41). -/
def TakesVerify (s : State) (e : QueueEntry) : Prop :=
  e.kind = .notice ∧ e.expected.isSome = true ∧ s.table.verifying.isSome = true

theorem noticeTakesVerify_of_takes {e : QueueEntry} (h : TakesVerify s e) : s.noticeTakesVerify e = s.stopVerify := by
  obtain ⟨hkind, hexpected, hbusy⟩ := h
  exact if_pos (by simp [hkind, hexpected, hbusy])

theorem noticeTakesVerify_of_not {e : QueueEntry} (h : ¬ TakesVerify s e) : s.noticeTakesVerify e = s := by
  unfold State.noticeTakesVerify
  rw [if_neg]
  simpa [TakesVerify, and_assoc] using h

section
variable (s) (n) (w7) (kind : CueKind) (k : BufferNo)

theorem placedCue_frame : Unchanged [.cues] s (placedCue s n kind k w7) :=
  State.onCues_unchanged _ (by decide) (State.onSlot_unchanged _ _ (by decide) (.refl _ s))

/-- The cue placed and its buffer handed over, before the verify engine is told. -/
def handedCue : State := (placedCue s n kind k w7).handBuffer (s.newEntry n kind k)

theorem handedCue_frame : Unchanged [.table, .cues] s (handedCue s n w7 kind k) :=
  ((placedCue_frame s n w7 kind k).mono (by decide)).trans ((handBuffer_frame _ _).mono (by decide))

theorem handedCue_bus : (handedCue s n w7 kind k).bus = s.bus := (handedCue_frame s n w7 kind k).agree .bus (by decide)

theorem handedCue_verifying : (handedCue s n w7 kind k).table.verifying = s.table.verifying := handBuffer_verifying ..

theorem acceptCue_of_takes {e : QueueEntry} (he : e = s.newEntry n kind k) (h : TakesVerify s e) :
    s.acceptCue n kind k w7 = (handedCue s n w7 kind k).stopVerify := by
  subst he
  refine noticeTakesVerify_of_takes (s := handedCue s n w7 kind k) ?_
  rw [TakesVerify, handedCue_verifying]
  exact h

theorem acceptCue_of_not_takes {e : QueueEntry} (he : e = s.newEntry n kind k) (h : ¬ TakesVerify s e) :
    s.acceptCue n kind k w7 = handedCue s n w7 kind k := by
  subst he
  refine noticeTakesVerify_of_not (s := handedCue s n w7 kind k) ?_
  rw [TakesVerify, handedCue_verifying]
  exact h

end

theorem acceptCue_bus (s : State) (n : SlotNo) (kind : CueKind) (k : BufferNo) (w7 : Word) :
    (s.acceptCue n kind k w7).bus = s.bus ∨ (s.acceptCue n kind k w7).bus = verifyGivenUp s.bus := by
  by_cases h : TakesVerify s (s.newEntry n kind k)
  · rw [acceptCue_of_takes s n w7 kind k rfl h, stopVerify_bus, handedCue_bus]
    exact .inr rfl
  · rw [acceptCue_of_not_takes s n w7 kind k rfl h, handedCue_bus]
    exact .inl rfl

/-! ## A WITHDRAW accepted (R54) -/

/-- The notice told: the queued one withdrawn, or the end of the showing one pending. -/
def noticeWithdrawn (s : State) : State :=
  match s.queuedNotice with
  | some e => s.endQueued e .withdrawn
  | none => s.handNoticeEnd

/-- The WITHDRAW's own slot afterwards. -/
def withdrawClosed (s : State) (n : SlotNo) (k : BufferNo) (w7 : Word) : State :=
  (s.onSlot n fun r => r.committed .closing (some .withdraw) k w7).closeSlot n .done none

theorem acceptWithdraw_eq (s : State) (n : SlotNo) (k : BufferNo) (w7 : Word) :
    s.acceptWithdraw n k w7 = withdrawClosed (noticeWithdrawn s) n k w7 := rfl

theorem withdrawClosed_frame (s : State) (n : SlotNo) (k : BufferNo) (w7 : Word) :
    Unchanged [.cues] s (withdrawClosed s n k w7) :=
  (State.onSlot_unchanged (xs := [.cues]) _ _ (by decide) (.refl _ s)).trans (closeSlot_frame ..)

theorem acceptWithdraw_bus_eq (s : State) (n : SlotNo) (k : BufferNo) (w7 : Word) :
    (s.acceptWithdraw n k w7).bus = (noticeWithdrawn s).bus := (withdrawClosed_frame _ n k w7).agree .bus (by decide)

theorem noticeWithdrawn_of_queued {e : QueueEntry} (h : s.queuedNotice = some e) :
    noticeWithdrawn s = s.endQueued e .withdrawn := by
  simp only [noticeWithdrawn, h]

theorem noticeWithdrawn_of_none (h : s.queuedNotice = none) : noticeWithdrawn s = s.handNoticeEnd := by
  simp only [noticeWithdrawn, h]

theorem endQueued_bus (s : State) (e : QueueEntry) (o : CueOutcome) :
    (s.endQueued e o).bus = s.bus ∨ (s.endQueued e o).bus = verifyGivenUp s.bus := by
  by_cases h : VerifiedFor s e
  · exact .inr (endQueued_of_verified o h).1
  · exact .inl (endQueued_of_unverified o h).1

theorem acceptWithdraw_bus (s : State) (n : SlotNo) (k : BufferNo) (w7 : Word) :
    (s.acceptWithdraw n k w7).bus = s.bus ∨ (s.acceptWithdraw n k w7).bus = verifyGivenUp s.bus := by
  rw [acceptWithdraw_bus_eq]
  cases h : s.queuedNotice with
  | some e =>
    rw [noticeWithdrawn_of_queued h]
    exact endQueued_bus s e .withdrawn
  | none =>
    rw [noticeWithdrawn_of_none h, handNoticeEnd_eq]
    exact .inl rfl

/-! ## The bus through commits -/

theorem rejectCommit_frame (s : State) (n : SlotNo) (kind : Option CueKind) (k : BufferNo) (w7 : Word) (reason : Reason) :
    Unchanged [.cues] s (s.rejectCommit n kind k w7 reason) :=
  State.rejectCommit_unchanged n kind k w7 reason (by decide) (.refl _ s)

theorem judgeCommit_bus (s : State) (n : SlotNo) (w7 : Word) :
    (s.judgeCommit n w7).bus = s.bus ∨ (s.judgeCommit n w7).bus = verifyGivenUp s.bus :=
  judgeCommit_cases (P := fun t => t.bus = s.bus ∨ t.bus = verifyGivenUp s.bus)
    (fun kind k reason => .inl ((rejectCommit_frame s n kind k w7 reason).agree .bus (by decide)))
    (fun k => acceptWithdraw_bus s n k w7) fun kind k => acceptCue_bus s n kind k w7

/-- A free port stays free through the commits. -/
theorem judgeCommits_port (h : s.bus.port = none) : s.judgeCommits.bus.port = none := by
  unfold State.judgeCommits
  have hdropped : s.dropNotedCues.bus.port = none := h
  generalize s.dropNotedCues = u at hdropped
  induction s.cues.noted generalizing u with
  | nil => exact hdropped
  | cons q qs ih =>
    refine ih _ ?_
    unfold State.judgeNoted
    split
    · rcases judgeCommit_bus u q.slot q.word with hb | hb
      · rw [hb, hdropped]
      · rw [hb, verifyGivenUp, hdropped]
        rfl
    · exact hdropped

theorem handStatus_port (r : TxRecord) (st : MemStatus) (h : s.bus.port = none) : (s.handStatus r st).bus.port = none := by
  unfold State.handStatus
  dsimp only
  split
  · split
    · exact judgeCommits_port h
    · exact h
  · split
    · split
      · have hbus : s.makeReports.bus = s.bus :=
          (State.makeReports_unchanged (xs := [.tiles, .scan, .faults, .test, .link]) (by decide) (.refl _ s)).agree .bus (by decide)
        rw [hbus, h]
      · exact h
    · exact h

theorem memoryErrorRecord_port (s : State) (r : TxRecord) (st : MemStatus) :
    (s.memoryErrorRecord r st).bus.port = s.bus.port := by
  unfold State.memoryErrorRecord
  split <;> rfl

end Sys2Proof.Safety
end

section
/-! The arbiter's grants, and the port at the end of every burst (01 R15 to R18). Settles O36. -/

namespace Sys2Proof.Safety

open Sys2Proof.Machine

variable {s t : State} {p : Presented}

/-! ## The end of a burst leaves the port served -/

theorem portServed_forwarded {b : Burst} {st : MemStatus} (quiet : Quiet s) (settled : EnginesSettled s)
    (hport : s.bus.port = some b) (forwarded : b.source = .forwarded)
    (late : ∀ r, s.bus.upstream = some r → b.discarded = true ∨ r.endsEarly st = false) :
    Runs (.forwardedBurstEnd st) s PortServed := by
  have hfreed : Runs (.forwardedBurstEnd st) s PortServed ∨
      ∃ r, s.bus.upstream = some r ∧ exec (.forwardedBurstEnd st) s = .next (s.endForwarded r st) := by
    have hserved : PortServed (s.event State.freePort) := portServed_event settled.held.freePort quiet.1 rfl
    rw [Runs, exec_forwardedBurstEnd_of_quiet quiet, State.endForwardedBurst, forwardedBurst_of_port hport forwarded]
    cases hupstream : s.bus.upstream with
    | none => exact .inl ⟨_, rfl, hserved⟩
    | some r =>
      dsimp only
      by_cases hdiscarded : b.discarded = true
      · exact .inl ⟨_, if_pos hdiscarded, hserved⟩
      · have hlate := (late r hupstream).resolve_left hdiscarded
        rw [if_neg hdiscarded, if_neg (by simp [hlate])]
        exact .inr ⟨r, rfl, rfl⟩
  rcases hfreed with h | ⟨r, -, hexec⟩
  · exact h
  · refine Runs.of_next hexec (portServed_event ?_ ?_ ?_)
    · exact (((settled.held.freePort).complete (MemStatus.completion st)).handStatus r st).memoryErrorRecord r st
    · have hlines : (((s.freePort.complete (MemStatus.completion st)).handStatus r st).memoryErrorRecord r st).lines = s.lines :=
        (State.memoryErrorRecord_unchanged (xs := [.bus, .table, .cues, .face, .tiles, .scan, .faults, .test, .link]) r st
          (by decide) (State.handStatus_unchanged r st (by decide) (State.complete_unchanged _ (by decide)
            (State.freePort_unchanged (by decide) (.refl _ s))))).agree .lines (by decide)
      rw [hlines, quiet.1]
    · rw [memoryErrorRecord_port]
      exact handStatus_port r st rfl

/-- The end of an own burst, from what its engine makes of it. -/
theorem portServed_own {c : Instr} {b : Burst} {e : Engine} {f : State → Burst → State} (quiet : Quiet s)
    (settled : EnginesSettled s) (hport : s.bus.port = some b) (own : b.source = .own e)
    (hexec : exec c s = .next (s.act fun t => t.ownBurstEnd e f)) (held : EnginesHeld (f s.freePort b))
    (frame : Unchanged [.table, .cues, .faults, .link] s.freePort (f s.freePort b)) : Runs c s PortServed := by
  refine Runs.of_act quiet hexec ?_
  rw [ownBurstEnd_of_some f hport own]
  by_cases hdiscarded : b.discarded = true
  · simp only [hdiscarded, if_true]
    exact portServed_event settled.held.freePort quiet.1 rfl
  · simp only [hdiscarded, Bool.false_eq_true, if_false]
    refine portServed_event held ?_ ?_
    · have hlines : (f s.freePort b).lines = s.freePort.lines := frame.agree .lines (by decide)
      exact (congrArg Lines.rstn hlines).trans quiet.1
    · have hbus : (f s.freePort b).bus = s.freePort.bus := frame.agree .bus (by decide)
      rw [hbus]
      rfl

theorem portServed_end {c : Instr} {b : Burst} (quiet : Quiet s) (settled : EnginesSettled s) (hport : s.bus.port = some b)
    (formed : c.wellFormed = true)
    (ends : (b.source = .forwarded ∧ ∃ st, c = .forwardedBurstEnd st ∧
        ∀ r, s.bus.upstream = some r → b.discarded = true ∨ r.endsEarly st = false) ∨
      (b.source = .own .writeBack ∧ ∃ st, c = .writeBackBurstEnd st) ∨
      (b.source = .own .wipe ∧ ∃ st, c = .wipeBurstEnd st) ∨
      (b.source = .own .verify ∧ ∃ st ws, c = .verifyBurstEnd st ws)) : Runs c s PortServed := by
  have busy {e : Engine} (own : b.source = .own e) : s.bus.inFlight e = true := BusState.inFlight_iff.mpr ⟨b, hport, own⟩
  rcases ends with ⟨forwarded, st, rfl, late⟩ | ⟨own, st, rfl⟩ | ⟨own, st, rfl⟩ | ⟨own, st, ws, rfl⟩
  · exact portServed_forwarded quiet settled hport forwarded late
  · exact portServed_own (f := fun u p => u.endWriteBack p st) quiet settled hport own rfl (settled.held.freePort.endWriteBack b st)
      (State.endWriteBack_unchanged b st (by decide) (.refl _ _))
  · exact portServed_own (f := fun u _ => u.endWipe st) quiet settled hport own rfl
      (settled.held.freePort.endWipe (settled.held.work.wipeBusy (busy own)) st)
      (State.endWipe_unchanged st (by decide) (.refl _ _))
  · refine portServed_own (f := fun u _ => u.endVerify st ws) quiet settled hport own ?_
      (settled.held.freePort.endVerify (settled.held.work.verifyBusy (busy own)) st ws)
      (State.endVerify_unchanged st ws (by decide) (.refl _ _))
    rw [exec_verifyBurstEnd, if_pos formed]

/-! ## The waited-grant count of a take (R17) -/

theorem forwardedGrant_eq (b : BusState) :
    b.forwardedGrant = if b.anyRequest = true then min 8 (b.waited + 1) else b.waited := rfl

/-- A forwarded transaction is granted; of any other the arbiter has the port. -/
theorem enact_waited (s : State) (r : TxRecord) (hport : s.bus.port = none) :
    (∀ b, (s.enact r).bus.port = some b → b.source = .forwarded →
      (s.enact r).bus.waited = if (s.enact r).bus.anyRequest then min 8 (s.bus.waited + 1) else s.bus.waited) ∧
    ((∀ b, (s.enact r).bus.port = some b → b.source ≠ .forwarded) → (s.enact r).bus.waited ≤ s.bus.waited) := by
  have hbus : ((s.onBus fun b => { b with upstream := some r, presented := none }).tellBuffers r).bus =
      { s.bus with upstream := some r, presented := none } := by
    rw [tellBuffers_bus]
    rfl
  have hown {u : State} (hu : u.bus.port = none) (hwaited : u.bus.waited = s.bus.waited) :
      (∀ b, u.arbitrate.bus.port = some b → b.source = .forwarded →
        u.arbitrate.bus.waited = if u.arbitrate.bus.anyRequest then min 8 (s.bus.waited + 1) else s.bus.waited) ∧
      ((∀ b, u.arbitrate.bus.port = some b → b.source ≠ .forwarded) → u.arbitrate.bus.waited ≤ s.bus.waited) :=
    ⟨fun b hb forwarded => absurd forwarded ((arbitrate_follows u).own hu b hb), fun _ => hwaited ▸ arbitrate_waited u⟩
  unfold State.enact
  dsimp only
  split
  · simp only [State.onBus_bus, hbus, forwardedGrant_eq]
    exact ⟨fun _ _ _ => rfl, fun h => absurd rfl (h _ rfl)⟩
  · split
    · exact hown (by rw [State.complete, State.onBus_bus, hbus]; exact hport) (by rw [State.complete, State.onBus_bus, hbus])
    · exact hown (by rw [hbus]; exact hport) (by rw [hbus])

/-! ## The guard's grant, and a transaction held (R16 to R18) -/

theorem exec_guardClaim (due : Due .guardClaim s) (hport : s.bus.port = none) (claims : s.bus.guardClaims = true) :
    exec .starvationGuardClaim s = .next (s.dropDue .guardClaim).grantOwn := by
  refine (exec_of_due due).trans ?_
  exact congrArg Host.Outcome.next (if_pos (by simp [State.dropDue, State.onDue, hport, claims]))

theorem exec_takeHeld (hrst : s.lines.rstn = false) (hdue : s.due = [.takePresented]) (held : s.bus.presented = some p)
    (formed : p.wellFormed = true) : exec (.transactionTake none) s = exec (.transactionTake (some p))
      ((s.onDue fun _ => []).onBus fun b => { b with presented := none }) := by
  have hstate : (((s.onDue fun _ => []).onBus fun b => { b with presented := none }).onBus fun b =>
      { b with presented := some p }) = s.dropDue .takePresented := by
    simp only [State.onBus, State.onDue, State.dropDue, hdue, ← held]
    rfl
  have hquiet : Quiet ((s.onDue fun _ => []).onBus fun b => { b with presented := none }) := ⟨hrst, rfl⟩
  rw [execTransactionTake_some, if_pos formed, settle_of_quiet hquiet, if_neg (ne_true_of_eq_false hquiet.1), State.present,
    if_neg (by simp), hstate]
  exact exec_of_due (e := .takePresented) ⟨hrst, by simp [hdue]⟩

/-- Settles O36. -/
theorem arbiterGrants : Obligations.ArbiterGrants := by
  refine ⟨?_, fun _ _ => rfl, fun _ => rfl, fun c b s quiet settled hport formed ends => portServed_end quiet settled hport formed ends,
    ?_, ?_, fun p s hrst hdue held formed _ => exec_takeHeld hrst hdue held formed⟩
  · intro s waits
    refine ⟨arbitrate_of_held, fun hrst hport => ⟨arbitrate_of_claim hrst hport, fun unclaimed hwaits => ?_,
      fun unclaimed hnone => ?_⟩⟩
    · exact arbitrate_of_waiting hrst hport unclaimed ((canTake_iff s).mpr hwaits)
    · have hown := arbitrate_of_own hrst hport unclaimed (Bool.eq_false_iff.mpr fun h => hnone ((canTake_iff s).mp h))
      rw [hown]
      exact ⟨fun r n rest hr hlist => grantOwn_writeBack hr hlist, fun r hw hr => grantOwn_wipe hw hr,
        fun r hw hp hr => grantOwn_verify hw hp hr, grantOwn_none⟩
  · intro p s takes plain
    refine Runs.of_next (exec_take takes) ?_
    have hstarts : (s.onBus fun b => { b with presented := some p }).startsRefresh p = false := plain
    simp only [State.takeTransaction, hstarts, Bool.false_eq_true, if_false]
    have hfree := (port_of_ready takes.2.2.2).1
    have hwaited := enact_waited (s.onBus fun b => { b with presented := some p }).prepare
      ((s.onBus fun b => { b with presented := some p }).prepare.openRecord p false) ((prepare_port _).trans hfree)
    rw [prepare_waited] at hwaited
    exact hwaited
  · intro s due hport claims
    have hexec := exec_guardClaim due hport claims
    refine ⟨fun r n rest hr hlist => Runs.of_next hexec ?_, fun r hw hr => ?_, fun r hw hp hr => ?_⟩
    · exact grantOwn_writeBack (s := s.dropDue .guardClaim) hr hlist
    · exact hexec.trans (congrArg Host.Outcome.next (grantOwn_wipe (s := s.dropDue .guardClaim) hw hr))
    · exact hexec.trans (congrArg Host.Outcome.next (grantOwn_verify (s := s.dropDue .guardClaim) hw hp hr))

end Sys2Proof.Safety
end

section
/-! The ends of own bursts that count (01 R1, 02 R30, R37, R38, R42 to R44, 03 R60, R65). Settles O31, O32 and O33. -/

namespace Sys2Proof.Safety

open Sys2Proof.Machine

variable {s t u : State} {p : Burst}

/-! ## The words of a result (R194) -/

theorem clockField_eq (c : Option Nat) : clockField c = BitVec.ofNat 17 (c.getD 0x1FFFE) := by
  cases c <;> rfl

section
variable (r : SlotRecord)

theorem resultWord4_fields : (resultWord4 r).extractLsb' 28 4 = (r.outcome.map CueOutcome.code).getD 0 ∧
    (resultWord4 r).extractLsb' 24 4 = (r.reason.map Reason.code).getD 0 ∧
    (resultWord4 r).extractLsb' 16 8 = r.hostSequence ∧ (resultWord4 r).extractLsb' 0 16 = r.cueTag := by
  unfold resultWord4
  refine ⟨?_, ?_, ?_, BitVec.extractLsb'_append_eq_right⟩
  · rw [BitVec.extractLsb'_append_eq_of_le (by decide), BitVec.extractLsb'_append_eq_of_le (by decide)]
    exact BitVec.extractLsb'_append_eq_left
  · rw [BitVec.extractLsb'_append_eq_of_le (by decide), BitVec.extractLsb'_append_eq_of_le (by decide)]
    exact BitVec.extractLsb'_append_eq_right
  · rw [BitVec.extractLsb'_append_eq_of_le (by decide)]
    exact BitVec.extractLsb'_append_eq_right

/-- The show stamp's sequence and clock field. -/
def showFields : Byte × BitVec 17 :=
  match r.showStamp with
  | some t => (t.sequence, clockField t.clock)
  | none => (0, absentClockField)

theorem resultWord5_eq : resultWord5 r =
    (showFields r).1 ++ (endClockField r).extractLsb' 16 1 ++ 0#6 ++ (showFields r).2 := rfl

theorem resultWord5_fields : (resultWord5 r).extractLsb' 24 8 = (showFields r).1 ∧
    (resultWord5 r).getLsbD 23 = (endClockField r).getLsbD 16 ∧
    (resultWord5 r).extractLsb' 17 6 = 0#6 ∧ (resultWord5 r).extractLsb' 0 17 = (showFields r).2 := by
  rw [resultWord5_eq]
  refine ⟨?_, ?_, ?_, BitVec.extractLsb'_append_eq_right⟩
  · rw [BitVec.extractLsb'_append_eq_of_le (by decide), BitVec.extractLsb'_append_eq_of_le (by decide)]
    exact BitVec.extractLsb'_append_eq_left
  · generalize endClockField r = ends
    simp only [BitVec.getLsbD_append, BitVec.getLsbD_extractLsb']
    rfl
  · rw [BitVec.extractLsb'_append_eq_of_le (by decide)]
    exact BitVec.extractLsb'_append_eq_right

theorem resultWord6_fields :
    (resultWord6 r).extractLsb' 16 16 = BitVec.ofNat 16 ((r.endStamp.map EndStamp.duration).getD 0) ∧
    (resultWord6 r).extractLsb' 0 16 = (endClockField r).extractLsb' 0 16 :=
  ⟨BitVec.extractLsb'_append_eq_left, BitVec.extractLsb'_append_eq_right⟩

theorem endClockField_eq : endClockField r =
    (r.endStamp.map fun e => BitVec.ofNat 17 (e.clock.getD 0x1FFFE)).getD 0x1FFFF#17 := by
  unfold endClockField
  cases r.endStamp with
  | none => rfl
  | some e => exact clockField_eq e.clock

theorem showFields_eq : showFields r = (((r.showStamp.map fun e => e.sequence).getD 0),
    ((r.showStamp.map fun e => BitVec.ofNat 17 (e.clock.getD 0x1FFFE)).getD 0x1FFFF#17)) := by
  unfold showFields
  cases r.showStamp with
  | none => rfl
  | some e => exact congrArg (Prod.mk e.sequence) (clockField_eq e.clock)

end

/-! ## A write-back burst (R30, R65) -/

/-- An own burst of the engine that counts. -/
theorem Runs.of_ownEnding {c : Instr} {e : Engine} {f : State → Burst → State} {post : State → Prop} (ending : OwnEnding e p s)
    (hexec : exec c s = .next (s.act fun t => t.ownBurstEnd e f))
    (h : post (s.event fun t => f t.freePort p)) : Runs c s post := by
  obtain ⟨quiet, hport, own, kept⟩ := ending
  refine Runs.of_act quiet hexec ?_
  rw [ownBurstEnd_of_some f hport own]
  simpa only [kept, Bool.false_eq_true, if_false] using h

/-- The slot as its final result has been written. -/
def emptiedSlot (r : SlotRecord) : SlotRecord :=
  if r.state = .closing then { SlotRecord.powerOn with listed := r.listed } else r

theorem emptySlot_slot (s : State) (n m : SlotNo) :
    (s.emptySlot n).slot m = if m = n then emptiedSlot (s.slot n) else s.slot m := by
  refine (onSlot_slot s n m _).trans ?_
  simp only [emptiedSlot, beq_iff_eq]

theorem emptySlot_record (s : State) (n : SlotNo) (k : BufferNo) : (s.emptySlot n).table.records.get k =
    if s.bufferState k = .retiring ∧ (s.table.records.get k).slot = some n then (s.table.records.get k).toFree
    else s.table.records.get k := by
  refine (Table.get_map _ _ k).trans ?_
  simp only [Bool.and_eq_true, beq_iff_eq]
  rfl

theorem emptySlot_frame (s : State) (n : SlotNo) : Unchanged [.table, .cues] s (s.emptySlot n) :=
  State.emptySlot_unchanged n (by decide) (.refl _ s)

/-- The device told that the memory failed the burst. -/
def toldLost (s : State) (n : SlotNo) : MemStatus → State
  | .ok => s
  | .error => s.offer .resultLost none (natItem n.val)

theorem endWriteBack_of_serves {n : SlotNo} (h : p.serves = some n) (s : State) (st : MemStatus) :
    s.endWriteBack p st = if p.carriesFinal = true then (toldLost s n st).emptySlot n else toldLost s n st := by
  simp only [State.endWriteBack, h]
  cases st <;> rfl

theorem toldLost_frame (s : State) (n : SlotNo) (st : MemStatus) : Unchanged [.faults] s (toldLost s n st) := by
  cases st
  · exact .refl _ s
  · exact State.offer_unchanged _ _ _ (by decide) (.refl _ s)

theorem writeBackEnd_runs {n : SlotNo} (st : MemStatus) (ending : OwnEnding .writeBack p s) (serves : p.serves = some n) :
    Runs (.writeBackBurstEnd st) s fun t =>
      (st = .ok → t.faults = s.faults) ∧ (st = .error → Offered s t .resultLost none (natItem n.val)) ∧
      t.tiles = s.tiles ∧ t.link = s.link ∧ t.cues.queue = s.cues.queue ∧
      (∀ m, m ≠ n → { t.slot m with listed := (s.slot m).listed } = s.slot m) ∧
      (p.carriesFinal = true → (s.slot n).state = .closing →
        (t.slot n).state = .empty ∧ (t.slot n).outcome = none ∧ (t.slot n).kind = none) ∧
      (p.carriesFinal = true → ∀ k, s.bufferState k = .retiring →
        (s.table.records.get k).slot = some n →
        t.bufferState k = .free ∧ (t.table.records.get k).slot = none) ∧
      (p.carriesFinal = false → { t.slot n with listed := (s.slot n).listed } = s.slot n ∧
        ∀ k, t.bufferState k = s.bufferState k) ∧
      ∀ k, (s.bufferState k ≠ .retiring ∨ (s.table.records.get k).slot ≠ some n) →
        t.bufferState k = s.bufferState k := by
  refine Runs.of_ownEnding ending (f := fun u p => u.endWriteBack p st) rfl ?_
  have hfollows := event_follows s fun u => u.freePort.endWriteBack p st
  rw [endWriteBack_of_serves serves] at hfollows
  generalize (s.event fun t => t.freePort.endWriteBack p st) = t at hfollows
  have hfree := State.freePort_unchanged (xs := [.bus, .faults]) (by decide) (.refl _ s)
  have hframe : Unchanged [.bus, .faults] s (toldLost s.freePort n st) := hfree.trans ((toldLost_frame _ n st).mono (by decide))
  have hcues : (toldLost s.freePort n st).cues = s.cues := hframe.agree .cues (by decide)
  have htable : (toldLost s.freePort n st).table = s.table := hframe.agree .table (by decide)
  have hslot (m : SlotNo) : (toldLost s.freePort n st).slot m = s.slot m := by rw [State.slot, hcues]; rfl
  have hstate (k : BufferNo) : (toldLost s.freePort n st).bufferState k = s.bufferState k := State.bufferState_congr htable k
  have hfaults : (st = .ok → (toldLost s.freePort n st).faults = s.faults) ∧
      (st = .error → Offered s (toldLost s.freePort n st) .resultLost none (natItem n.val)) := by
    cases st
    · exact ⟨fun _ => rfl, nofun⟩
    · exact ⟨nofun, fun _ => rfl⟩
  cases hfinal : p.carriesFinal with
  | false =>
    rw [hfinal, if_neg (by decide)] at hfollows
    refine ⟨fun h => hfollows.faults.trans (hfaults.1 h), fun h => hfollows.faults.trans (hfaults.2 h),
      hfollows.tiles.trans (hframe.agree .tiles (by decide)), hfollows.link.trans (hframe.agree .link (by decide)),
      hfollows.ring.2.1.trans (congrArg CueUnit.queue hcues), fun m _ => ?_, nofun, nofun, fun _ => ⟨?_, fun k => ?_⟩, fun k _ => ?_⟩
    · rw [← hslot m]
      exact hfollows.slots m
    · rw [← hslot n]
      exact hfollows.slots n
    · rw [hfollows.bufferState, hstate]
    · rw [hfollows.bufferState, hstate]
  | true =>
    rw [hfinal, if_pos rfl] at hfollows
    have hempty := emptySlot_frame (toldLost s.freePort n st) n
    have hemptyFaults : ((toldLost s.freePort n st).emptySlot n).faults = (toldLost s.freePort n st).faults :=
      hempty.agree .faults (by decide)
    have hall : Unchanged [.bus, .table, .cues, .faults] s ((toldLost s.freePort n st).emptySlot n) :=
      (hframe.mono (by decide)).trans (hempty.mono (by decide))
    have hslotAfter (m : SlotNo) := hfollows.slot m
    simp only [emptySlot_slot, hslot] at hslotAfter
    have hrecord (k : BufferNo) := hfollows.buffers k
    simp only [emptySlot_record, hstate, htable] at hrecord
    refine ⟨fun h => hfollows.faults.trans (hemptyFaults.trans (hfaults.1 h)),
      fun h => hfollows.faults.trans (hemptyFaults.trans (hfaults.2 h)),
      hfollows.tiles.trans (hall.agree .tiles (by decide)), hfollows.link.trans (hall.agree .link (by decide)),
      hfollows.ring.2.1.trans (congrArg CueUnit.queue hcues :), fun m hm => ?_, fun _ closing => ?_, fun _ k retiring served => ?_,
      nofun, fun k hk => ?_⟩
    · rw [hslotAfter m, if_neg hm]
    · rw [hslotAfter n, if_pos rfl, emptiedSlot, if_pos closing]
      exact ⟨rfl, rfl, rfl⟩
    · have h := hrecord k
      rw [if_pos ⟨retiring, served⟩] at h
      exact ⟨(congrArg BufferRecord.state h :), (congrArg BufferRecord.slot h :)⟩
    · have h := hrecord k
      rw [if_neg fun both => hk.elim (fun no => no both.1) fun no => no both.2] at h
      exact (congrArg BufferRecord.state h :)

/-- Settles O31. -/
theorem writeBackBurstEnds : Obligations.WriteBackBurstEnds := by
  refine ⟨fun r => ?_, rfl, rfl, fun st p n s ending serves => writeBackEnd_runs st ending serves⟩
  intro clock shown ends
  obtain ⟨houtcome, hreason, hhost, htag⟩ := resultWord4_fields r
  obtain ⟨hsequence, hhigh, hzero, hclock⟩ := resultWord5_fields r
  obtain ⟨hduration, hlow⟩ := resultWord6_fields r
  have hends : endClockField r = ends := endClockField_eq r
  rw [hends] at hhigh hlow
  rw [showFields_eq] at hsequence hclock
  refine ⟨resultWord4 r, resultWord5 r, resultWord6 r, rfl, houtcome, hreason, hhost, htag, ?_, hhigh, hzero, ?_, hduration, hlow⟩
  · rw [hsequence]
    simp only [shown]
    cases r.showStamp <;> rfl
  · rw [hclock]
    simp only [shown]
    cases r.showStamp <;> rfl

end Sys2Proof.Safety
end

section
/-! The ends of wipe and verify bursts (01 R1, 02 R37, R38, R42 to R44, 03 R60). Settles O32 and O33. -/

namespace Sys2Proof.Safety

open Sys2Proof.Machine

variable {s t u : State} {p : Burst} {k : BufferNo}

/-! ## A wipe burst (R37, R38) -/

/-- A WIPE BUFFER service is IN_PROGRESS for the buffer. -/
def WipeServed (s : State) (k : BufferNo) : Prop :=
  s.link.status.code = Service.wipeBuffer.code ∧ s.link.status.state = .inProgress ∧ s.link.handed.p1 = natItem k.val

theorem endWipeService_of_served (h : WipeServed s k) (st : ServiceState) (e : ServiceError) :
    s.endWipeService k st e = s.setService st e := by
  obtain ⟨hcode, hstate, hbuffer⟩ := h
  exact if_pos (by simp [State.inProgress, hcode, hstate, hbuffer])

theorem endWipeService_of_unserved (h : ¬ WipeServed s k) (st : ServiceState) (e : ServiceError) :
    s.endWipeService k st e = s := by
  unfold State.endWipeService
  rw [if_neg]
  simpa [WipeServed, State.inProgress, and_assoc] using h

theorem endWipeService_frame (s : State) (k : BufferNo) (st : ServiceState) (e : ServiceError) :
    Unchanged [.link] s (s.endWipeService k st e) := State.endWipeService_unchanged k st e (by decide) (.refl _ s)

/-- How a sweep ends: the buffer's record set, the service told, the engine idle. -/
def sweptState (s : State) (k : BufferNo) (f : BufferRecord → BufferRecord) (st : ServiceState) (e : ServiceError) : State :=
  ((s.onBuffer k f).endWipeService k st e).endSweep

theorem sweptState_record (s : State) (k : BufferNo) (f : BufferRecord → BufferRecord) (st : ServiceState) (e : ServiceError)
    (j : BufferNo) : (sweptState s k f st e).table.records.get j =
      if j = k then f (s.table.records.get k) else s.table.records.get j := by
  have htable : ((s.onBuffer k f).endWipeService k st e).table = (s.onBuffer k f).table :=
    (endWipeService_frame _ k st e).agree .table (by decide)
  have hrecords : (sweptState s k f st e).table.records = (s.onBuffer k f).table.records :=
    (congrArg BufferTable.records htable :)
  rw [hrecords]
  exact State.onBuffer_record s k j f

theorem sweptState_frame (s : State) (k : BufferNo) (f : BufferRecord → BufferRecord) (st : ServiceState) (e : ServiceError) :
    Unchanged [.table, .link] s (sweptState s k f st e) :=
  State.endSweep_unchanged (by decide) (State.endWipeService_unchanged _ _ _ (by decide)
    (State.onBuffer_unchanged _ _ (by decide) (.refl _ s)))

theorem sweptState_link (s : State) (k : BufferNo) (f : BufferRecord → BufferRecord) (st : ServiceState) (e : ServiceError) :
    (WipeServed s k → (sweptState s k f st e).link = { s.link with status := { s.link.status with state := st, error := e } }) ∧
    (¬ WipeServed s k → (sweptState s k f st e).link = s.link) := by
  have hserved : WipeServed (s.onBuffer k f) k ↔ WipeServed s k := Iff.rfl
  constructor
  · intro h
    rw [sweptState, endWipeService_of_served (hserved.mpr h)]
    rfl
  · intro h
    rw [sweptState, endWipeService_of_unserved fun h' => h (hserved.mp h')]
    rfl

section
variable (sweeping : s.table.sweeping = some k)
include sweeping

theorem endWipe_of_failed :
    s.endWipe .error = sweptState (s.offer .wipeFailed none (natItem k.val)) k
      (fun r => { r with state := .outOfUse, progress := 0 }) .failed .memoryError := by
  simp only [State.endWipe, sweeping]
  rfl

theorem endWipe_of_last (last : s.settings.layout.faceWords ≤ (s.table.records.get k).progress + 16) :
    s.endWipe .ok = sweptState s k BufferRecord.toFree .done .none := by
  simp only [State.endWipe, sweeping]
  exact if_pos last

theorem endWipe_of_more (more : (s.table.records.get k).progress + 16 < s.settings.layout.faceWords) :
    s.endWipe .ok = s.onBuffer k fun r => { r with progress := (s.table.records.get k).progress + 16 } := by
  simp only [State.endWipe, sweeping]
  exact if_neg (Nat.not_le.mpr more)

end

/-- A buffer no wipe has come to yet, or comes to afresh, stands at its first word. -/
theorem after_progress (before : State) (h : (u.table.records.get k).progress = 0) :
    ((State.after before u).table.records.get k).progress = 0 := by
  obtain ⟨-, -, hrecords, -, -⟩ := prepare_choices (u.settlePair before.headSlot)
  have hafter : (State.after before u).table.records = (u.settlePair before.headSlot).wipeChoice.table.records :=
    (congrArg BufferTable.records (after_table before u)).trans hrecords
  rw [hafter]
  have hprogress : ((u.settlePair before.headSlot).table.records.get k).progress = 0 := by
    rw [settlePair_table]
    exact h
  cases hsweep : (u.settlePair before.headSlot).table.sweeping with
  | some j =>
    rw [wipeChoice_of_busy hsweep]
    exact hprogress
  | none =>
    rw [(wipeChoice_of_idle hsweep).2 k]
    split
    · rfl
    · exact hprogress

/-- Settles O32. -/
theorem wipeBurstEnds : Obligations.WipeBurstEnds := by
  intro p k s ending sweeping progress served
  have hfreed : s.freePort.table.sweeping = some k := sweeping
  have hfollows {u : State} {st : MemStatus} (hu : s.freePort.endWipe st = u) :
      Follows u (s.event fun t => t.freePort.endWipe st) := by
    have h := event_follows s fun t => t.freePort.endWipe st
    rwa [hu] at h
  refine ⟨fun more => ?_, fun last => ?_, ?_⟩
  · refine Runs.of_ownEnding ending (f := fun t _ => t.endWipe .ok) rfl ?_
    exact hfollows (endWipe_of_more hfreed more)
  · refine Runs.of_ownEnding ending (f := fun t _ => t.endWipe .ok) rfl ?_
    have h := hfollows (endWipe_of_last hfreed last)
    have hrecord (j : BufferNo) := h.buffers j
    simp only [sweptState_record] at hrecord
    have hfaults : (sweptState s.freePort k BufferRecord.toFree .done .none).faults = s.freePort.faults :=
      (sweptState_frame s.freePort k _ _ _).agree .faults (by decide)
    obtain ⟨hserved, hunserved⟩ := sweptState_link s.freePort k BufferRecord.toFree .done .none
    have hk := hrecord k
    rw [if_pos rfl] at hk
    refine ⟨(congrArg BufferRecord.state hk :), (congrArg BufferRecord.slot hk :), h.faults.trans hfaults, fun j hj => ?_,
      fun hs => h.link.trans (hserved hs), fun hs => h.link.trans (hunserved hs)⟩
    have hother := hrecord j
    rw [if_neg hj] at hother
    exact (congrArg BufferRecord.state hother :)
  · refine Runs.of_ownEnding ending (f := fun t _ => t.endWipe .error) rfl ?_
    have hfailed := endWipe_of_failed hfreed
    have h := hfollows hfailed
    have hrecord (j : BufferNo) := h.buffers j
    simp only [sweptState_record] at hrecord
    have hfaults : (sweptState (s.freePort.offer .wipeFailed none (natItem k.val)) k
        (fun r => { r with state := .outOfUse, progress := 0 }) .failed .memoryError).faults =
        (s.freePort.offer .wipeFailed none (natItem k.val)).faults :=
      (sweptState_frame _ k _ _ _).agree .faults (by decide)
    obtain ⟨hserved, hunserved⟩ := sweptState_link (s.freePort.offer .wipeFailed none (natItem k.val)) k
      (fun r => { r with state := .outOfUse, progress := 0 }) .failed .memoryError
    have hk := hrecord k
    rw [if_pos rfl] at hk
    refine ⟨(congrArg BufferRecord.state hk :), ?_, h.faults.trans hfaults, fun j hj => ?_,
      fun hs => h.link.trans (hserved hs), fun hs => h.link.trans (hunserved hs)⟩
    · refine after_progress (u := s.freePort.endWipe .error) s ?_
      rw [hfailed, sweptState_record, if_pos rfl]
    · have hother := hrecord j
      rw [if_neg hj] at hother
      exact (congrArg BufferRecord.state hother :)

/-! ## The CRC-16 (R1) -/

theorem crc16Bit_eq (c : Half) (b : Bool) : crc16Bit c b = (c <<< 1) ^^^ (if c.msb = b then 0#16 else 0x1021#16) := by
  unfold crc16Bit
  by_cases h : c.msb = b <;> simp [h]

theorem crc16Word_eq (c : Half) (w : Word) : crc16Word c w = (List.range 32).foldl
    (fun (c : Half) i => (c <<< 1) ^^^ (if c.msb = w.getLsbD (31 - i) then 0#16 else 0x1021#16)) c := by
  unfold crc16Word
  refine List.foldl_ext _ _ _ fun c i hi => ?_
  have hbit : w.getMsbD i = w.getLsbD (31 - i) := by
    rw [BitVec.getMsbD_eq_getLsbD, decide_eq_true (List.mem_range.mp hi), Bool.true_and]
  rw [crc16Bit_eq, hbit]

/-! ## A verify burst (R42 to R44, R60) -/

/-- The engine idle and the buffer's last verify CRC kept. -/
def verifyEnded (s : State) (k : BufferNo) (f : BufferRecord → BufferRecord) : State :=
  (s.onTable fun b => { b with verifying := none }).onBuffer k f

theorem returnBuffer_record (s : State) (k j : BufferNo) : (s.returnBuffer k).table.records.get j =
    if j = k then
      (if k = noticeBuffer ∧ s.table.gate = .closed then (s.table.records.get k).toWiping
        else (s.table.records.get k).toFilling)
    else s.table.records.get j := by
  refine (State.onBuffer_record s k j _).trans ?_
  refine if_congr Iff.rfl (if_congr ?_ rfl rfl) rfl
  rw [Bool.and_eq_true, beq_iff_eq, Bool.not_eq_true', ← Bool.not_eq_true, gateOpen_iff, not_not]

/-- The buffer of a cue the verify engine rejects (R43, R44). -/
def returnedBuffer (s : State) (k : BufferNo) (last : Option Half) : State :=
  (verifyEnded s k fun r => { r with lastCrc := last }).returnBuffer k

theorem rejectVerify_eq (s : State) (k : BufferNo) (last : Option Half) (reason : Reason) :
    s.rejectVerify k last reason = match (s.table.records.get k).slot with
      | some n => (returnedBuffer s k last).rejectQueued n reason
      | none => returnedBuffer s k last := by
  unfold State.rejectVerify
  cases (s.table.records.get k).slot <;> rfl

theorem returnedBuffer_record (s : State) (k : BufferNo) (last : Option Half) :
    (returnedBuffer s k last).table.records.get k =
      if k = noticeBuffer ∧ s.table.gate = .closed then
        { (s.table.records.get k).toWiping with lastCrc := last }
      else { (s.table.records.get k).toFilling with lastCrc := last } := by
  have hkept : (verifyEnded s k fun r => { r with lastCrc := last }).table.records.get k =
      { s.table.records.get k with lastCrc := last } :=
    (State.onBuffer_record (s.onTable fun b => { b with verifying := none }) k k _).trans (if_pos rfl)
  rw [returnedBuffer, returnBuffer_record, if_pos rfl, hkept]
  rfl

theorem rejectQueued_frame (s : State) (n : SlotNo) (reason : Reason) : Unchanged [.cues] s (s.rejectQueued n reason) :=
  State.rejectQueued_unchanged n reason (by decide) (.refl _ s)

theorem rejectQueued_slot (s : State) (n : SlotNo) (reason : Reason) :
    (s.rejectQueued n reason).slot n = SlotRecord.closed (s.slot n) .rejected (some reason) s.clockNow := by
  refine (closeSlot_slot (s.dequeue n) n n _ _).trans ?_
  rw [if_pos rfl]
  rfl

theorem rejectQueued_queue (s : State) (n : SlotNo) (reason : Reason) :
    (s.rejectQueued n reason).cues.queue = s.cues.queue.filter fun e => e.slot != n :=
  closeSlot_queue (s.dequeue n) n _ _

/-- What a rejection leaves, also after what follows it. -/
theorem rejectVerify_leaves (k : BufferNo) (last : Option Half) (reason : Reason)
    (h : Follows (s.rejectVerify k last reason) t) :
    t.bufferState k = (if k = 7 ∧ s.table.gate = .closed then .wiping else .filling) ∧
    (t.table.records.get k).slot = none ∧ (t.table.records.get k).lastCrc = last ∧
    ∀ n, (s.table.records.get k).slot = some n → (t.slot n).state = .closing ∧ (t.slot n).outcome = some .rejected ∧
      (t.slot n).reason = some reason ∧ t.cues.queue = s.cues.queue.filter (fun e => e.slot != n) := by
  have hrecord : (s.rejectVerify k last reason).table.records.get k = (returnedBuffer s k last).table.records.get k := by
    rw [rejectVerify_eq]
    split
    · rw [(rejectQueued_frame _ _ reason).agree .table (by decide)]
    · rfl
  have hk := h.buffers k
  rw [hrecord, returnedBuffer_record] at hk
  refine ⟨?_, ?_, ?_, fun n hn => ?_⟩
  · refine (congrArg BufferRecord.state hk :).trans ?_
    by_cases hwiped : k = noticeBuffer ∧ s.table.gate = .closed
    · rw [if_pos hwiped]; exact (if_pos hwiped).symm
    · rw [if_neg hwiped]; exact (if_neg hwiped).symm
  · refine (congrArg BufferRecord.slot hk :).trans ?_
    split <;> rfl
  · refine (congrArg BufferRecord.lastCrc hk :).trans ?_
    split <;> rfl
  · rw [rejectVerify_eq, hn] at h
    have hslot := h.slot n
    rw [rejectQueued_slot] at hslot
    refine ⟨(congrArg SlotRecord.state hslot :), (congrArg SlotRecord.outcome hslot :), (congrArg SlotRecord.reason hslot :), ?_⟩
    exact h.ring.2.1.trans (rejectQueued_queue ..)

section
variable {v : VerifyWork} {ws : List Word} (working : s.table.verifying = some v)
include working

theorem endVerify_of_failed (any : List Word) : s.endVerify .error any = s.rejectVerify v.buffer none .memoryError := by
  simp only [State.endVerify, working]

theorem endVerify_of_more (more : v.wordsRead + 16 < s.settings.layout.faceWords) :
    s.endVerify .ok ws = s.onTable fun b =>
      { b with verifying := some { v with wordsRead := v.wordsRead + 16, running := crc16Words v.running ws } } := by
  simp only [State.endVerify, working]
  exact if_neg (Nat.not_le.mpr more)

theorem endVerify_of_matched (last : s.settings.layout.faceWords ≤ v.wordsRead + 16) (hcrc : crc16Words v.running ws = v.expected) :
    s.endVerify .ok ws = verifyEnded s v.buffer fun r =>
      { r with state := .staged, lastCrc := some (crc16Words v.running ws) } := by
  simp only [State.endVerify, working]
  exact (if_pos last).trans (if_pos (by simpa using hcrc))

theorem endVerify_of_mismatched (last : s.settings.layout.faceWords ≤ v.wordsRead + 16) (hcrc : crc16Words v.running ws ≠ v.expected) :
    s.endVerify .ok ws = s.rejectVerify v.buffer (some (crc16Words v.running ws)) .contentMismatch := by
  simp only [State.endVerify, working]
  exact (if_pos last).trans (if_neg (by simpa using hcrc))

end

theorem verifyEnd_runs {ws : List Word} {st : MemStatus} {post : State → Prop} (ending : OwnEnding .verify p s)
    (formed : Instr.wellFormed (.verifyBurstEnd st ws) = true)
    (h : ∀ t, Follows (s.freePort.endVerify st ws) t → post t) : Runs (.verifyBurstEnd st ws) s post := by
  refine Runs.of_ownEnding ending (f := fun t _ => t.endVerify st ws) ?_ (h _ (event_follows s fun t => t.freePort.endVerify st ws))
  rw [exec_verifyBurstEnd, if_pos formed]

/-- Settles O33. -/
theorem verifyBurstEnds : Obligations.VerifyBurstEnds := by
  refine ⟨fun c w => crc16Word_eq c w, fun c ws => rfl, by decide +kernel, ?_⟩
  intro p v ws s ending working hlength crc record rejected
  have hworking : s.freePort.table.verifying = some v := working
  have hformed (ws : List Word) (h : ws.length = 16) : Instr.wellFormed (.verifyBurstEnd .ok ws) = true := by
    simp [Instr.wellFormed, h]
  refine ⟨fun more => ?_, fun last hcrc => ?_, fun last hcrc => ?_, fun any => ?_⟩
  · refine verifyEnd_runs ending (hformed ws hlength) fun t h => ?_
    rw [endVerify_of_more hworking more] at h
    exact h
  · refine verifyEnd_runs ending (hformed ws hlength) fun t h => ?_
    rw [endVerify_of_matched hworking last hcrc] at h
    have hk := h.buffers v.buffer
    rw [verifyEnded, State.onBuffer_record, if_pos rfl] at hk
    exact ⟨(congrArg BufferRecord.state hk :), (congrArg BufferRecord.lastCrc hk :), h.ring.2.1⟩
  · refine verifyEnd_runs ending (hformed ws hlength) fun t h => ?_
    rw [endVerify_of_mismatched hworking last hcrc] at h
    exact rejectVerify_leaves (s := s.freePort) v.buffer _ _ h
  · refine verifyEnd_runs ending rfl fun t h => ?_
    rw [endVerify_of_failed hworking any] at h
    exact rejectVerify_leaves (s := s.freePort) v.buffer _ _ h

end Sys2Proof.Safety
end

section
/-! One decisecond step of every count (03 R57 to R61, 04 R72, R82, R85, 05 R91, R99). Settles O37. -/

namespace Sys2Proof.Safety

open Sys2Proof.Machine

variable {s : State}

/-! ## What comes due -/

theorem mem_insertDue_iff {es : List DueEvent} {e x : DueEvent} : x ∈ insertDue es e ↔ x ∈ es ∨ x = e := by
  unfold insertDue
  split
  next h => exact ⟨.inl, fun hx => hx.elim id fun hx => hx ▸ h⟩
  next => simp

theorem mem_foldl_insertDue {new es : List DueEvent} {x : DueEvent} : x ∈ new.foldl insertDue es ↔ x ∈ es ∨ x ∈ new := by
  induction new generalizing es with
  | nil => simp
  | cons e new ih => rw [List.foldl_cons, ih, mem_insertDue_iff, List.mem_cons, or_assoc]

theorem mem_dueIf {b : Bool} {e x : DueEvent} : x ∈ dueIf b e ↔ b = true ∧ x = e := by
  cases b <;> simp [dueIf]

theorem mem_slotDues {x : DueEvent} : x ∈ s.slotDues ↔
    (∃ e ∈ s.cues.queue, e.holdOff = 1 ∧ x = .holdOffEnd e.slot) ∨
    (∃ e ∈ s.cues.queue, (e.kind ≠ .notice ∧ e.lifetime = 1) ∧ x = .cueExpiry e.slot) ∨
    ∃ n, ((s.slot n).state = .active ∧ (s.slot n).noticeTime = some 1) ∧ x = .noticeTimeEnd n := by
  simp only [State.slotDues, List.mem_append, List.mem_map, List.mem_filter, List.mem_finRange, true_and, QueueEntry.lastStep,
    Bool.and_eq_true, beq_iff_eq, bne_iff_ne, or_assoc, and_assoc, eq_comm (a := x)]

/-- Everything due at a step, kind by kind; `u` is the state the step left. -/
theorem mem_stepDues {u : State} {x : DueEvent} : x ∈ s.stepDues u ↔
    x ∈ s.slotDues ∨ (s.face.dwell = .counting 1 ∧ x = .dwellMet) ∨ (s.face.pairWait = .counting 1 ∧ x = .pairWaitExpiry) ∨
    (u.stallDue = true ∧ x = .scanStall) ∨ (s.windowEnds .a = true ∧ x = .gateWindowEnd .a) ∨
    (s.windowEnds .b = true ∧ x = .gateWindowEnd .b) ∨ (s.light.tick = 9 ∧ x = .secondStep) := by
  simp only [State.stepDues, List.mem_append, mem_dueIf, beq_iff_eq, or_assoc]

theorem windowEnds_iff {ch : Channel} : s.windowEnds ch = true ↔ (s.channel ch).state ≠ .off ∧ (s.channel ch).left = 1 := by
  simp [State.windowEnds]

/-! ## What the step leaves -/

theorem decisecond_due (nothing : s.due = []) {x : DueEvent} : x ∈ s.decisecond.due ↔
    x ∈ s.stepDues s.decisecond := by
  have steps : s.decisecond.due = (s.stepDues s.decisecond).foldl insertDue s.due := rfl
  rw [steps, mem_foldl_insertDue, nothing]
  simp

theorem decisecond_queue : s.decisecond.cues.queue = s.cues.queue.map QueueEntry.step := rfl

theorem decisecond_slot (n : SlotNo) : s.decisecond.slot n = (s.slot n).step s.face.showing.slot n :=
  Table.get_mapIdx ..

theorem decisecond_face : s.decisecond.face = s.face.step s.running := rfl

theorem decisecond_channel (ch : Channel) : s.decisecond.channel ch = (s.channel ch).step (s.settings.channel ch).gate := by
  cases ch <;> rfl

theorem decisecond_stallDue : s.decisecond.stallDue = true ↔ s.governor = .running ∧ s.face.stalled = false ∧
    s.settings.stallLimit ≤ min 65535 (s.face.stallCount + 1) := by
  have stands : s.decisecond.stallDue =
      (s.running && !s.face.stalled && decide (s.settings.stallLimit ≤ (s.face.step s.running).stallCount)) := rfl
  rw [stands]
  by_cases runs : s.governor = .running <;> simp [State.running, ShowUnit.step, saturate, runs]

/-! ## Each count's step in the statement's words -/

theorem queueEntry_step_eq (e : QueueEntry) : e.step =
    { e with holdOff := if e.holdOff ≤ 1 then e.holdOff else e.holdOff - 1
             lifetime := if e.kind = .notice then e.lifetime else if e.lifetime ≤ 1 then e.lifetime else e.lifetime - 1 } := by
  simp only [QueueEntry.step, countDown, beq_iff_eq]

theorem slotRecord_step_eq (showing : Option SlotNo) (n : SlotNo) (r : SlotRecord) : r.step showing n =
    { r with
      noticeTime := if r.state = .active then r.noticeTime.map fun m => if m ≤ 1 then m else m - 1 else r.noticeTime
      shownTime := if r.state = .active ∧ showing = some n then min 65535 (r.shownTime + 1) else r.shownTime } := by
  simp only [SlotRecord.step, saturate, beq_iff_eq, Bool.and_eq_true]
  rfl

theorem showUnit_step_eq (f : ShowUnit) : f.step s.running =
    { f with
      dwell := match f.dwell with
        | .counting n => .counting (if n ≤ 1 then n else n - 1)
        | d => d
      pairWait := match f.pairWait with
        | .counting n => .counting (if n ≤ 1 then n else n - 1)
        | w => w
      stallCount := if s.governor = .running then min 65535 (f.stallCount + 1) else f.stallCount } := by
  have dwells : f.dwell.step = match f.dwell with
      | .counting n => .counting (if n ≤ 1 then n else n - 1)
      | d => d := by cases f.dwell <;> rfl
  have waits : f.pairWait.step = match f.pairWait with
      | .counting n => .counting (if n ≤ 1 then n else n - 1)
      | w => w := by cases f.pairWait <;> rfl
  simp only [ShowUnit.step, dwells, waits, State.running, saturate, beq_iff_eq]

theorem channelRecord_step_eq (r : ChannelRecord) (gate : Nat) : r.step gate =
    if r.state = .off then r
    else if r.left = 0 then { r with window := gate, left := gate, pulses := 0 }
    else { r with left := if r.left ≤ 1 then r.left else r.left - 1 } := by
  unfold ChannelRecord.step
  by_cases off : r.state = .off
  · simp [off]
  by_cases first : r.left = 0
  · simp [off, first, ChannelRecord.begin]
  by_cases last : r.left = 1
  · rw [if_neg (by simpa using off), if_neg first, if_pos last, if_neg off, if_neg first, if_pos (by omega)]
  · simp [off, first, last, show ¬ r.left ≤ 1 by omega]

/-- Settles O37. -/
theorem decisecondStepsEveryCount : Obligations.DecisecondStepsEveryCount := by
  unfold Obligations.DecisecondStepsEveryCount
  refine ⟨fun s quiet => .of_act (f := State.decisecond) quiet rfl ?_, fun s quiet => .of_act (f := State.decisecond) quiet rfl ?_⟩
  · refine ⟨State.decisecond_unchanged rfl (.refl _ _), rfl, ?_, fun n => ?_, ?_, ?_, fun ch => ?_⟩
    · rw [decisecond_queue]
      exact congrArg (s.cues.queue.map ·) (funext queueEntry_step_eq)
    · rw [decisecond_slot, slotRecord_step_eq]
    · exact decisecond_face.trans (showUnit_step_eq _)
    · rfl
    · rw [decisecond_channel, channelRecord_step_eq]
  · simp only [decisecond_due quiet.2, mem_stepDues, mem_slotDues, decisecond_stallDue, windowEnds_iff]
    refine ⟨fun n => ?_, fun n => ?_, fun n => ?_, ?_, ?_, ?_, fun ch => ?_, ?_, ?_, ?_, ?_, ?_, fun i => ?_⟩
    case refine_1 | refine_2 => simp [eq_comm (a := n), and_comm]
    case refine_7 => cases ch <;> simp
    all_goals simp

end Sys2Proof.Safety
end

section
/-! Sensor pulses, PARTNER's edges and the handshake's start and end (04 R80 to R83, 05 R91, R92). Settles O47. -/

namespace Sys2Proof.Safety

open Sys2Proof.Machine

variable {s : State}

/-! ## The input lines (R81, R91) -/

theorem channelRecord_pulse_eq (r : ChannelRecord) : r.pulse =
    if r.state = .off ∨ r.left = 0 then r else { r with pulses := min 65535 (r.pulses + 1) } := by
  simp only [ChannelRecord.pulse, saturate, Bool.or_eq_true, beq_iff_eq]

theorem exec_partnerRise (quiet : Quiet s) (level : Bool) : exec (.partnerRise level) s =
    .next (if level then (s.onLines fun l => { l with partner := level }).partnerHigh
      else s.onLines fun l => { l with partner := level }) := by
  change execPartnerRise level s = _
  simp only [execPartnerRise, quiet.1, settle_of_quiet quiet, Bool.false_eq_true, if_false]

theorem partnerHigh_of_waiting {n : Nat} (ready : s.face.swapReady = true) (clear : s.face.latch = false)
    (waits : s.face.pairWait = .counting n) :
    s.partnerHigh = s.onFace fun f => { f with latch := true, pairWait := .idle } := by
  simp only [State.partnerHigh, ready, clear, waits]

theorem partnerHigh_of_not_waiting
    (h : s.face.swapReady = false ∨ s.face.latch = true ∨ ∀ n, s.face.pairWait ≠ .counting n) : s.partnerHigh = s := by
  unfold State.partnerHigh
  split
  next ready clear waits =>
    rcases h with unready | latched | unwaited
    · exact nomatch unready.symm.trans ready
    · exact nomatch latched.symm.trans clear
    · exact absurd waits (unwaited _)
  next => rfl

/-! ## The pair lines (R80 to R83) -/

theorem settlePair_of_standing {before : Option SlotNo} (ready : s.face.swapReady = true)
    (wanted : s.handshakeWanted = true) (head : s.headSlot = before) : s.settlePair before = s := by
  simp [State.settlePair, ready, wanted, head]

theorem settlePair_of_low {before : Option SlotNo} (unready : s.face.swapReady = false)
    (unwanted : s.handshakeWanted = false) : s.settlePair before = s := by
  simp [State.settlePair, unready, unwanted]

theorem handshakeWanted_dropPair : (s.onFace ShowUnit.dropPair).handshakeWanted = s.handshakeWanted := rfl

theorem settlePair_of_unwanted {before : Option SlotNo} (ready : s.face.swapReady = true)
    (unwanted : s.handshakeWanted = false) : s.settlePair before = s.onFace ShowUnit.dropPair := by
  simp [State.settlePair, ready, unwanted, handshakeWanted_dropPair]

/-- SWAPRDY rises, or falls and rises again for another head. -/
theorem settlePair_of_wanted {before : Option SlotNo} (wanted : s.handshakeWanted = true)
    (fresh : s.face.swapReady = false ∨ s.headSlot ≠ before) : s.settlePair before =
      (s.dropDue .pairWaitExpiry).onFace fun f => f.startPair s.lines.partner s.settings.pairWait := by
  cases ready : s.face.swapReady with
  | false => simp [State.settlePair, ready, wanted]
  | true =>
    have moved : s.headSlot ≠ before := fresh.resolve_left (by simp [ready])
    have lowered : (s.onFace ShowUnit.dropPair).face.swapReady = false := rfl
    simp only [State.settlePair, ready, wanted, bne_iff_ne.mpr moved, handshakeWanted_dropPair, lowered, Bool.not_true,
      Bool.not_false, Bool.false_or, Bool.and_true, if_true]
    rfl

/-! ## A handshake that starts -/

theorem after_face (before u : State) : (State.after before u).face = (u.settlePair before.headSlot).face :=
  (State.arbitrate_unchanged (xs := [.due, .bus, .cues, .table]) (by decide)
    (State.prepare_unchanged (by decide) (.refl _ _))).agree .face (by decide)

theorem after_face_started (before u : State) (wanted : u.handshakeWanted = true) (low : u.face.swapReady = false) :
    (State.after before u).face.swapReady = true ∧ (State.after before u).face.latch = u.lines.partner ∧
      (State.after before u).face.pairWait = if u.lines.partner then .idle else .counting u.settings.pairWait := by
  rw [after_face, settlePair_of_wanted wanted (.inl low)]
  exact ⟨rfl, rfl, rfl⟩

theorem handshakeWanted_iff : s.handshakeWanted = true ↔
    s.settings.pairsel = .paired ∧ s.governor = .running ∧ s.face.dwell = .met ∧
      ∃ e, s.head = some e ∧ e.isFrameOrBlank = true ∧ e.pair = true ∧ s.eligible e = true := by
  unfold State.handshakeWanted State.running
  cases s.head <;> simp [and_assoc]

theorem eligible_of_heldOff_ended {e : QueueEntry} (free : e.holdOff = 0)
    (named : e.kind = .blank ∨ e.kind = .frame ∧ ∃ k, e.buffer = some k ∧ s.bufferState k = .staged) :
    e.isFrameOrBlank = true ∧ s.eligible e = true := by
  rcases named with blank | ⟨frame, k, hk, staged⟩
  · simp [QueueEntry.isFrameOrBlank, State.eligible, free, blank]
  · simp [QueueEntry.isFrameOrBlank, State.eligible, free, frame, hk, staged]

theorem meetDwell_eq (h : s.face.dwell = .counting 1) :
    s.meetDwell = State.after s (s.onFace fun f => { f with dwell := .met }) := by
  simp only [State.meetDwell, h, beq_self_eq_true, if_true]
  rfl

/-- Settles O47. -/
theorem inputEdgesCountAndLatch : Obligations.InputEdgesCountAndLatch := by
  unfold Obligations.InputEdgesCountAndLatch
  refine ⟨fun ch s quiet => ?_, fun level s quiet => ⟨?_, ?_⟩, fun before s => ⟨?_, ?_, ?_, ?_⟩, ?_⟩
  · refine .of_act (f := fun t => t.setChannel ch (t.channel ch).pulse) quiet rfl ?_
    have counted : (s.setChannel ch (s.channel ch).pulse).channel ch = (s.channel ch).pulse := by
      cases ch <;> rfl
    rw [counted]
    exact ⟨State.setChannel_unchanged _ _ (by decide) (.refl _ s), rfl, channelRecord_pulse_eq _⟩
  · rintro n rfl ready clear waits
    rw [exec_partnerRise quiet, if_pos rfl,
      partnerHigh_of_waiting (s := s.onLines fun l => { l with partner := true }) (n := n) ready clear waits]
  · rintro (rfl | still)
    · rw [exec_partnerRise quiet, if_neg (by decide)]
    · rw [exec_partnerRise quiet, partnerHigh_of_not_waiting (s := s.onLines fun l => { l with partner := level }) still, ite_self]
  · intro ready stands
    have ⟨wanted, head⟩ := not_or.mp stands
    exact settlePair_of_standing ready (by simpa using wanted) (by simpa using head)
  · exact settlePair_of_low
  · exact settlePair_of_unwanted
  · rintro fresh wanted
    have other : s.face.swapReady = false ∨ s.headSlot ≠ before :=
      fresh.imp_right fun ends => ends.resolve_left (by simp [wanted])
    exact settlePair_of_wanted wanted other
  · rintro c n e rest s paired runs low queue pair (⟨rfl, due, last, kind, eligible⟩ | ⟨rfl, due, met, slot, last, named⟩)
    · refine .of_due due ?_
      have taken := meetDwell_eq (s := s.dropDue .dwellMet) last
      rw [show (s.dropDue .dwellMet).takeDue .dwellMet = (s.dropDue .dwellMet).meetDwell from rfl, taken]
      refine after_face_started _ ((s.dropDue .dwellMet).onFace fun f => { f with dwell := .met })
        (handshakeWanted_iff.mpr ⟨paired, runs, rfl, e, ?_, kind, pair, eligible⟩) low
      exact congrArg List.head? queue
    · refine .of_due due ?_
      have ⟨ended, ready⟩ := eligible_of_heldOff_ended (s := s) (e := { e with holdOff := 0 }) rfl named
      refine after_face_started _ ((s.dropDue (.holdOffEnd n)).onEntry n fun e =>
        if e.holdOff == 1 then { e with holdOff := 0 } else e) (handshakeWanted_iff.mpr ⟨paired, runs, met, { e with holdOff := 0 }, ?_, ended, pair, ready⟩) low
      change (s.cues.queue.map _).head? = _
      simp [queue, slot, last]

end Sys2Proof.Safety
end

section
/-! SUPPORT. Queued cues that end together (01 R21, 03 R66): the fold of one cancellation over a list of entries. -/

namespace Sys2Proof.Safety

open Sys2Proof.Machine

variable {s t : State} {es : List QueueEntry} {e : QueueEntry} {n : SlotNo} {k : BufferNo}

/-! ## One entry -/

theorem endQueued_ring (s : State) (e : QueueEntry) (o : CueOutcome) :
    (s.endQueued e o).cues.shadow = s.cues.shadow ∧ (s.endQueued e o).cues.noted = s.cues.noted := by
  rw [endQueued_cues, State.closeSlot, State.setOutcome, State.listSlot]
  split <;> exact ⟨rfl, rfl⟩

theorem releasedRecord_state (k : BufferNo) (q : BufferRecord) : (releasedRecord k q).state =
    if q.state = .verifying ∨ q.state = .staged then (if k = noticeBuffer then .wiping else .retiring) else q.state := by
  unfold releasedRecord
  split
  · split <;> rfl
  · rfl

theorem releaseEntryBuffer_gate (s : State) (e : QueueEntry) : (s.releaseEntryBuffer e).table.gate = s.table.gate ∧
    (s.releaseEntryBuffer e).table.sweeping = s.table.sweeping := by
  unfold State.releaseEntryBuffer
  split
  · unfold State.releaseBuffer State.abortVerify
    split <;> exact ⟨rfl, rfl⟩
  · exact ⟨rfl, rfl⟩

/-- A cue that ends leaves the gate and the sweep. -/
theorem endQueued_gate (s : State) (e : QueueEntry) (o : CueOutcome) : (s.endQueued e o).table.gate = s.table.gate ∧
    (s.endQueued e o).table.sweeping = s.table.sweeping := by
  have htable : ((s.dequeue e.slot).closeSlot e.slot o none).table = s.table :=
    (dequeued_closed_frame s e o).agree .table (by decide)
  rw [← htable]
  exact releaseEntryBuffer_gate _ e

/-! ## A list of entries -/

/-- The entries cancelled in turn. -/
def cancelledAll (s : State) (es : List QueueEntry) : State := es.foldl (fun t e => t.endQueued e .cancelled) s

theorem cancelQueue_eq (s : State) : s.cancelQueue = cancelledAll s s.cues.queue := rfl

theorem cancelledAll_cons (s : State) (e : QueueEntry) (es : List QueueEntry) :
    cancelledAll s (e :: es) = cancelledAll (s.endQueued e .cancelled) es := rfl

theorem cancelledAll_frame (s : State) (es : List QueueEntry) : Unchanged [.bus, .table, .cues] s (cancelledAll s es) := by
  induction es generalizing s with
  | nil => exact .refl _ s
  | cons e es ih => exact (endQueued_frame s e .cancelled).trans (ih _)

theorem cancelledAll_ring (s : State) (es : List QueueEntry) :
    (cancelledAll s es).cues.shadow = s.cues.shadow ∧ (cancelledAll s es).cues.noted = s.cues.noted := by
  induction es generalizing s with
  | nil => exact ⟨rfl, rfl⟩
  | cons e es ih =>
    obtain ⟨hshadow, hnoted⟩ := ih (s.endQueued e .cancelled)
    obtain ⟨kshadow, knoted⟩ := endQueued_ring s e .cancelled
    exact ⟨hshadow.trans kshadow, hnoted.trans knoted⟩

theorem cancelledAll_gate (s : State) (es : List QueueEntry) : (cancelledAll s es).table.gate = s.table.gate := by
  induction es generalizing s with
  | nil => rfl
  | cons e es ih => exact (ih _).trans (endQueued_gate s e .cancelled).1

theorem mem_cancelledAll_queue {q : QueueEntry} :
    q ∈ (cancelledAll s es).cues.queue ↔ q ∈ s.cues.queue ∧ ∀ e ∈ es, q.slot ≠ e.slot := by
  induction es generalizing s with
  | nil => simp [cancelledAll]
  | cons e es ih => rw [cancelledAll_cons, ih, endQueued_queue]; simp [and_assoc]

theorem cancelQueue_queue (s : State) : s.cancelQueue.cues.queue = [] := by
  rw [List.eq_nil_iff_forall_not_mem, cancelQueue_eq]
  intro q hq
  obtain ⟨inside, apart⟩ := mem_cancelledAll_queue.mp hq
  exact apart q inside rfl

theorem cancelledAll_slot_of_other (s : State) (h : ∀ e ∈ es, e.slot ≠ n) : (cancelledAll s es).slot n = s.slot n := by
  induction es generalizing s with
  | nil => rfl
  | cons e es ih =>
    obtain ⟨apart, rest⟩ := List.forall_mem_cons.mp h
    rw [cancelledAll_cons, ih _ rest, endQueued_slot, if_neg (Ne.symm apart)]

/-- A cancelled slot. -/
def ClosedCancelled (s : State) (n : SlotNo) : Prop := (s.slot n).state = .closing ∧ (s.slot n).outcome = some .cancelled

theorem closedCancelled_endQueued_self (s : State) (e : QueueEntry) : ClosedCancelled (s.endQueued e .cancelled) e.slot := by
  unfold ClosedCancelled
  rw [endQueued_slot, if_pos rfl]
  exact ⟨rfl, rfl⟩

theorem ClosedCancelled.endQueued (h : ClosedCancelled s n) (e : QueueEntry) : ClosedCancelled (s.endQueued e .cancelled) n := by
  by_cases same : n = e.slot
  · subst same
    exact closedCancelled_endQueued_self s e
  · unfold ClosedCancelled
    rw [endQueued_slot, if_neg same]
    exact h

theorem ClosedCancelled.cancelledAll (h : ClosedCancelled s n) (es : List QueueEntry) : ClosedCancelled (cancelledAll s es) n := by
  induction es generalizing s with
  | nil => exact h
  | cons e es ih => exact ih (h.endQueued e)

theorem cancelledAll_closed (s : State) (h : e ∈ es) : ClosedCancelled (cancelledAll s es) e.slot := by
  induction es generalizing s with
  | nil => cases h
  | cons q es ih =>
    rcases List.mem_cons.mp h with rfl | inside
    · exact (closedCancelled_endQueued_self s e).cancelledAll es
    · exact ih _ inside

/-! ## Their buffers (R29) -/

theorem endQueued_bufferState_eq (s : State) (e : QueueEntry) (o : CueOutcome) (k : BufferNo) :
    (s.endQueued e o).bufferState k =
      if e.buffer = some k ∧ (s.bufferState k = .verifying ∨ s.bufferState k = .staged) then
        (if k = noticeBuffer then .wiping else .retiring)
      else s.bufferState k := by
  rw [State.bufferState, endQueued_record]
  by_cases named : e.buffer = some k
  · rw [if_pos named, releasedRecord_state]
    simp only [named, true_and]
    rfl
  · rw [if_neg named, if_neg fun h => named h.1]
    rfl

theorem cancelledAll_bufferState (s : State) (es : List QueueEntry) (k : BufferNo) : (cancelledAll s es).bufferState k =
    if (∃ e ∈ es, e.buffer = some k) ∧ (s.bufferState k = .verifying ∨ s.bufferState k = .staged) then
      (if k = noticeBuffer then .wiping else .retiring)
    else s.bufferState k := by
  induction es generalizing s with
  | nil => simp [cancelledAll]
  | cons e es ih =>
    rw [cancelledAll_cons, ih, endQueued_bufferState_eq]
    by_cases waits : s.bufferState k = .verifying ∨ s.bufferState k = .staged
    · by_cases named : e.buffer = some k
      · have moved : ¬ ((if k = noticeBuffer then BufferState.wiping else .retiring) = .verifying ∨
            (if k = noticeBuffer then BufferState.wiping else .retiring) = .staged) := by split <;> simp
        simp [named, waits, moved]
      · simp [named, waits]
    · simp [waits]

theorem cancelledAll_lastCrc (s : State) (es : List QueueEntry) (k : BufferNo) :
    ((cancelledAll s es).table.records.get k).lastCrc = (s.table.records.get k).lastCrc := by
  induction es generalizing s with
  | nil => rfl
  | cons e es ih => rw [cancelledAll_cons, ih, endQueued_lastCrc]

/-! ## The verify of one of them (R45) -/

theorem VerifiedFor.congr (h : t.table.verifying = s.table.verifying) : VerifiedFor t e ↔ VerifiedFor s e := by
  unfold VerifiedFor
  rw [h]

theorem cancelledAll_of_unverified (none : ∀ e ∈ es, ¬ VerifiedFor s e) :
    (cancelledAll s es).bus = s.bus ∧ (cancelledAll s es).table.verifying = s.table.verifying := by
  induction es generalizing s with
  | nil => exact ⟨rfl, rfl⟩
  | cons e es ih =>
    obtain ⟨first, rest⟩ := List.forall_mem_cons.mp none
    obtain ⟨hbus, hwork⟩ := endQueued_of_unverified .cancelled first
    obtain ⟨kbus, kwork⟩ := ih (s := s.endQueued e .cancelled) fun q hq => (VerifiedFor.congr hwork).not.mpr (rest q hq)
    exact ⟨kbus.trans hbus, kwork.trans hwork⟩

theorem cancelledAll_of_verified (one : ∃ e ∈ es, VerifiedFor s e) :
    (cancelledAll s es).bus = verifyGivenUp s.bus ∧ (cancelledAll s es).table.verifying = none := by
  induction es generalizing s with
  | nil => simp at one
  | cons e es ih =>
    by_cases first : VerifiedFor s e
    · obtain ⟨hbus, hidle⟩ := endQueued_of_verified .cancelled first
      obtain ⟨kbus, kidle⟩ := cancelledAll_of_unverified (s := s.endQueued e .cancelled) (es := es) fun q _ ⟨w, hw, _⟩ =>
        nomatch hidle.symm.trans hw
      exact ⟨kbus.trans hbus, kidle.trans hidle⟩
    · obtain ⟨hbus, hwork⟩ := endQueued_of_unverified .cancelled first
      obtain ⟨q, hq, verified⟩ := one
      have inside : q ∈ es := (List.mem_cons.mp hq).resolve_left fun same => first (same ▸ verified)
      obtain ⟨kbus, kidle⟩ := ih (s := s.endQueued e .cancelled) ⟨q, inside, (VerifiedFor.congr hwork).mpr verified⟩
      exact ⟨kbus.trans (congrArg verifyGivenUp hbus), kidle⟩

end Sys2Proof.Safety
end

section
/-! The reset line of the upstream port (01 R21, R18). Settles O48. -/

namespace Sys2Proof.Safety

open Sys2Proof.Machine

variable {s t u : State} {p : Burst} {k : BufferNo} {n : SlotNo}

/-! ## The abandoned transaction -/

theorem abandon_port_own {b : BusState} {e : Engine} (h : b.port = some p) (own : p.source = .own e) :
    b.abandon.port = some p := by
  simp [BusState.abandon, h, own]

theorem abandon_port_forwarded {b : BusState} {r : TxRecord} (h : b.port = some p) (forwarded : p.source = .forwarded)
    (running : b.upstream = some r) : b.abandon.port = some { p with
      discarded := true, length := if r.direction = .write then r.wordsDone else p.length } := by
  simp [BusState.abandon, h, forwarded, running]

theorem abandonUpstream_frame (s : State) : Unchanged [.lines, .bus] s s.abandonUpstream :=
  State.abandonUpstream_unchanged (by decide) (.refl _ s)

/-! ## What the reset does to the queue, the buffers and the engine -/

/-- The reset's own effect, on the state whose transaction was abandoned. -/
def resetEffect (t : State) : State :=
  (t.dropNotedCues.dropNotedReports.cancelQueue.onTable fun u =>
    { u with records := u.records.mapIdx BufferRecord.upstreamReset }).onBus fun b => { b with waited := t.bus.waited }

theorem upstreamReset_eq (s : State) : s.upstreamReset =
    (State.after s.abandonUpstream (resetEffect s.abandonUpstream)).onBus BusState.withdrawn := rfl

theorem resetEffect_frame (t : State) : Unchanged [.bus, .table, .cues, .scan] t (resetEffect t) :=
  State.onBus_unchanged _ (by decide) (State.onTable_unchanged _ (by decide) (State.cancelQueue_unchanged (by decide)
    (State.dropNotedReports_unchanged (by decide) (State.dropNotedCues_unchanged (by decide) (.refl _ t)))))

theorem resetEffect_ring (t : State) : (resetEffect t).cues.shadow = t.cues.shadow ∧ (resetEffect t).cues.queue = [] ∧
    (resetEffect t).cues.noted = [] := by
  obtain ⟨hshadow, hnoted⟩ := cancelledAll_ring t.dropNotedCues.dropNotedReports t.cues.queue
  exact ⟨hshadow, cancelQueue_queue _, hnoted⟩

theorem resetEffect_scan (t : State) : (resetEffect t).scan = { t.scan with noted := [] } :=
  (cancelledAll_frame t.dropNotedCues.dropNotedReports t.cues.queue).agree .scan (by decide)

theorem resetEffect_slot_of_other (h : ∀ e ∈ t.cues.queue, e.slot ≠ n) : (resetEffect t).slot n = t.slot n :=
  cancelledAll_slot_of_other t.dropNotedCues.dropNotedReports h

theorem resetEffect_closed {e : QueueEntry} (h : e ∈ t.cues.queue) : ClosedCancelled (resetEffect t) e.slot :=
  cancelledAll_closed t.dropNotedCues.dropNotedReports h

theorem upstreamReset_state (k : BufferNo) (q : BufferRecord) : (BufferRecord.upstreamReset k q).state =
    if q.state = .filling then (if k = noticeBuffer then .wiping else .free) else q.state := by
  simp only [BufferRecord.upstreamReset, beq_iff_eq]
  split
  · split <;> rfl
  · rfl

theorem upstreamReset_lastCrc (k : BufferNo) (q : BufferRecord) : (BufferRecord.upstreamReset k q).lastCrc = q.lastCrc := by
  unfold BufferRecord.upstreamReset
  split
  · split <;> rfl
  · rfl

theorem resetEffect_record (t : State) (k : BufferNo) : (resetEffect t).table.records.get k =
    BufferRecord.upstreamReset k ((cancelledAll t.dropNotedCues.dropNotedReports t.cues.queue).table.records.get k) :=
  Table.get_mapIdx ..

theorem resetEffect_lastCrc (t : State) (k : BufferNo) :
    ((resetEffect t).table.records.get k).lastCrc = (t.table.records.get k).lastCrc := by
  rw [resetEffect_record, upstreamReset_lastCrc, cancelledAll_lastCrc]
  rfl

theorem resetEffect_bufferState (t : State) (k : BufferNo) : (resetEffect t).bufferState k =
    if t.bufferState k = .filling then (if k = noticeBuffer then .wiping else .free)
    else if (∃ e ∈ t.cues.queue, e.buffer = some k) ∧ (t.bufferState k = .verifying ∨ t.bufferState k = .staged) then
      (if k = noticeBuffer then .wiping else .retiring)
    else t.bufferState k := by
  have cancels : ((cancelledAll t.dropNotedCues.dropNotedReports t.cues.queue).table.records.get k).state =
      if (∃ e ∈ t.cues.queue, e.buffer = some k) ∧ (t.bufferState k = .verifying ∨ t.bufferState k = .staged) then
        (if k = noticeBuffer then .wiping else .retiring)
      else t.bufferState k := cancelledAll_bufferState t.dropNotedCues.dropNotedReports t.cues.queue k
  rw [State.bufferState, resetEffect_record, upstreamReset_state, cancels]
  by_cases filling : t.bufferState k = .filling
  · simp [filling]
  · rw [if_neg filling, if_neg]
    split
    · split <;> simp
    · exact filling

theorem resetEffect_of_unverified (none : ∀ e ∈ t.cues.queue, ¬ VerifiedFor t e) :
    (resetEffect t).bus = t.bus ∧ (resetEffect t).table.verifying = t.table.verifying := by
  obtain ⟨hbus, hwork⟩ := cancelledAll_of_unverified (s := t.dropNotedCues.dropNotedReports) none
  exact ⟨congrArg (fun b : BusState => { b with waited := t.bus.waited }) hbus, hwork⟩

theorem resetEffect_of_verified (one : ∃ e ∈ t.cues.queue, VerifiedFor t e) :
    (resetEffect t).bus = { verifyGivenUp t.bus with waited := t.bus.waited } ∧ (resetEffect t).table.verifying = none := by
  obtain ⟨hbus, hidle⟩ := cancelledAll_of_verified (s := t.dropNotedCues.dropNotedReports) one
  exact ⟨congrArg (fun b : BusState => { b with waited := t.bus.waited }) hbus, hidle⟩

/-- Of the bus only the verify engine's burst and request move. -/
theorem resetEffect_path (t : State) : { (resetEffect t).bus with port := t.bus.port, verifyReq := t.bus.verifyReq } = t.bus := by
  by_cases h : ∃ e ∈ t.cues.queue, VerifiedFor t e
  · rw [(resetEffect_of_verified h).1]
    rfl
  · rw [(resetEffect_of_unverified (by simpa using h)).1]

theorem resetEffect_port_of_other (h : t.bus.port = some p) (other : p.source ≠ .own .verify) :
    (resetEffect t).bus.port = some p := by
  by_cases hv : ∃ e ∈ t.cues.queue, VerifiedFor t e
  · rw [(resetEffect_of_verified hv).1]
    exact verifyGivenUp_port_of_other h other
  · rw [(resetEffect_of_unverified (by simpa using hv)).1, h]

theorem resetEffect_port_isSome (t : State) : (resetEffect t).bus.port.isSome = t.bus.port.isSome := by
  by_cases hv : ∃ e ∈ t.cues.queue, VerifiedFor t e
  · rw [(resetEffect_of_verified hv).1]
    exact Option.isSome_map
  · rw [(resetEffect_of_unverified (by simpa using hv)).1]

/-! ## What follows it -/

theorem withdrawn_waited (b : BusState) : b.withdrawn.waited = if b.withdrawn.anyRequest then b.waited else 0 := by
  unfold BusState.withdrawn
  split
  next => rfl
  next h => exact (if_neg h).symm

/-- With the queue empty no handshake runs on and the verify engine finds nothing. -/
theorem after_empty_swapReady (before : State) (empty : u.cues.queue = []) :
    (State.after before u).face.swapReady = false := by
  have unwanted : u.handshakeWanted = false := by
    simp [State.handshakeWanted, State.head, empty]
  rw [after_face]
  cases ready : u.face.swapReady with
  | false => rw [settlePair_of_low ready unwanted, ready]
  | true =>
    rw [settlePair_of_unwanted ready unwanted]
    rfl

theorem after_empty_verifying (before : State) (empty : u.cues.queue = []) (idle : u.table.verifying = none) :
    (State.after before u).table.verifying = none := by
  have hidle : (u.settlePair before.headSlot).table.verifying = none := by rw [settlePair_table, idle]
  obtain ⟨-, -, -, -, chosen⟩ := prepare_choices (u.settlePair before.headSlot)
  rw [after_table, readied, chosen hidle, settlePair_cues, empty]
  rfl

/-! ## The rows -/

theorem exec_upstreamReset (quiet : Quiet s) (low : s.lines.fbrst = false) :
    exec .upstreamReset s = .next s.upstreamReset := by
  change execUpstreamReset s = _
  simp only [execUpstreamReset, quiet.1, low, settle_of_quiet quiet, Bool.false_eq_true, if_false]

theorem exec_upstreamReset_again (quiet : Quiet s) (high : s.lines.fbrst = true) : exec .upstreamReset s = .next s := by
  change execUpstreamReset s = _
  simp only [execUpstreamReset, quiet.1, high, settle_of_quiet quiet, Bool.false_eq_true, if_false, if_true]

theorem exec_upstreamResetRelease (quiet : Quiet s) (high : s.lines.fbrst = true) :
    exec .upstreamResetRelease s = .next s.upstreamRelease := by
  change execUpstreamResetRelease s = _
  simp only [execUpstreamResetRelease, quiet.1, high, settle_of_quiet quiet, Bool.false_eq_true, if_false, if_true]

theorem exec_upstreamResetRelease_again (quiet : Quiet s) (low : s.lines.fbrst = false) :
    exec .upstreamResetRelease s = .next s := by
  change execUpstreamResetRelease s = _
  simp only [execUpstreamResetRelease, quiet.1, low, settle_of_quiet quiet, Bool.false_eq_true, if_false]

theorem exec_upstreamReset_of_reset (hrst : s.lines.rstn = true) :
    exec .upstreamReset s = .next (if s.lines.fbrst then s else s.abandonUpstream) := by
  change execUpstreamReset s = _
  simp only [execUpstreamReset, hrst, if_true]

theorem exec_upstreamResetRelease_of_reset (hrst : s.lines.rstn = true) :
    exec .upstreamResetRelease s = .next (s.onLines fun l => { l with fbrst := false }) := by
  change execUpstreamResetRelease s = _
  simp only [execUpstreamResetRelease, hrst, if_true]

theorem upstreamRelease_takes (hrst : s.lines.rstn = false) (free : s.bus.port = none) (unclaimed : s.bus.guardClaims = false)
    (held : s.bus.presented.isSome = true) (idle : s.bus.upstream = none) : .takePresented ∈ s.upstreamRelease.due := by
  rw [State.upstreamRelease, arbitrate_of_waiting (s := s.onLines fun l => { l with fbrst := false }) hrst free unclaimed
    ((canTake_iff _).mpr ⟨held, idle, rfl⟩)]
  exact mem_insertDue ..

theorem upstreamRelease_wipes {r : OwnRequest} (hrst : s.lines.rstn = false) (free : s.bus.port = none)
    (unclaimed : s.bus.guardClaims = false) (empty : s.bus.presented = none) (hw : s.bus.writeBackReq = none)
    (hr : s.bus.wipeReq = some r) : s.upstreamRelease.bus.port = some r.burst := by
  have noTake : (s.onLines fun l => { l with fbrst := false }).canTake = false := by
    rw [Bool.eq_false_iff, Ne, canTake_iff]
    simp [empty]
  rw [State.upstreamRelease, arbitrate_of_own (s := s.onLines fun l => { l with fbrst := false }) hrst free unclaimed noTake,
    grantOwn_wipe (s := s.onLines fun l => { l with fbrst := false }) hw hr]
  rfl

/-! ## What the reset leaves -/

theorem upstreamReset_table (s : State) : s.upstreamReset.table =
    (State.after s.abandonUpstream (resetEffect s.abandonUpstream)).table := rfl

theorem upstreamReset_port (s : State) : s.upstreamReset.bus.port =
    (State.after s.abandonUpstream (resetEffect s.abandonUpstream)).bus.port := BusState.withdrawn_port ..

theorem upstreamReset_verifyReq (s : State) : s.upstreamReset.bus.verifyReq =
    (State.after s.abandonUpstream (resetEffect s.abandonUpstream)).bus.verifyReq := BusState.withdrawn_verifyReq ..

/-- R45: the verify of a queued cue's buffer is given up. -/
theorem upstreamReset_givenUp (one : ∃ e ∈ s.cues.queue, VerifiedFor s e) :
    s.upstreamReset.table.verifying = none ∧ VerifyGivenUp s s.upstreamReset := by
  obtain ⟨hbus, hidle⟩ := resetEffect_of_verified (t := s.abandonUpstream) one
  obtain ⟨fresh, asked, port, crcs⟩ := VerifyGivenUp.after (s := s.abandonUpstream) s.abandonUpstream hidle
    (by rw [hbus]; rfl) (by rw [hbus]; rfl) (resetEffect_lastCrc _)
    (congrArg Settings.layout ((resetEffect_frame s.abandonUpstream).agree .settings (by decide)))
  refine ⟨?_, fresh, fun q hq => ?_, fun b hb own => ?_, crcs⟩
  · exact after_empty_verifying _ (resetEffect_ring s.abandonUpstream).2.1 hidle
  · exact asked q ((upstreamReset_verifyReq s).symm.trans hq)
  · exact (upstreamReset_port s).trans (port b (abandon_port_own hb own) own)

/-- Any other verify goes on. -/
theorem upstreamReset_stands (others : ∀ e ∈ s.cues.queue, ¬ VerifiedFor s e) : VerifyStands s s.upstreamReset := by
  obtain ⟨hbus, hwork⟩ := resetEffect_of_unverified (t := s.abandonUpstream) others
  obtain ⟨work, request, port⟩ := VerifyStands.after (s := s.abandonUpstream) s.abandonUpstream hwork
    (by rw [hbus]) (by rw [hbus])
  refine ⟨work, fun q hq => ?_, fun b hb own => ?_⟩
  · rw [upstreamReset_verifyReq, upstreamReset_port]
    exact request q hq
  · exact (upstreamReset_port s).trans (port b (abandon_port_own hb own) own)

theorem upstreamReset_follows (s : State) :
    Follows (resetEffect s.abandonUpstream) (State.after s.abandonUpstream (resetEffect s.abandonUpstream)) :=
  after_follows _ _

theorem upstreamReset_port_of_other (h : s.abandonUpstream.bus.port = some p) (other : p.source ≠ .own .verify) :
    s.upstreamReset.bus.port = some p :=
  (upstreamReset_port s).trans (after_port _ (resetEffect_port_of_other h other))

/-- R17: the waited-grant count stands while a request pends. -/
theorem upstreamReset_waited (held : s.bus.port.isSome = true) : s.upstreamReset.bus.waited =
    if s.upstreamReset.bus.anyRequest then s.bus.waited else 0 := by
  have busy : (resetEffect s.abandonUpstream).bus.port.isSome = true := by
    rw [resetEffect_port_isSome]
    exact Option.isSome_map.trans held
  have stands := after_waited s.abandonUpstream busy
  have kept : (resetEffect s.abandonUpstream).bus.waited = s.bus.waited := rfl
  have withdrawn := withdrawn_waited (State.after s.abandonUpstream (resetEffect s.abandonUpstream)).bus
  rw [stands, kept] at withdrawn
  exact withdrawn

theorem upstreamReset_bufferState (s : State) (k : BufferNo) : s.upstreamReset.bufferState k =
    if s.bufferState k = .filling then (if k = noticeBuffer then .wiping else .free)
    else if (∃ e ∈ s.cues.queue, e.buffer = some k) ∧ (s.bufferState k = .verifying ∨ s.bufferState k = .staged) then
      (if k = noticeBuffer then .wiping else .retiring)
    else s.bufferState k :=
  ((upstreamReset_follows s).bufferState k).trans (resetEffect_bufferState s.abandonUpstream k)

theorem upstreamReset_slot (s : State) (n : SlotNo) :
    s.upstreamReset.slot n = { (resetEffect s.abandonUpstream).slot n with listed := (s.upstreamReset.slot n).listed } :=
  (upstreamReset_follows s).slot n

theorem withdrawn_path (b : BusState) : b.withdrawn.presented = b.presented ∧ b.withdrawn.upstream = b.upstream ∧
    b.withdrawn.errorMark = b.errorMark ∧ b.withdrawn.delivered = b.delivered ∧ b.withdrawn.closed = b.closed := by
  unfold BusState.withdrawn
  split <;> exact ⟨rfl, rfl, rfl, rfl, rfl⟩

theorem upstreamReset_path (s : State) : s.upstreamReset.bus.presented = none ∧ s.upstreamReset.bus.upstream = none ∧
    s.upstreamReset.bus.errorMark = s.bus.errorMark ∧ s.upstreamReset.bus.delivered = s.bus.delivered ∧
    s.upstreamReset.bus.closed = s.bus.closed := by
  have follows := (upstreamReset_follows s).path
  have effect := resetEffect_path s.abandonUpstream
  obtain ⟨hpresented, hupstream, hmark, hdelivered, hclosed⟩ :=
    withdrawn_path (State.after s.abandonUpstream (resetEffect s.abandonUpstream)).bus
  exact ⟨hpresented.trans ((congrArg BusState.presented follows :).trans (congrArg BusState.presented effect :)),
    hupstream.trans ((congrArg BusState.upstream follows :).trans (congrArg BusState.upstream effect :)),
    hmark.trans ((congrArg BusState.errorMark follows :).trans (congrArg BusState.errorMark effect :)),
    hdelivered.trans ((congrArg BusState.delivered follows :).trans (congrArg BusState.delivered effect :)),
    hclosed.trans ((congrArg BusState.closed follows :).trans (congrArg BusState.closed effect :))⟩

/-- Settles O48. -/
theorem upstreamResetAndRelease : Obligations.UpstreamResetAndRelease := by
  unfold Obligations.UpstreamResetAndRelease
  refine ⟨fun s quiet low => .of_next (exec_upstreamReset quiet low) ?_, fun s quiet high => ?_,
    fun s quiet high => exec_upstreamReset_again quiet high, fun s quiet low => exec_upstreamResetRelease_again quiet low,
    fun s hrst => ⟨fun low => ?_, fun high => ?_, exec_upstreamResetRelease_of_reset hrst⟩⟩
  · have follows := upstreamReset_follows s
    obtain ⟨hshadow, hqueue, hnoted⟩ := follows.ring
    obtain ⟨eshadow, equeue, enoted⟩ := resetEffect_ring s.abandonUpstream
    obtain ⟨hpresented, hupstream, hmark, hdelivered, hclosed⟩ := upstreamReset_path s
    refine ⟨State.upstreamReset_unchanged (by decide) (.refl _ s), ?_, hpresented, hupstream, upstreamReset_waited, hmark,
      hdelivered, hclosed, fun p hp forwarded running => ?_, fun p e hp own other => ?_, fun w hw one => ?_, fun none => ?_,
      hqueue.trans equeue, hnoted.trans enoted, hshadow.trans eshadow, ?_, fun e he => ?_, fun n apart => ?_, ?_, ?_, ?_,
      fun k filling => ?_, fun k waits named => ?_, fun k unfilled unverified unstaged => ?_⟩
    · refine Eq.trans (b := (resetEffect s.abandonUpstream).lines) (follows.blocks.agree .lines (by decide)) ((resetEffect_frame s.abandonUpstream).agree .lines (by decide))
    · obtain ⟨r, hr⟩ := Option.isSome_iff_exists.mp running
      refine ⟨_, upstreamReset_port_of_other (abandon_port_forwarded hp forwarded hr) ?_, forwarded, rfl, rfl, fun q hq => ?_⟩
      · exact fun own => nomatch forwarded.symm.trans own
      · cases hr.symm.trans hq
        rfl
    · refine upstreamReset_port_of_other (abandon_port_own hp own) fun verify => other ?_
      cases own.symm.trans verify
      rfl
    · obtain ⟨e, he, hb⟩ := one
      exact upstreamReset_givenUp ⟨e, he, w, hw, hb⟩
    · exact upstreamReset_stands fun e he ⟨w, hw, hb⟩ => none w hw e he hb
    · refine Eq.trans (b := (resetEffect s.abandonUpstream).scan) (follows.blocks.agree .scan (by decide)) (resetEffect_scan s.abandonUpstream)
    · obtain ⟨closing, cancelled⟩ := resetEffect_closed (t := s.abandonUpstream) he
      rw [upstreamReset_slot]
      exact ⟨closing, cancelled⟩
    · rw [upstreamReset_slot, resetEffect_slot_of_other (t := s.abandonUpstream) apart]
      rfl
    · have kept : (resetEffect s.abandonUpstream).face = s.face := (resetEffect_frame s.abandonUpstream).agree .face (by decide)
      have hface := follows.face
      rw [kept] at hface
      exact (congrArg (fun f : ShowUnit => { f with
        swapReady := s.upstreamReset.face.swapReady, latch := s.upstreamReset.face.latch
        pairWait := s.upstreamReset.face.pairWait }) hface :)
    · exact after_empty_swapReady _ equeue
    · exact follows.gate.trans (cancelledAll_gate s.abandonUpstream.dropNotedCues.dropNotedReports _)
    · rw [upstreamReset_bufferState, if_pos filling]
    · rw [upstreamReset_bufferState, if_neg, if_pos ⟨named, waits⟩]
      rcases waits with h | h <;> simp [h]
    · rw [upstreamReset_bufferState, if_neg unfilled, if_neg]
      rintro ⟨-, waits⟩
      exact waits.elim unverified unstaged
  · refine .of_next (exec_upstreamResetRelease quiet high) ⟨arbitrate_follows _, ?_, ?_⟩
    · exact upstreamRelease_takes quiet.1
    · exact fun r => upstreamRelease_wipes quiet.1
  · refine .of_next (exec_upstreamReset_of_reset hrst) ?_
    rw [low]
    refine ⟨abandonUpstream_frame s, rfl, rfl, fun free => ?_⟩
    change s.bus.abandon.port = none
    simp [BusState.abandon, free]
  · rw [exec_upstreamReset_of_reset hrst, if_pos high]

end Sys2Proof.Safety
end

section
/-! SUPPORT. A watched cue write's end (03 R50 to R53): the words' fields, the checks kind by kind, and each effect. -/

namespace Sys2Proof.Safety

open Sys2Proof.Machine

variable {s t : State} {r : TxRecord} {n m : SlotNo} {w7 : Word} {k : BufferNo}

/-! ## The fields (R193) -/

theorem extract_toNat (w : Word) (low width : Nat) : (w.extractLsb' low width).toNat = w.toNat / 2 ^ low % 2 ^ width := by
  rw [BitVec.extractLsb'_toNat, Nat.shiftRight_eq_div_pow]

theorem getLsbD_iff (w : Word) (low : Nat) : w.getLsbD low = decide (w.toNat / 2 ^ low % 2 ^ 1 = 1) := by
  rw [BitVec.getLsbD, Nat.testBit_eq_decide_div_mod_eq, pow_one]

theorem cueKindOf_iff (w : Word) :
    (cueKindOf w = some .frame ↔ w.toNat / 2 ^ 0 % 2 ^ 4 = 1) ∧ (cueKindOf w = some .notice ↔ w.toNat / 2 ^ 0 % 2 ^ 4 = 2) ∧
    (cueKindOf w = some .blank ↔ w.toNat / 2 ^ 0 % 2 ^ 4 = 3) ∧ (cueKindOf w = some .withdraw ↔ w.toNat / 2 ^ 0 % 2 ^ 4 = 4) := by
  rw [← extract_toNat, cueKindOf]
  split <;> simp_all

theorem isAll_iff (en : ByteEnables) : en.isAll = true ↔ en = { b3 := true, b2 := true, b1 := true, b0 := true } := by
  obtain ⟨b3, b2, b1, b0⟩ := en
  simp [ByteEnables.isAll, and_assoc]

theorem commits_iff {k : Nat} (w : NotedWord k) : w.commits = true ↔ w.enables.isAll = true ∧ commitMarkerOf w.word = 0x5C#8 := by
  simp [NotedWord.commits, commitMarker]

theorem judgeNoted_eq (s : State) (w : NotedWord 32) : s.judgeNoted w =
    if w.enables.isAll = true ∧ commitMarkerOf w.word = 0x5C#8 then s.judgeCommit w.slot w.word else s := by
  simp only [State.judgeNoted, commits_iff]

/-! ## The end of the write that brought the commits -/

/-- What the judged commits find: the transaction closed, its port free, the notes taken. -/
def commitsFind (s : State) (r : TxRecord) : State := (completedAs s r .ok).dropNotedCues

theorem commits_end (ending : Ending r .ok s) (watched : r.verdict = .watch) (cue : r.window = .cue)
    (governed : r.governed = true) (running : s.governor = .running) : exec (.forwardedBurstEnd .ok) s =
      .next (State.after s (s.cues.noted.foldl State.judgeNoted (commitsFind s r))) := by
  obtain ⟨quiet, hupstream, late, p, hport, forwarded, kept⟩ := ending
  have hexec : exec (.forwardedBurstEnd .ok) s = .next (s.endForwarded r .ok) := by
    rw [exec_forwardedBurstEnd_of_quiet quiet]
    simp [State.endForwardedBurst, forwardedBurst_of_port hport forwarded, hupstream, kept, late]
  have judged := (handStatus_of_judged (s := completedAs s r .ok) watched governed running).1 cue
  rw [hexec, State.endForwarded, State.event, freePort_complete hupstream, judged,
    memoryErrorRecord_of_unsteered (Or.inl (by simp))]
  rfl

theorem commit_end {en : ByteEnables} (ending : Ending r .ok s) (watched : r.verdict = .watch) (cue : r.window = .cue)
    (governed : r.governed = true) (running : s.governor = .running)
    (one : s.cues.noted = [{ slot := n, word := w7, enables := en }]) (judged : en.isAll = true ∧ commitMarkerOf w7 = 0x5C#8) :
    exec (.forwardedBurstEnd .ok) s = .next (State.after s ((commitsFind s r).judgeCommit n w7)) := by
  rw [commits_end ending watched cue governed running, one, List.foldl_cons, List.foldl_nil, judgeNoted_eq, if_pos judged]

/-! ## The checks (R51) -/

theorem noticeAbout_iff : s.noticeAbout = true ↔ (∃ e ∈ s.cues.queue, e.kind = .notice) ∨ s.bufferState noticeBuffer = .showing := by
  simp [State.noticeAbout, State.queuedNotice, State.noticeShowing]

theorem bufferChecks_eq (s : State) (k : BufferNo) : s.bufferChecks k =
    if s.bufferState k ≠ .filling then some .bufferState
    else if 8 ≤ s.cues.queue.length then some .queueFull else none := by
  simp only [State.bufferChecks, bne_iff_ne]

theorem commitCheck_frame (s : State) (k : BufferNo) : s.commitCheck (some .frame) k =
    if k = 7 then some .badBuffer else if s.bufferState k ≠ .filling then some .bufferState
    else if 8 ≤ s.cues.queue.length then some .queueFull else none := by
  simp only [State.commitCheck, bufferChecks_eq, beq_iff_eq]
  rfl

theorem commitCheck_notice (s : State) (k : BufferNo) : s.commitCheck (some .notice) k =
    if k ≠ 7 then some .badBuffer
    else if (∃ e ∈ s.cues.queue, e.kind = .notice) ∨ s.bufferState noticeBuffer = .showing then some .noticeActive
    else if s.bufferState k ≠ .filling then some .bufferState
    else if 8 ≤ s.cues.queue.length then some .queueFull else none := by
  simp only [State.commitCheck, bufferChecks_eq, bne_iff_ne, noticeAbout_iff]
  rfl

theorem commitCheck_withdraw (s : State) (k : BufferNo) : s.commitCheck (some .withdraw) k =
    if (∃ e ∈ s.cues.queue, e.kind = .notice) ∨ s.bufferState noticeBuffer = .showing then none else some .noNotice := by
  simp only [State.commitCheck, noticeAbout_iff]

/-! ## A commit rejected (R52) -/

theorem Table.set_set {α : Type} {d : Nat} (t : Table α d) (i : Fin d) (a b : α) : (t.set i a).set i b = t.set i b := by
  refine Table.ext_get fun j => ?_
  simp only [Table.get_set]
  split <;> rfl

/-- A slot's record changed with its outcome, and the slot at the list's end unless it stands there. -/
theorem setOutcome_eq (s : State) (n : SlotNo) {f : SlotRecord → SlotRecord} (hf : (f (s.slot n)).listed = (s.slot n).listed) :
    s.setOutcome n f = s.onCues fun c =>
      { c with slots := c.slots.set n { f (s.slot n) with listed := true }
               writeBack := if (s.slot n).listed then c.writeBack else c.writeBack ++ [n] } := by
  have hslot : (s.onSlot n f).slot n = f (s.slot n) := (onSlot_slot s n n f).trans (if_pos rfl)
  rw [State.setOutcome, State.listSlot, hslot, hf]
  cases hl : (s.slot n).listed with
  | true =>
    have same : { f (s.slot n) with listed := true } = f (s.slot n) := by rw [← hl, ← hf]
    rw [same]
    rfl
  | false =>
    have twice := Table.set_set s.cues.slots n (f (s.slot n)) { f (s.slot n) with listed := true }
    have settled : (s.onSlot n f).onSlot n (fun r => { r with listed := true }) =
        s.onCues fun c => { c with slots := c.slots.set n { f (s.slot n) with listed := true } } := by
      refine congrArg (fun slots : Table SlotRecord 32 => s.onCues fun c => { c with slots := slots }) ?_
      refine Eq.trans ?_ twice
      exact congrArg (fun r : SlotRecord => (s.cues.slots.set n (f (s.slot n))).set n { r with listed := true })
        (Table.get_set_self ..)
    rw [settled]
    rfl

theorem rejectCommit_eq (s : State) (n : SlotNo) (kind : Option CueKind) (k : BufferNo) (w7 : Word) (reason : Reason) :
    s.rejectCommit n kind k w7 reason = s.onCues fun c =>
      { c with
        slots := c.slots.set n
          { state := .closing, kind := kind, buffer := keptBuffer kind k, hostSequence := hostSequenceOf w7
            cueTag := cueTagOf w7, outcome := some .rejected, reason := some reason, showStamp := none
            endStamp := some { clock := s.clockNow, duration := 0 }
            shownTime := 0, noticeTime := none, listed := true }
        writeBack := if (s.slot n).listed then c.writeBack else c.writeBack ++ [n] } := by
  have hslot : (s.onSlot n fun r => r.committed .closing kind k w7).slot n = (s.slot n).committed .closing kind k w7 :=
    (onSlot_slot s n n _).trans (if_pos rfl)
  have twice := fun a b : SlotRecord => Table.set_set s.cues.slots n a b
  rw [State.rejectCommit, State.closeSlot, setOutcome_eq _ _ rfl, hslot]
  refine congrArg (fun slots : Table SlotRecord 32 => s.onCues fun c =>
    { c with slots := slots, writeBack := if (s.slot n).listed then c.writeBack else c.writeBack ++ [n] }) (twice _ _)

end Sys2Proof.Safety
end

section
/-! The commits judged as a cue write ends OK (03 R50 to R53). Settles O26. -/

namespace Sys2Proof.Safety

open Sys2Proof.Machine

variable {s t : State} {r : TxRecord} {n m : SlotNo} {w7 : Word} {k : BufferNo} {kind : CueKind}

/-! ## A cue accepted (R53, R27) -/

/-- Of an accepted cue the verify engine's part is all that may still differ from the cue handed over. -/
theorem acceptCue_cases (s : State) (n : SlotNo) (w7 : Word) (kind : CueKind) (k : BufferNo) :
    (s.acceptCue n kind k w7).cues = (handedCue s n w7 kind k).cues ∧
    (s.acceptCue n kind k w7).table.records = (handedCue s n w7 kind k).table.records := by
  by_cases h : TakesVerify s (s.newEntry n kind k)
  · rw [acceptCue_of_takes s n w7 kind k rfl h]
    exact ⟨rfl, rfl⟩
  · rw [acceptCue_of_not_takes s n w7 kind k rfl h]
    exact ⟨rfl, rfl⟩

theorem handedCue_cues (s : State) (n : SlotNo) (w7 : Word) (kind : CueKind) (k : BufferNo) :
    (handedCue s n w7 kind k).cues = (placedCue s n kind k w7).cues :=
  (handBuffer_frame (placedCue s n kind k w7) _).agree .cues (by decide)

theorem acceptCue_queue (s : State) (n : SlotNo) (w7 : Word) (kind : CueKind) (k : BufferNo) :
    (s.acceptCue n kind k w7).cues.queue = QueueEntry.place s.cues.queue (s.newEntry n kind k) := by
  rw [(acceptCue_cases s n w7 kind k).1, handedCue_cues]
  rfl

theorem acceptCue_slot (s : State) (n m : SlotNo) (w7 : Word) (kind : CueKind) (k : BufferNo) :
    (s.acceptCue n kind k w7).slot m = if m = n then (s.slot n).committed .pending (some kind) k w7 else s.slot m := by
  rw [State.slot, (acceptCue_cases s n w7 kind k).1, handedCue_cues]
  exact onSlot_slot s n m _

theorem acceptCue_record (s : State) (n : SlotNo) (w7 : Word) (kind : CueKind) (k j : BufferNo) :
    (s.acceptCue n kind k w7).table.records.get j =
      if (s.newEntry n kind k).buffer = some j then
        { s.table.records.get j with
          state := if (s.newEntry n kind k).expected.isSome then .verifying else .staged, slot := some n }
      else s.table.records.get j := by
  rw [(acceptCue_cases s n w7 kind k).2]
  exact handBuffer_record (placedCue s n kind k w7) _ j

theorem acceptCue_settings (s : State) (n : SlotNo) (w7 : Word) (kind : CueKind) (k : BufferNo) :
    (s.acceptCue n kind k w7).settings = s.settings :=
  (State.acceptCue_unchanged (xs := [.bus, .table, .cues]) n kind k w7 (by decide) (.refl _ s)).agree .settings (by decide)

theorem acceptCue_lastCrc (s : State) (n : SlotNo) (w7 : Word) (kind : CueKind) (k j : BufferNo) :
    ((s.acceptCue n kind k w7).table.records.get j).lastCrc = (s.table.records.get j).lastCrc := by
  rw [acceptCue_record]
  split <;> rfl

theorem acceptCue_takes (h : TakesVerify s (s.newEntry n kind k)) :
    (s.acceptCue n kind k w7).bus = verifyGivenUp s.bus ∧ (s.acceptCue n kind k w7).table.verifying = none := by
  rw [acceptCue_of_takes s n w7 kind k rfl h, stopVerify_bus, handedCue_bus]
  exact ⟨rfl, rfl⟩

theorem acceptCue_leaves (h : ¬ TakesVerify s (s.newEntry n kind k)) :
    (s.acceptCue n kind k w7).bus = s.bus ∧ (s.acceptCue n kind k w7).table.verifying = s.table.verifying := by
  rw [acceptCue_of_not_takes s n w7 kind k rfl h, handedCue_bus, handedCue_verifying]
  exact ⟨rfl, rfl⟩

theorem newEntry_eq (s : State) (n : SlotNo) (k : BufferNo) (other : kind ≠ .withdraw) : s.newEntry n kind k =
    { slot := n, kind := kind, buffer := if kind = .blank then none else some k
      dwellClass := cueDwellClassOf (s.cueShadow n 0), pair := cuePairOf (s.cueShadow n 0)
      holdOff := cueTimeOf (s.cueShadow n 1), lifetime := cueTimeOf (s.cueShadow n 2)
      expected := if kind = .blank then none else cueCheckOf (s.cueShadow n 3) } := by
  cases kind with
  | withdraw => exact absurd rfl other
  | frame => rfl
  | notice => rfl
  | blank => rfl

/-! ## The verify engine after an accepted cue (R41, R45) -/

/-- A NOTICE with a content check has the engine. -/
theorem acceptCue_verifies (before s : State) {x : Half} (hexpected : (s.newEntry n .notice k).expected = some x) :
    (State.after before (s.acceptCue n .notice k w7)).table.verifying =
      some { buffer := k, expected := x, wordsRead := 0, running := 0xFFFF#16 } := by
  have hbuffer : (s.newEntry n .notice k).buffer = some k := rfl
  have idle : (s.acceptCue n .notice k w7).table.verifying = none := by
    by_cases h : TakesVerify s (s.newEntry n .notice k)
    · exact (acceptCue_takes h).2
    · rw [(acceptCue_leaves h).2]
      have free : ¬ s.table.verifying.isSome = true := fun busy => h ⟨rfl, by rw [hexpected]; rfl, busy⟩
      simpa using free
  have hverifying : (s.acceptCue n .notice k w7).bufferState k = .verifying := by
    rw [State.bufferState, acceptCue_record, if_pos hbuffer, hexpected]
    rfl
  have hidle : ((s.acceptCue n .notice k w7).settlePair before.headSlot).table.verifying = none := by
    rw [settlePair_table, idle]
  obtain ⟨-, -, -, -, chosen⟩ := prepare_choices ((s.acceptCue n .notice k w7).settlePair before.headSlot)
  have hqueue : ((s.acceptCue n .notice k w7).settlePair before.headSlot).cues.queue = [] ++ s.newEntry n .notice k :: s.cues.queue := by
    rw [settlePair_cues, acceptCue_queue]
    rfl
  have hstate : ((s.acceptCue n .notice k w7).settlePair before.headSlot).bufferState k = .verifying := by
    rw [State.bufferState, settlePair_table]
    exact hverifying
  rw [after_table, readied, chosen hidle]
  exact findSome_verifyOf hqueue (fun _ hq => nomatch hq) hbuffer hexpected hstate

theorem acceptCue_givenUp (before s : State) (h : TakesVerify s (s.newEntry n kind k)) :
    VerifyGivenUp s (State.after before (s.acceptCue n kind k w7)) := by
  obtain ⟨hbus, hidle⟩ := acceptCue_takes (w7 := w7) h
  exact .after before hidle (by rw [hbus]; rfl) (by rw [hbus]; rfl) (acceptCue_lastCrc s n w7 kind k)
    (congrArg Settings.layout (acceptCue_settings ..))

theorem acceptCue_stands (before s : State) (h : ¬ TakesVerify s (s.newEntry n kind k)) :
    VerifyStands s (State.after before (s.acceptCue n kind k w7)) := by
  obtain ⟨hbus, hwork⟩ := acceptCue_leaves (w7 := w7) h
  exact .after before hwork (by rw [hbus]) (by rw [hbus])

/-! ## The statement -/

theorem cueCheckOf_eq (w : Word) : cueCheckOf w =
    if w.toNat / 2 ^ 31 % 2 ^ 1 = 1 then some (BitVec.ofNat 16 (w.toNat / 2 ^ 0 % 2 ^ 16)) else none := by
  have crc : w.extractLsb' 0 16 = BitVec.ofNat 16 (w.toNat / 2 ^ 0 % 2 ^ 16) := by
    rw [← extract_toNat, BitVec.ofNat_toNat, BitVec.setWidth_eq]
  simp only [cueCheckOf, getLsbD_iff, crc, decide_eq_true_eq]

theorem commits_follow (ending : Ending r .ok s) (watched : r.verdict = .watch) (cue : r.window = .cue)
    (governed : r.governed = true) (running : s.governor = .running) : Runs (.forwardedBurstEnd .ok) s fun t =>
      Follows (s.cues.noted.foldl (fun u q =>
        if q.enables.isAll = true ∧ commitMarkerOf q.word = 0x5C#8 then u.judgeCommit q.slot q.word else u)
        (commitsFind s r)) t := by
  refine .of_next (commits_end ending watched cue governed running) ?_
  have judges : (fun (u : State) (q : NotedWord 32) =>
      if q.enables.isAll = true ∧ commitMarkerOf q.word = 0x5C#8 then u.judgeCommit q.slot q.word else u) = State.judgeNoted :=
    funext fun u => funext fun q => (judgeNoted_eq u q).symm
  rw [judges]
  exact after_follows ..

/-- Settles O26. -/
theorem commitJudged : Obligations.CommitJudged := by
  unfold Obligations.CommitJudged
  refine ⟨fun w => ?_, isAll_iff, fun n w7 s hkind check hexpected busy => ?_, fun r s ending watched cue governed running =>
    commits_follow ending watched cue governed running, ?_⟩
  · obtain ⟨frame, notice, blank, withdraw⟩ := cueKindOf_iff w
    refine ⟨frame, notice, blank, withdraw, extract_toNat .., extract_toNat .., getLsbD_iff .., extract_toNat .., ?_,
      extract_toNat .., extract_toNat .., extract_toNat ..⟩
    exact cueCheckOf_eq w
  · have takes : TakesVerify s (s.newEntry n .notice (cueBufferOf (s.cueShadow n 0))) := ⟨rfl, hexpected, busy⟩
    rw [judgeCommit_of_accepted hkind (by decide) check]
    exact (acceptCue_takes takes).symm
  · intro n w7 en r s ending watched cue governed running one w0 k done listed judged notice refusal
    have check : done.commitCheck (cueKindOf w0) k = refusal := by
      simp only [refusal]
      cases cueKindOf w0 with
      | none => rfl
      | some kind =>
        cases kind with
        | frame => exact commitCheck_frame done k
        | notice => exact commitCheck_notice done k
        | blank => rfl
        | withdraw => exact commitCheck_withdraw done k
    refine ⟨fun unjudged => ?_, fun reason hjudged refused => ?_, fun kind hjudged accepted hkind other => ?_⟩
    · refine .of_next (commits_end ending watched cue governed running) ?_
      rw [one, List.foldl_cons, List.foldl_nil, judgeNoted_eq, if_neg unjudged]
      exact after_follows ..
    · refine .of_next (commit_end ending watched cue governed running one hjudged) ?_
      have rejected := judgeCommit_of_rejected (s := done) (w7 := w7) (check.trans refused)
      have follows := after_follows s (done.judgeCommit n w7)
      rw [rejected, rejectCommit_eq] at follows
      rw [show commitsFind s r = done from rfl, rejected, rejectCommit_eq]
      exact follows
    · intro buffer entry
      refine .of_next (commit_end ending watched cue governed running one hjudged) ?_
      have accepts : done.judgeCommit n w7 = done.acceptCue n kind k w7 :=
        judgeCommit_of_accepted hkind other ((congrArg (done.commitCheck · k) hkind).symm.trans (check.trans accepted))
      rw [show commitsFind s r = done from rfl, accepts]
      have hentry : done.newEntry n kind k = entry := newEntry_eq done n k other
      have follows := after_follows s (done.acceptCue n kind k w7)
      have hslot := follows.slot n
      rw [acceptCue_slot, if_pos rfl] at hslot
      have hkept : keptBuffer (some kind) k = buffer := congrArg QueueEntry.buffer hentry
      refine ⟨?_, ?_, ?_, ?_, ?_, ?_, ?_, fun j hj => ⟨?_, ?_⟩, fun j hj => ?_, fun m hm => ?_, fun x notice hx => ⟨?_, fun busy => ?_⟩,
        fun quiet => ?_⟩
      · rw [follows.ring.2.1, acceptCue_queue, hentry, QueueEntry.place]
        simp only [beq_iff_eq]
        rfl
      · rw [hslot]; rfl
      · rw [hslot]; rfl
      · rw [hslot]; exact hkept
      · rw [hslot]; rfl
      · rw [hslot]; rfl
      · rw [hslot]; rfl
      · refine Eq.trans (congrArg BufferRecord.slot (follows.buffers j) :) ?_
        rw [acceptCue_record, hentry, if_pos hj]
      · rw [follows.bufferState, State.bufferState, acceptCue_record, hentry, if_pos hj]
      · rw [follows.bufferState, State.bufferState, acceptCue_record, hentry, if_neg hj]
        rfl
      · have hother := follows.slot m
        rw [acceptCue_slot, if_neg hm] at hother
        rw [hother]
        rfl
      · subst notice
        have noticeBuffer_is : k = 7 := by
          have passed := check.trans accepted
          rw [hkind, commitCheck_notice] at passed
          by_contra hk
          rw [if_pos hk] at passed
          exact nomatch passed
        rw [acceptCue_verifies s done (by rw [hentry]; exact hx), noticeBuffer_is]
      · exact acceptCue_givenUp s done (by rw [hentry]; exact ⟨notice, by rw [hx]; rfl, busy⟩)
      · refine acceptCue_stands s done ?_
        rintro ⟨notice, hexpected, -⟩
        rw [hentry] at notice hexpected
        rcases quiet with otherKind | none
        · exact otherKind notice
        · rw [none] at hexpected
          exact nomatch hexpected

end Sys2Proof.Safety
end

section
/-! A WITHDRAW accepted (03 R54, R63). Settles O27. -/

namespace Sys2Proof.Safety

open Sys2Proof.Machine

variable {s t : State} {r : TxRecord} {n m : SlotNo} {w7 : Word} {k : BufferNo} {e : QueueEntry}

/-! ## The WITHDRAW's own slot -/

theorem withdrawClosed_slot (s : State) (n m : SlotNo) (k : BufferNo) (w7 : Word) : (withdrawClosed s n k w7).slot m =
    if m = n then SlotRecord.closed ((s.slot n).committed .closing (some .withdraw) k w7) .done none s.clockNow else s.slot m := by
  rw [withdrawClosed, closeSlot_slot]
  by_cases hm : m = n
  · rw [if_pos hm, if_pos hm, onSlot_slot, if_pos rfl]
    rfl
  · rw [if_neg hm, if_neg hm, onSlot_slot_of_ne _ _ hm]

theorem withdrawClosed_writeBack (s : State) (n : SlotNo) (k : BufferNo) (w7 : Word) :
    (withdrawClosed s n k w7).cues.writeBack = listedAfter s [n] := by
  rw [withdrawClosed, closeSlot_writeBack]
  refine listedAfter_congr (s := s) (t := s.onSlot n fun r => r.committed .closing (some .withdraw) k w7) rfl [n] fun m hm => ?_
  rw [List.mem_singleton.mp hm, onSlot_slot, if_pos rfl]
  rfl

theorem withdrawClosed_queue (s : State) (n : SlotNo) (k : BufferNo) (w7 : Word) :
    (withdrawClosed s n k w7).cues.queue = s.cues.queue := closeSlot_queue ..

theorem listedAfter_endQueued (s : State) (e : QueueEntry) (o : CueOutcome) (apart : n ≠ e.slot) :
    listedAfter (s.endQueued e o) [n] = listedAfter s [e.slot, n] := by
  have ended : listedAfter (s.endQueued e o) [n] = listedAfter ((s.dequeue e.slot).closeSlot e.slot o none) [n] := by
    refine listedAfter_congr (congrArg CueUnit.writeBack (endQueued_cues s e o)) [n] fun m _ => ?_
    rw [State.slot, endQueued_cues]
    rfl
  rw [ended, State.closeSlot, listedAfter_setOutcome (s.dequeue e.slot) e.slot rfl (by simpa using Ne.symm apart)]
  rfl

/-- The slot of an accepted WITHDRAW. -/
def ClosedDone (s : State) (t : State) (n : SlotNo) : Prop :=
  (t.slot n).state = .closing ∧ (t.slot n).outcome = some .done ∧ (t.slot n).showStamp = none ∧
    (t.slot n).endStamp = some { clock := s.clockNow, duration := 0 }

theorem Follows.closedDone {u : State} (follows : Follows (withdrawClosed u n k w7) t) (clock : u.clockNow = s.clockNow) :
    ClosedDone s t n := by
  unfold ClosedDone
  rw [follows.slot n, withdrawClosed_slot, if_pos rfl, clock]
  exact ⟨rfl, rfl, rfl, rfl⟩

/-! ## The commit -/

theorem queuedNotice_check (hfind : s.cues.queue.find? (fun q => q.kind == .notice) = some e) :
    s.commitCheck (some .withdraw) k = none := by
  have about : s.noticeAbout = true := by simp [State.noticeAbout, State.queuedNotice, hfind]
  simp only [State.commitCheck, about, if_true]

theorem judgeCommit_withdraws (hkind : cueKindOf (s.cueShadow n 0) = some .withdraw)
    (hfind : s.cues.queue.find? (fun q => q.kind == .notice) = some e) : s.judgeCommit n w7 =
      withdrawClosed (s.endQueued e .withdrawn) n (cueBufferOf (s.cueShadow n 0)) w7 := by
  rw [judgeCommit_of_withdraw hkind (queuedNotice_check hfind), acceptWithdraw_eq, noticeWithdrawn_of_queued hfind]

theorem judgeCommit_ends_showing (hkind : cueKindOf (s.cueShadow n 0) = some .withdraw)
    (hfind : s.cues.queue.find? (fun q => q.kind == .notice) = none) (showing : s.bufferState noticeBuffer = .showing) :
    s.judgeCommit n w7 = withdrawClosed (s.onFace fun f => { f with noticeEnd := true }) n (cueBufferOf (s.cueShadow n 0)) w7 := by
  have shows : s.noticeShowing = true := by simp [State.noticeShowing, showing]
  have check : s.commitCheck (some .withdraw) (cueBufferOf (s.cueShadow n 0)) = none := by
    simp [State.commitCheck, State.noticeAbout, shows]
  rw [judgeCommit_of_withdraw hkind check, acceptWithdraw_eq, noticeWithdrawn_of_none hfind, State.handNoticeEnd, if_pos shows]

theorem judgeCommit_withdraws_verify {w : VerifyWork} (hkind : cueKindOf (s.cueShadow n 0) = some .withdraw)
    (hfind : s.cues.queue.find? (fun q => q.kind == .notice) = some e) (hw : s.table.verifying = some w) :
    (e.buffer = some w.buffer →
      (s.judgeCommit n w7).table.verifying = none ∧ (s.judgeCommit n w7).bus = verifyGivenUp s.bus) ∧
    (e.buffer ≠ some w.buffer →
      (s.judgeCommit n w7).table.verifying = some w ∧ (s.judgeCommit n w7).bus = s.bus) := by
  have frame := withdrawClosed_frame (s.endQueued e .withdrawn) n (cueBufferOf (s.cueShadow n 0)) w7
  rw [judgeCommit_withdraws hkind hfind, frame.agree .bus (by decide), frame.agree .table (by decide)]
  constructor
  · intro hb
    exact (endQueued_of_verified .withdrawn ⟨w, hw, hb⟩).symm
  · intro hb
    obtain ⟨hbus, hwork⟩ := endQueued_of_unverified (s := s) (e := e) .withdrawn fun ⟨v, hv, hbuffer⟩ => by
      cases hw.symm.trans hv
      exact hb hbuffer
    exact ⟨hwork.trans hw, hbus⟩

/-! ## What follows a WITHDRAW -/

theorem after_withdrawClosed (before u : State) (n : SlotNo) (k : BufferNo) (w7 : Word) :
    let t := State.after before (withdrawClosed u n k w7)
    ClosedDone u t n ∧ WriteBackListIs t (listedAfter u [n]) ∧ t.cues.queue = u.cues.queue ∧
    t.face.showing = u.face.showing ∧ t.face.noticeEnd = u.face.noticeEnd ∧ (∀ j, t.bufferState j = u.bufferState j) ∧
    ∀ m, m ≠ n → t.slot m = { u.slot m with listed := (t.slot m).listed } := by
  intro t
  have follows : Follows (withdrawClosed u n k w7) t := after_follows before _
  have closed := withdrawClosed_frame u n k w7
  have hlist := after_writeBack before (withdrawClosed u n k w7)
  rw [withdrawClosed_writeBack] at hlist
  have hface : (withdrawClosed u n k w7).face = u.face := closed.agree .face (by decide)
  refine ⟨follows.closedDone rfl, hlist, ?_, ?_, ?_, fun j => ?_, fun m hm => ?_⟩
  · rw [follows.ring.2.1, withdrawClosed_queue]
  · exact (congrArg ShowUnit.showing follows.face :).trans (congrArg ShowUnit.showing hface)
  · exact (congrArg ShowUnit.noticeEnd follows.face :).trans (congrArg ShowUnit.noticeEnd hface)
  · rw [follows.bufferState, State.bufferState, closed.agree .table (by decide)]
    rfl
  · have hslot := follows.slot m
    rw [withdrawClosed_slot, if_neg hm] at hslot
    exact hslot

theorem after_withdraws_givenUp (before : State) (n : SlotNo) (k : BufferNo) (w7 : Word) (o : CueOutcome)
    (h : VerifiedFor s e) : VerifyGivenUp s (State.after before (withdrawClosed (s.endQueued e o) n k w7)) := by
  obtain ⟨hbus, hidle⟩ := endQueued_of_verified o h
  have closed := withdrawClosed_frame (s.endQueued e o) n k w7
  have kbus : (withdrawClosed (s.endQueued e o) n k w7).bus = verifyGivenUp s.bus := Eq.trans (closed.agree .bus (by decide)) hbus
  have ktable : (withdrawClosed (s.endQueued e o) n k w7).table = (s.endQueued e o).table := closed.agree .table (by decide)
  have ksettings : (withdrawClosed (s.endQueued e o) n k w7).settings = s.settings :=
    Eq.trans (closed.agree .settings (by decide)) ((endQueued_frame s e o).agree .settings (by decide))
  refine .after before (by rw [ktable, hidle]) (by rw [kbus]; rfl) (by rw [kbus]; rfl) (fun j => ?_) (by rw [ksettings])
  rw [ktable, endQueued_lastCrc]

theorem after_withdraws_stands (before : State) (n : SlotNo) (k : BufferNo) (w7 : Word) (o : CueOutcome)
    (h : ¬ VerifiedFor s e) : VerifyStands s (State.after before (withdrawClosed (s.endQueued e o) n k w7)) := by
  obtain ⟨hbus, hwork⟩ := endQueued_of_unverified o h
  have closed := withdrawClosed_frame (s.endQueued e o) n k w7
  have kbus : (withdrawClosed (s.endQueued e o) n k w7).bus = s.bus := Eq.trans (closed.agree .bus (by decide)) hbus
  have ktable : (withdrawClosed (s.endQueued e o) n k w7).table = (s.endQueued e o).table := closed.agree .table (by decide)
  exact .after before (by rw [ktable, hwork]) (by rw [kbus]) (by rw [kbus])

/-- Settles O27. -/
theorem commitWithdraws : Obligations.CommitWithdraws := by
  unfold Obligations.CommitWithdraws
  refine ⟨fun n w7 e w s hkind hfind hw => judgeCommit_withdraws_verify hkind hfind hw, ?_⟩
  intro n w7 r s ending watched cue governed running one marker hkind done
  have hexec := commit_end ending watched cue governed running one ⟨rfl, marker⟩
  refine ⟨fun e hfind apart => ?_, fun hfind showing => ?_⟩
  · rw [judgeCommit_withdraws (s := commitsFind s r) (w7 := w7) hkind hfind] at hexec
    refine .of_next hexec ?_
    obtain ⟨hdone, hlist, hqueue, hshowing, hpending, hbuffers, hslots⟩ := after_withdrawClosed s
      ((commitsFind s r).endQueued e .withdrawn) n (cueBufferOf ((commitsFind s r).cueShadow n 0)) w7
    have ended := endQueued_frame (commitsFind s r) e .withdrawn
    have hclock : ((commitsFind s r).endQueued e .withdrawn).clockNow = s.clockNow :=
      congrArg (fun l : LightUnit => if l.clock.isSet then some l.clock.seconds else none) (ended.agree .light (by decide))
    have hface : ((commitsFind s r).endQueued e .withdrawn).face = s.face := ended.agree .face (by decide)
    have hslot := hslots e.slot apart
    rw [endQueued_slot, if_pos rfl] at hslot
    rw [listedAfter_endQueued _ _ _ (Ne.symm apart)] at hlist
    refine ⟨?_, ?_, ?_, ?_, ?_, hlist, ?_, ?_, ?_, fun k hk moves => ?_, fun w hw => ⟨fun hb => ?_, fun hb => ?_⟩⟩
    · rw [ClosedDone, hclock] at hdone
      exact hdone
    · rw [hslot]; rfl
    · rw [hslot]; rfl
    · rw [hslot]; rfl
    · rw [hslot]; rfl
    · rw [hqueue, endQueued_queue]
      rfl
    · rw [hshowing, hface]
    · rw [hpending, hface]
    · rw [hbuffers]
      exact endQueued_bufferState (commitsFind s r) .withdrawn hk moves
    · exact after_withdraws_givenUp (s := commitsFind s r) s n _ w7 .withdrawn ⟨w, hw, hb⟩
    · refine after_withdraws_stands (s := commitsFind s r) s n _ w7 .withdrawn fun ⟨v, hv, hbuffer⟩ => ?_
      cases hw.symm.trans hv
      exact hb hbuffer
  · rw [judgeCommit_ends_showing (s := commitsFind s r) (w7 := w7) hkind hfind showing] at hexec
    refine .of_next hexec ?_
    obtain ⟨hdone, hlist, hqueue, hshowing, hpending, hbuffers, -⟩ := after_withdrawClosed s
      ((commitsFind s r).onFace fun f => { f with noticeEnd := true }) n (cueBufferOf ((commitsFind s r).cueShadow n 0)) w7
    exact ⟨hdone, hlist, hpending, hshowing, hqueue, hbuffers⟩

end Sys2Proof.Safety
end

section
/-! SUPPORT. Events weighed on a tile (R146 to R149): its state and counter, the records raised on the way, and what else
of the device may move. -/

namespace Sys2Proof.Safety

open Sys2Proof.Machine

variable {s t u : State} {i : TileNo}

/-! ## What weighing may move of the tiles -/

/-- Of tile `i` only state, counter, T and A may differ, and of the other tiles only T and A. -/
def RatedAt (i : TileNo) (s t : State) : Prop :=
  ∀ j, { t.tile j with
      target := (s.tile j).target, applied := (s.tile j).applied
      state := if j = i then (s.tile j).state else (t.tile j).state
      counter := if j = i then (s.tile j).counter else (t.tile j).counter } = s.tile j

theorem RatedAt.of_retargeted (h : Retargeted s t) : RatedAt i s t := fun j => by
  by_cases hj : j = i
  · simp only [if_pos hj, ← h.state j, ← h.counter j]
    exact h j
  · simp only [if_neg hj]
    exact h j

theorem RatedAt.refl (i : TileNo) (s : State) : RatedAt i s s := .of_retargeted (.refl s)

theorem RatedAt.trans (h : RatedAt i s t) (g : RatedAt i t u) : RatedAt i s u := fun j => by
  rw [← h j, ← g j]
  by_cases hj : j = i
  · simp only [if_pos hj]
  · simp only [if_neg hj]

/-- Setting the tile's state and counter. -/
theorem RatedAt.onTile (s : State) (i : TileNo) {f : TileRecord → TileRecord}
    (hf : ∀ r, { f r with target := r.target, applied := r.applied, state := r.state, counter := r.counter } = r) : RatedAt i s (s.onTile i f) := fun j => by
  by_cases hj : j = i
  · subst hj
    simp only [State.onTile_tile_self, if_true]
    exact hf (s.tile j)
  · simp only [State.onTile_tile_of_ne _ _ hj, if_neg hj]

theorem RatedAt.scan (h : RatedAt i s t) (j : TileNo) : (t.tile j).scan = (s.tile j).scan :=
  (congrArg TileRecord.scan (h j) :)

theorem RatedAt.derate (h : RatedAt i s t) (j : TileNo) : (t.tile j).derate = (s.tile j).derate :=
  (congrArg TileRecord.derate (h j) :)

theorem RatedAt.others (h : RatedAt i s t) {j : TileNo} (hj : j ≠ i) :
    (t.tile j).state = (s.tile j).state ∧ (t.tile j).counter = (s.tile j).counter := by
  have hstate := congrArg TileRecord.state (h j)
  have hcounter := congrArg TileRecord.counter (h j)
  simp only [if_neg hj] at hstate hcounter
  exact ⟨hstate, hcounter⟩

theorem RatedAt.enterFaulted (s : State) (i : TileNo) : RatedAt i s (s.enterFaulted i) :=
  (RatedAt.onTile s i (f := fun r => { r with state := .faulted }) fun _ => rfl).trans (.of_retargeted (Retargeted.enterFaulted s i))

theorem RatedAt.leaveFaulted (s : State) (i : TileNo) (detail : Half) : RatedAt i s (s.leaveFaulted i detail) :=
  (RatedAt.onTile s i (f := fun r => { r with state := .lit, counter := 0 }) fun _ => rfl).trans (.of_retargeted (Retargeted.leaveFaulted s i detail))

theorem RatedAt.evaluateTile (s : State) (i : TileNo) : RatedAt i s (s.evaluateTile i) := by
  unfold State.evaluateTile
  dsimp only
  split
  · exact .refl i s
  · split
    · exact .enterFaulted s i
    · split
      · split
        · exact .onTile s i fun _ => rfl
        · exact .refl i s
      · exact .onTile s i fun _ => rfl

/-! ## A tile's entry into FAULTED -/

theorem enterFaulted_state (s : State) (i : TileNo) : ((s.enterFaulted i).tile i).state = .faulted := by
  rw [(Retargeted.enterFaulted s i).state, State.onTile_tile_self]

theorem enterFaulted_counter (s : State) (i : TileNo) : ((s.enterFaulted i).tile i).counter = (s.tile i).counter := by
  rw [(Retargeted.enterFaulted s i).counter, State.onTile_tile_self]

theorem enterFaulted_faultedCount (s : State) (i : TileNo) :
    (s.enterFaulted i).faults.faultedCount = s.faults.faultedCount + 1 := by
  refine (State.faceLimitCheck_faultedCount _).trans ?_
  exact congrArg (· + 1) (FaultUnit.join_faultedCount s.faults _)

/-- R156, R157: TILE_FAULTED is offered first, and the face's limit offers one record at most. -/
theorem enterFaulted_offers (s : State) (i : TileNo) :
    OneOffered (s.faults.join (s.faultRecord .tileFaulted (some i) (natItem (s.tile i).counter)))
      (s.enterFaulted i).faults := by
  obtain ⟨hqueue, hfull, hoverflow⟩ := State.faceLimitCheck_offers
    ((((s.onTile i fun r => { r with state := .faulted }).offer .tileFaulted (some i)
      (natItem (s.tile i).counter)).retargetTile i).onFaults fun f => { f with faultedCount := f.faultedCount + 1 })
  exact ⟨hqueue, hfull, hoverflow⟩

/-! ### Under the policy a FAULTED tile is dark (R116, R119, R122) -/

/-- A tile that goes to FAULTED under the policy, in RUNNING, stands at gain 0. -/
theorem faulted_dark (running : s.governor = .running) (policy : s.settings.tileBlank = true)
    (faulted : (s.tile i).state = .faulted) (inUse : i.val < s.tileCount) :
    (s.gainContext.targetCase i (s.tile i).state).isDark = true := by
  have hinUse : ¬ s.tileCount ≤ i.val := Nat.not_le.mpr inUse
  cases hblank : s.blanked <;>
    simp [GainContext.targetCase, State.gainContext, State.running, running, policy, faulted, hinUse, hblank, TargetCase.isDark]

theorem retargetTile_applied_of_dark (h : (s.gainContext.targetCase i (s.tile i).state).isDark = true) :
    ((s.retargetTile i).tile i).applied = 0 := by
  unfold State.retargetTile
  rw [State.onTile_tile_self]
  exact (GainContext.retarget_of_dark h).2

/-- The check of the face's limit leaves it there. -/
theorem faceLimitCheck_applied (running : s.governor = .running) (policy : s.settings.tileBlank = true)
    (faulted : (s.tile i).state = .faulted) (inUse : i.val < s.tileCount) (zero : (s.tile i).applied = 0) :
    (s.faceLimitCheck.tile i).applied = 0 := by
  have hretarget {t : State} (hgovernor : t.governor = s.governor) (hsettings : t.settings = s.settings)
      (htiles : t.tiles = s.tiles) : (t.retargetAll.tile i).applied = 0 := by
    have htile : t.tile i = s.tile i := by rw [State.tile, htiles]; rfl
    rw [State.retargetAll_tile]
    refine (GainContext.retarget_of_dark ?_).2
    refine faulted_dark (hgovernor.trans running) (by rw [hsettings, policy]) (by rw [htile, faulted]) ?_
    rw [State.tileCount, hsettings]
    exact inUse
  unfold State.faceLimitCheck State.addReason State.removeReason
  split
  · split
    · exact zero
    · split
      · exact zero
      · exact hretarget rfl rfl rfl
  · split
    · exact zero
    · split
      · exact zero
      · exact hretarget rfl rfl rfl

theorem enterFaulted_applied (running : s.governor = .running) (policy : s.settings.tileBlank = true)
    (inUse : i.val < s.tileCount) : ((s.enterFaulted i).tile i).applied = 0 := by
  have hself : ((s.onTile i fun r => { r with state := .faulted }).offer .tileFaulted (some i)
      (natItem (s.tile i).counter)).tile i = { s.tile i with state := .faulted } := State.onTile_tile_self ..
  have hstate : (((s.onTile i fun r => { r with state := .faulted }).offer .tileFaulted (some i)
      (natItem (s.tile i).counter)).tile i).state = .faulted := by rw [hself]
  have hdark := faulted_dark (s := (s.onTile i fun r => { r with state := .faulted }).offer .tileFaulted (some i)
    (natItem (s.tile i).counter)) (i := i) running policy hstate inUse
  refine faceLimitCheck_applied (s := ((((s.onTile i fun r => { r with state := .faulted }).offer .tileFaulted (some i)
      (natItem (s.tile i).counter)).retargetTile i).onFaults fun f => { f with faultedCount := f.faultedCount + 1 }))
    running policy ?_ inUse ?_
  · change (((((s.onTile i fun r => { r with state := .faulted }).offer .tileFaulted (some i)
      (natItem (s.tile i).counter)).retargetTile i)).tile i).state = .faulted
    rw [((Retargeted.refl _).retargetTile i).state, hstate]
  · exact retargetTile_applied_of_dark hdark

/-! ## A tile judged by the limits, case by case (R148) -/

theorem evaluateTile_of_limit (sound : (s.tile i).state ≠ .faulted) (h : s.settings.faultLimit ≤ (s.tile i).counter) : s.evaluateTile i = s.enterFaulted i := by
  simp [State.evaluateTile, sound, h]

theorem evaluateTile_of_suspect (below : ¬ s.settings.faultLimit ≤ (s.tile i).counter)
    (h : s.settings.suspectLimit ≤ (s.tile i).counter) (lit : (s.tile i).state = .lit) : s.evaluateTile i =
      (s.onTile i fun q => { q with state := .suspect }).offer .tileSuspect (some i) (natItem (s.tile i).counter) := by
  simp [State.evaluateTile, below, h, lit]

theorem evaluateTile_of_still_suspect (sound : (s.tile i).state ≠ .faulted) (below : ¬ s.settings.faultLimit ≤ (s.tile i).counter)
    (h : s.settings.suspectLimit ≤ (s.tile i).counter) (notLit : (s.tile i).state ≠ .lit) : s.evaluateTile i = s := by
  simp [State.evaluateTile, sound, below, h, notLit]

theorem evaluateTile_of_clear (sound : (s.tile i).state ≠ .faulted) (below : ¬ s.settings.faultLimit ≤ (s.tile i).counter)
    (clear : ¬ s.settings.suspectLimit ≤ (s.tile i).counter) :
    s.evaluateTile i = s.onTile i fun q => { q with state := .lit } := by
  simp [State.evaluateTile, sound, below, clear]

/-! ## Weighing -/

theorem faultRecord_congr (frame : Unchanged [.tiles, .faults] s t) (k : FaultKind) (tile : Option TileNo)
    (detail : Half) : t.faultRecord k tile detail = s.faultRecord k tile detail := by
  have hface : t.face = s.face := frame.agree .face (by decide)
  have hlight : t.light = s.light := frame.agree .light (by decide)
  unfold State.faultRecord State.clockReading
  rw [hface, hlight]

theorem foldl_join_faultedCount (rs : List FaultRecord) (f : FaultUnit) :
    (rs.foldl FaultUnit.join f).faultedCount = f.faultedCount := by
  induction rs generalizing f with
  | nil => rfl
  | cons r rs ih => rw [List.foldl_cons, ih, FaultUnit.join_faultedCount]

theorem foldl_join_queue (rs : List FaultRecord) {f : FaultUnit} (room : f.queue.length + rs.length ≤ 32) :
    (rs.foldl FaultUnit.join f).queue = f.queue ++ rs := by
  induction rs generalizing f with
  | nil => exact (List.append_nil _).symm
  | cons r rs ih =>
    have hjoin : (f.join r).queue = f.queue ++ [r] := FaultUnit.join_queue_of_room (by simp at room; omega)
    rw [List.foldl_cons, ih (by rw [hjoin]; simp at room ⊢; omega), hjoin, List.append_assoc]
    rfl

theorem weighedRecords_append (s : State) (i : TileNo) (w : Weighing) (k : FaultKind) (n : Nat) :
    (w.records ++ [(k, n)]).map (fun q => s.faultRecord q.1 (some i) (natItem q.2)) =
      weighedRecords s i w ++ [s.faultRecord k (some i) (natItem n)] := by
  rw [List.map_append]
  rfl

/-- How few records weighing raises: TILE_SUSPECT once while the tile is not FAULTED, and then TILE_FAULTED. -/
structure FewRecords (g : Settings) (w : Weighing) : Prop where
  one : w.state ≠ .faulted → w.records.length ≤ 1
  suspected : w.state ≠ .faulted → w.records ≠ [] → w.state = .suspect ∧ g.suspectLimit ≤ w.counter ∧ w.counter ≤ 255

theorem FewRecords.start (g : Settings) (r : TileRecord) : FewRecords g (weighingOf r) :=
  ⟨fun _ => Nat.zero_le 1, fun _ h => absurd rfl h⟩

theorem FewRecords.judge {g : Settings} {w : Weighing} {n : Nat} (h : FewRecords g w) (sound : w.state ≠ .faulted)
    (up : w.counter ≤ 255 → w.counter ≤ n) (high : n ≤ 255) : FewRecords g (w.judge g n) := by
  unfold Weighing.judge
  split
  next => exact ⟨fun h => absurd rfl h, fun h => absurd rfl h⟩
  next =>
    split
    next suspect =>
      refine ⟨fun _ => ?_, fun _ _ => ⟨rfl, suspect, high⟩⟩
      by_cases lit : w.state = .lit
      · have none : w.records = [] := by
          by_contra some
          have stands := (h.suspected sound some).1
          rw [lit] at stands
          exact nomatch stands
        simp [lit, none]
      · simpa [lit] using h.one sound
    next clear =>
      refine ⟨fun _ => h.one sound, fun _ some => ?_⟩
      obtain ⟨-, limit, bound⟩ := h.suspected sound some
      have := up bound
      omega

theorem FewRecords.event {g : Settings} {w : Weighing} (h : FewRecords g w) (e : TileEvent) : FewRecords g (w.event g e) := by
  unfold Weighing.event
  split
  next => exact h
  next sound => exact h.judge sound (fun bound => by omega) (Nat.min_le_left ..)

/-! ## Weighing on the device -/

/-- The state `t` that weighing leaves of `s`: tile `i` as `w` says, with the records `w` raised. -/
structure Weighed (s : State) (i : TileNo) (w : Weighing) (t : State) : Prop where
  frame : Unchanged [.tiles, .faults] s t
  rated : RatedAt i s t
  state : (t.tile i).state = w.state
  counter : (t.tile i).counter = w.counter
  few : w.records.length ≤ 2
  stays : (s.tile i).state = .faulted → w.state = .faulted
  quiet : (s.tile i).state = .faulted ∨ w.state ≠ .faulted → t.faults = (weighedRecords s i w).foldl FaultUnit.join s.faults
  enters : (s.tile i).state ≠ .faulted → w.state = .faulted →
    t.faults.faultedCount = s.faults.faultedCount + 1 ∧
    (s.faults.queue.length ≤ 28 → ∃ face, face.length ≤ 1 ∧ t.faults.queue = s.faults.queue ++ weighedRecords s i w ++ face)

theorem Weighed.start (s : State) (i : TileNo) : Weighed s i (weighingOf (s.tile i)) s where
  frame := .refl _ s
  rated := .refl i s
  state := rfl
  counter := rfl
  few := Nat.zero_le 2
  stays := id
  quiet _ := rfl
  enters sound faulted := absurd faulted sound

theorem weighedRecords_length (s : State) (i : TileNo) (w : Weighing) : (weighedRecords s i w).length = w.records.length :=
  List.length_map ..

/-- R148: the count set and the tile judged by the limits. -/
theorem Weighed.judge {w : Weighing} (h : Weighed s i w t) (sound : w.state ≠ .faulted) (few : w.records.length ≤ 1) (n : Nat) :
    Weighed s i (w.judge s.settings n) ((t.onTile i fun r => { r with counter := n }).evaluateTile i) := by
  have awake : (s.tile i).state ≠ .faulted := fun faulted => sound (h.stays faulted)
  have hfaults := h.quiet (.inr sound)
  have hself : (t.onTile i fun r => { r with counter := n }).tile i = { t.tile i with counter := n } := State.onTile_tile_self ..
  have hsound : ((t.onTile i fun r => { r with counter := n }).tile i).state ≠ .faulted := by
    rw [hself]
    exact fun faulted => sound (h.state.symm.trans faulted)
  have hsettings : (t.onTile i fun r => { r with counter := n }).settings = s.settings := h.frame.agree .settings (by decide)
  have hframe : Unchanged [.tiles, .faults] s ((t.onTile i fun r => { r with counter := n }).evaluateTile i) :=
    State.evaluateTile_unchanged i (by decide) (State.onTile_unchanged _ _ (by decide) h.frame)
  have hrated : RatedAt i s ((t.onTile i fun r => { r with counter := n }).evaluateTile i) :=
    (h.rated.trans (.onTile t i (f := fun r => { r with counter := n }) fun _ => rfl)).trans (.evaluateTile _ i)
  have hcount : ((t.onTile i fun r => { r with counter := n }).tile i).counter = n := by rw [hself]
  by_cases limit : s.settings.faultLimit ≤ n
  · have hcase := evaluateTile_of_limit hsound (by rw [hsettings, hcount]; exact limit)
    have hjudge : w.judge s.settings n = { state := .faulted, counter := n, records := w.records ++ [(.tileFaulted, n)] } :=
      if_pos limit
    rw [hcase] at hframe hrated ⊢
    rw [hjudge]
    refine ⟨hframe, hrated, enterFaulted_state .., ?_, ?_, fun _ => rfl, fun h => ?_, fun _ _ => ⟨?_, fun room => ?_⟩⟩
    · rw [enterFaulted_counter, hcount]
    · simp only [List.length_append, List.length_singleton]
      omega
    · exact h.elim (absurd · awake) (absurd rfl)
    · rw [enterFaulted_faultedCount]
      change t.faults.faultedCount + 1 = _
      rw [hfaults, foldl_join_faultedCount]
    · obtain ⟨face, short, hqueue⟩ := (enterFaulted_offers (t.onTile i fun r => { r with counter := n }) i).queue
      have length : (weighedRecords s i w).length ≤ 1 := by rw [weighedRecords_length]; exact few
      have hraised : t.faults.queue = s.faults.queue ++ weighedRecords s i w := by
        rw [hfaults]
        exact foldl_join_queue _ (by omega)
      have hroom : t.faults.queue.length < 32 := by
        rw [hraised, List.length_append]
        omega
      refine ⟨face, short, hqueue.trans (congrArg (· ++ face) ?_)⟩
      rw [hcount]
      refine (FaultUnit.join_queue_of_room hroom).trans ?_
      rw [hraised, List.append_assoc]
      refine congrArg (s.faults.queue ++ ·) (Eq.trans ?_ (weighedRecords_append s i w .tileFaulted n).symm)
      exact congrArg (fun q => weighedRecords s i w ++ [q]) (faultRecord_congr h.frame .tileFaulted (some i) (natItem n))
  · have below : ¬ (t.onTile i fun r => { r with counter := n }).settings.faultLimit ≤
        ((t.onTile i fun r => { r with counter := n }).tile i).counter := by rw [hsettings, hcount]; exact limit
    by_cases suspect : s.settings.suspectLimit ≤ n
    · have hsuspect : (t.onTile i fun r => { r with counter := n }).settings.suspectLimit ≤
          ((t.onTile i fun r => { r with counter := n }).tile i).counter := by rw [hsettings, hcount]; exact suspect
      have hjudge : w.judge s.settings n = { state := .suspect, counter := n, records :=
          if w.state = .lit then w.records ++ [(.tileSuspect, n)] else w.records } := by
        rw [Weighing.judge, if_neg limit, if_pos suspect]
      rw [hjudge]
      by_cases lit : w.state = .lit
      · have hlit : ((t.onTile i fun r => { r with counter := n }).tile i).state = .lit := by rw [hself]; exact h.state.trans lit
        have hcase := evaluateTile_of_suspect below hsuspect hlit
        have hlast : (((t.onTile i fun r => { r with counter := n }).onTile i fun q => { q with state := .suspect }).tile i) =
            { t.tile i with counter := n, state := .suspect } := by rw [State.onTile_tile_self, hself]
        rw [hcase] at hframe hrated ⊢
        refine ⟨hframe, hrated, (congrArg TileRecord.state hlast :), (congrArg TileRecord.counter hlast :), ?_,
          fun h => absurd h awake, fun _ => ?_, fun _ h => nomatch h⟩
        · rw [if_pos lit, List.length_append, List.length_singleton]
          omega
        · rw [if_pos lit, hcount]
          refine Eq.trans ?_ (congrArg (List.foldl FaultUnit.join s.faults) (weighedRecords_append s i w .tileSuspect n).symm)
          rw [List.foldl_append, ← hfaults]
          exact congrArg t.faults.join (faultRecord_congr h.frame .tileSuspect (some i) (natItem n))
      · have hnotLit : ((t.onTile i fun r => { r with counter := n }).tile i).state ≠ .lit := by
          rw [hself]
          exact fun hlit => lit (h.state.symm.trans hlit)
        have stands : w.state = .suspect := by
          cases hw : w.state with
          | lit => exact absurd hw lit
          | suspect => rfl
          | faulted => exact absurd hw sound
        have hcase := evaluateTile_of_still_suspect hsound below hsuspect hnotLit
        rw [hcase] at hframe hrated ⊢
        rw [if_neg lit]
        exact ⟨hframe, hrated, by rw [hself]; exact h.state.trans stands, hcount, Nat.le_succ_of_le few,
          fun h => absurd h awake, fun _ => hfaults, fun _ h => nomatch h⟩
    · have hcase := evaluateTile_of_clear hsound below (by rw [hsettings, hcount]; exact suspect)
      have hjudge : w.judge s.settings n = { state := .lit, counter := n, records := w.records } := by
        rw [Weighing.judge, if_neg limit, if_neg suspect]
      have hlit : (((t.onTile i fun r => { r with counter := n }).onTile i fun q => { q with state := .lit }).tile i) =
          { t.tile i with counter := n, state := .lit } := by rw [State.onTile_tile_self, hself]
      rw [hcase] at hframe hrated ⊢
      rw [hjudge]
      exact ⟨hframe, hrated, by rw [hlit], by rw [hlit], Nat.le_succ_of_le few, fun h => absurd h awake, fun _ => hfaults,
        fun _ h => nomatch h⟩

end Sys2Proof.Safety
end

section
/-! Events and silence (R140, R146 to R148). Settles O40. -/

namespace Sys2Proof.Safety

open Sys2Proof.Machine

variable {s t u : State} {i : TileNo} {w : Weighing}

/-! ## One event -/

theorem onTile_congr {f g : TileRecord → TileRecord} (h : f (s.tile i) = g (s.tile i)) : s.onTile i f = s.onTile i g :=
  congrArg (fun r => s.onTiles fun t => { t with records := t.records.set i r }) h

theorem tileEvent_of_faulted (faulted : (s.tile i).state = .faulted) (e : TileEvent) : s.tileEvent i e = s := by
  simp [State.tileEvent, faulted]

theorem tileEvent_of_sound (sound : (s.tile i).state ≠ .faulted) (e : TileEvent) : s.tileEvent i e =
    (s.onTile i fun r => { r with counter := min 255 ((s.tile i).counter + s.settings.weight e) }).evaluateTile i := by
  rw [State.tileEvent, if_neg (by simpa using sound)]
  rfl

theorem goodReport_of_faulted (faulted : (s.tile i).state = .faulted) : s.goodReport i = s := by
  simp [State.goodReport, faulted]

theorem goodReport_of_sound (sound : (s.tile i).state ≠ .faulted) : s.goodReport i =
    (s.onTile i fun r => { r with counter := (s.tile i).counter - 1 }).evaluateTile i := by
  rw [State.goodReport, if_neg (by simpa using sound)]
  rfl

/-- R146: an event on the device does what weighing says. -/
theorem Weighed.event (h : Weighed s i w t) (few : FewRecords s.settings w) (e : TileEvent) :
    Weighed s i (w.event s.settings e) (t.tileEvent i e) := by
  by_cases faulted : w.state = .faulted
  · rw [tileEvent_of_faulted (h.state.trans faulted), Weighing.event, if_pos faulted]
    exact h
  · have sound : (t.tile i).state ≠ .faulted := fun hf => faulted (h.state.symm.trans hf)
    have hsettings : t.settings = s.settings := h.frame.agree .settings (by decide)
    rw [tileEvent_of_sound sound, Weighing.event, if_neg faulted, h.counter, hsettings]
    exact h.judge faulted (few.one faulted) _

theorem Weighed.events (es : List TileEvent) : ∀ {w : Weighing} {t : State}, Weighed s i w t → FewRecords s.settings w →
    Weighed s i (es.foldl (Weighing.event s.settings) w) (es.foldl (fun t e => t.tileEvent i e) t) := by
  induction es with
  | nil => exact fun h _ => h
  | cons e es ih => exact fun h few => ih (h.event few e) (few.event e)

/-- R147: and so does a good report. -/
theorem Weighed.good (s : State) (i : TileNo) :
    Weighed s i ((weighingOf (s.tile i)).good s.settings) (s.goodReport i) := by
  have start := Weighed.start s i
  by_cases faulted : (s.tile i).state = .faulted
  · rw [goodReport_of_faulted faulted, Weighing.good, if_pos (show (weighingOf (s.tile i)).state = .faulted from faulted)]
    exact start
  · rw [goodReport_of_sound faulted, Weighing.good, if_neg (show (weighingOf (s.tile i)).state ≠ .faulted from faulted)]
    exact start.judge faulted (Nat.zero_le 1) _

/-! ## What the tile's own state says of the entry into FAULTED -/

theorem enterFaulted_queue (s : State) (i : TileNo) :
    (s.faults.queue.length < 32 → ∃ rest, (s.enterFaulted i).faults.queue =
      s.faults.queue ++ s.faultRecord .tileFaulted (some i) (natItem (s.tile i).counter) :: rest) ∧
    (32 ≤ s.faults.queue.length → (s.enterFaulted i).faults.queue = s.faults.queue ∧
      min 255 (s.faults.overflow + 1) ≤ (s.enterFaulted i).faults.overflow) := by
  have offers := enterFaulted_offers s i
  constructor
  · intro room
    obtain ⟨rest, -, hqueue⟩ := offers.queue
    refine ⟨rest, hqueue.trans ?_⟩
    rw [FaultUnit.join_queue_of_room room, List.append_assoc]
    rfl
  · intro full
    have hjoin := FaultUnit.join_of_full (s.faultRecord .tileFaulted (some i) (natItem (s.tile i).counter)) full
    rw [hjoin] at offers
    exact ⟨offers.full full, offers.overflow (Nat.min_le_left ..)⟩

/-! ## Silence -/

/-- The tile whose silence count has just returned to 0. -/
def heardSilent (s : State) (i : TileNo) : State := (s.dropDue (.silent i)).onTileScan i fun q => { q with silence := 0 }

theorem heardSilent_frame (s : State) (i : TileNo) : Unchanged [.due, .tiles] s (heardSilent s i) :=
  State.onTileScan_unchanged _ _ (by decide) (State.dropDue_unchanged _ (by decide) (.refl _ s))

theorem heardSilent_tile (s : State) (i : TileNo) :
    (heardSilent s i).tile i = { s.tile i with scan := { (s.tile i).scan with silence := 0 } } :=
  State.onTile_tile_self (s.dropDue (.silent i)) i _

theorem heardSilent_tile_of_ne (s : State) {i j : TileNo} (h : j ≠ i) : (heardSilent s i).tile j = s.tile j :=
  State.onTile_tile_of_ne (s.dropDue (.silent i)) _ h

theorem silent_taken (inUse : i.val < s.tileCount) (reached : s.settings.reportTimeout ≤ (s.tile i).scan.silence) :
    (s.dropDue (.silent i)).takeDue (.silent i) = (heardSilent s i).tileEvent i .silent := by
  change (s.dropDue (.silent i)).fallSilent i = _
  have hreached : (s.dropDue (.silent i)).silenceReached i = true := by
    rw [State.silenceReached, Bool.and_eq_true]
    exact ⟨decide_eq_true inUse, decide_eq_true reached⟩
  rw [State.fallSilent, if_pos hreached]
  rfl

/-- The tile with the event counted, before it is judged by the limits. -/
def silentCounted (s : State) (i : TileNo) : State :=
  (heardSilent s i).onTile i fun r => { r with counter := min 255 ((s.tile i).counter + s.settings.weightSilent) }

theorem silentCounted_tile (s : State) (i : TileNo) : (silentCounted s i).tile i = { s.tile i with
    scan := { (s.tile i).scan with silence := 0 }, counter := min 255 ((s.tile i).counter + s.settings.weightSilent) } := by
  rw [silentCounted, State.onTile_tile_self, heardSilent_tile]

theorem silent_evaluated (sound : (s.tile i).state ≠ .faulted) :
    (heardSilent s i).tileEvent i .silent = (silentCounted s i).evaluateTile i := by
  have awake : ((heardSilent s i).tile i).state ≠ .faulted := by rw [heardSilent_tile]; exact sound
  rw [tileEvent_of_sound awake, heardSilent_tile]
  rfl

theorem silent_weighed (s : State) (i : TileNo) : Weighed (heardSilent s i) i
    ((weighingOf (s.tile i)).event s.settings .silent) ((heardSilent s i).tileEvent i .silent) := by
  have start := Weighed.start (heardSilent s i) i
  rw [heardSilent_tile] at start
  exact start.event (.start _ _) .silent

theorem event_counter (g : Settings) (r : TileRecord) (e : TileEvent) : ((weighingOf r).event g e).counter =
    if r.state = .faulted then r.counter else min 255 (r.counter + g.weight e) := by
  unfold Weighing.event
  by_cases faulted : r.state = .faulted
  · rw [if_pos (show (weighingOf r).state = .faulted from faulted), if_pos faulted]
    rfl
  · rw [if_neg (show (weighingOf r).state ≠ .faulted from faulted), if_neg faulted, Weighing.judge]
    split
    · rfl
    · split <;> rfl

/-- Settles O40. -/
theorem silentCountsAndEvaluates : Obligations.SilentCountsAndEvaluates := by
  unfold Obligations.SilentCountsAndEvaluates
  refine ⟨fun i s due inUse reached => ?_, fun i s due inUse reached sound => ?_⟩
  · refine .of_due due ?_
    rw [silent_taken inUse reached]
    have weighed := silent_weighed s i
    refine ⟨?_, ?_, fun j hj => ?_, ?_⟩
    · rw [weighed.rated.scan, heardSilent_tile]
    · rw [weighed.counter, event_counter]
      rfl
    · obtain ⟨hstate, hcounter⟩ := weighed.rated.others hj
      rw [hstate, hcounter, weighed.rated.scan, heardSilent_tile_of_ne s hj]
      exact ⟨rfl, rfl, rfl⟩
    · exact ((heardSilent_frame s i).mono (by decide)).trans (weighed.frame.mono (by decide))
  · intro count
    refine .of_due due ?_
    rw [silent_taken inUse reached, silent_evaluated sound]
    have htile := silentCounted_tile s i
    have awake : ((silentCounted s i).tile i).state ≠ .faulted := by rw [htile]; exact sound
    have hcount : ((silentCounted s i).tile i).counter = count := by rw [htile]
    refine ⟨fun limit => ?_, fun below suspect => ?_, fun below clear => ?_⟩
    · rw [evaluateTile_of_limit awake (by rw [hcount]; exact limit)]
      obtain ⟨roomy, full⟩ := enterFaulted_queue (silentCounted s i) i
      rw [hcount] at roomy
      refine ⟨enterFaulted_state .., enterFaulted_faultedCount .., roomy, full, fun policy running => ?_⟩
      exact enterFaulted_applied (s := silentCounted s i) running policy inUse
    · have under : ¬ (silentCounted s i).settings.faultLimit ≤ ((silentCounted s i).tile i).counter := by
        rw [hcount]
        exact Nat.not_le.mpr below
      have above : (silentCounted s i).settings.suspectLimit ≤ ((silentCounted s i).tile i).counter := by
        rw [hcount]
        exact suspect
      by_cases lit : (s.tile i).state = .lit
      · rw [evaluateTile_of_suspect under above (by rw [htile]; exact lit), hcount]
        refine ⟨?_, fun _ => rfl, fun still => nomatch lit.symm.trans still⟩
        exact (congrArg TileRecord.state (State.onTile_tile_self (silentCounted s i) i _) :)
      · have still : (s.tile i).state = .suspect := by
          cases hstate : (s.tile i).state with
          | lit => exact absurd hstate lit
          | suspect => rfl
          | faulted => exact absurd hstate sound
        rw [evaluateTile_of_still_suspect awake under above (by rw [htile]; exact lit)]
        exact ⟨by rw [htile]; exact still, fun hlit => absurd hlit lit, fun _ => rfl⟩
    · rw [evaluateTile_of_clear awake (by rw [hcount]; exact Nat.not_le.mpr below) (by rw [hcount]; exact Nat.not_le.mpr clear)]
      exact ⟨(congrArg TileRecord.state (State.onTile_tile_self (silentCounted s i) i _) :), rfl⟩

end Sys2Proof.Safety
end

section
/-! The Tile test's attempts and ends (R164 to R168). Settles O41. -/

namespace Sys2Proof.Safety

open Sys2Proof.Machine

variable {s t : State} {i j : TileNo} {r : AttemptResult}

/-! ## The tested tile (R152) -/

theorem tilePassed_of_sound (sound : (s.tile i).state ≠ .faulted) : s.tilePassed i = s := by
  simp [State.tilePassed, sound]

theorem tilePassed_of_faulted (faulted : (s.tile i).state = .faulted) : s.tilePassed i = s.leaveFaulted i 2 := by
  simp [State.tilePassed, faulted]

theorem tilePassed_rated (s : State) (i : TileNo) : RatedAt i s (s.tilePassed i) := by
  unfold State.tilePassed
  split
  · exact .leaveFaulted s i 2
  · exact .refl i s

theorem tileFailed_of_faulted (faulted : (s.tile i).state = .faulted) :
    s.tileFailed i = s.onTile i fun r => { r with counter := 255 } := by
  simp [State.tileFailed, faulted]

theorem tileFailed_of_sound (sound : (s.tile i).state ≠ .faulted) :
    s.tileFailed i = (s.onTile i fun r => { r with counter := 255 }).enterFaulted i := by
  simp [State.tileFailed, sound]

theorem tileFailed_rated (s : State) (i : TileNo) : RatedAt i s (s.tileFailed i) := by
  have full : RatedAt i s (s.onTile i fun r => { r with counter := 255 }) :=
    .onTile s i (f := fun r => { r with counter := 255 }) fun _ => rfl
  by_cases faulted : (s.tile i).state = .faulted
  · rw [tileFailed_of_faulted faulted]
    exact full
  · rw [tileFailed_of_sound faulted]
    exact full.trans (.enterFaulted _ i)

theorem tileFailed_tile (s : State) (i : TileNo) :
    ((s.tileFailed i).tile i).state = .faulted ∧ ((s.tileFailed i).tile i).counter = 255 := by
  have hself : (s.onTile i fun r => { r with counter := 255 }).tile i = { s.tile i with counter := 255 } :=
    State.onTile_tile_self ..
  by_cases faulted : (s.tile i).state = .faulted
  · rw [tileFailed_of_faulted faulted, hself]
    exact ⟨faulted, rfl⟩
  · rw [tileFailed_of_sound faulted, enterFaulted_counter, hself]
    exact ⟨enterFaulted_state .., rfl⟩

/-- R156: what the entry into FAULTED raises. -/
theorem tileFailed_faults (sound : (s.tile i).state ≠ .faulted) :
    (s.tileFailed i).faults.faultedCount = s.faults.faultedCount + 1 ∧
    (s.faults.queue.length < 32 → ∃ rest, (s.tileFailed i).faults.queue =
      s.faults.queue ++ s.faultRecord .tileFaulted (some i) 255 :: rest) := by
  have hself : (s.onTile i fun r => { r with counter := 255 }).tile i = { s.tile i with counter := 255 } :=
    State.onTile_tile_self ..
  have queue := (enterFaulted_queue (s.onTile i fun r => { r with counter := 255 }) i).1
  rw [hself] at queue
  rw [tileFailed_of_sound sound]
  exact ⟨enterFaulted_faultedCount .., queue⟩

/-! ## The end of a test (R168) -/

/-- The record with its final values. -/
def endedAs (u : TestRecord) (o : TestOutcome) : TestRecord :=
  { u with outcome := o, phase := .none, named := [], sequence := none }

/-- The service ended as the test did. -/
def testService (l : LinkState) (passed : Bool) : LinkState :=
  if passed then { l with status := { l.status with state := .done, error := .none } }
  else { l with status := { l.status with state := .failed, error := .testFailed } }

/-- The tile told of its test's result. -/
def testTold (s : State) (i : TileNo) (passed : Bool) : State := if passed then s.tilePassed i else s.tileFailed i

theorem testTold_frame (s : State) (i : TileNo) (passed : Bool) : Unchanged [.tiles, .faults] s (testTold s i passed) := by
  unfold testTold
  split
  · exact State.tilePassed_unchanged i (by decide) (.refl _ s)
  · exact State.tileFailed_unchanged i (by decide) (.refl _ s)

theorem endTest_eq (s : State) (i : TileNo) (passed : Bool) : s.endTest i passed =
    ((testTold s i passed).onLink fun l => testService l passed).onTest
      fun u => endedAs u (if passed then .passed else .failedAttempts) := by
  cases passed <;> rfl

theorem endTest_test (s : State) (i : TileNo) (passed : Bool) :
    (s.endTest i passed).test = endedAs s.test (if passed then .passed else .failedAttempts) := by
  rw [endTest_eq]
  exact congrArg (endedAs · _) ((testTold_frame s i passed).agree .test (by decide))

theorem endTest_link (s : State) (i : TileNo) (passed : Bool) : (s.endTest i passed).link = testService s.link passed := by
  rw [endTest_eq]
  exact congrArg (testService · passed) ((testTold_frame s i passed).agree .link (by decide))

theorem endTest_tile (s : State) (i j : TileNo) (passed : Bool) : (s.endTest i passed).tile j = (testTold s i passed).tile j := by
  rw [endTest_eq]
  rfl

theorem endTest_faults (s : State) (i : TileNo) (passed : Bool) : (s.endTest i passed).faults = (testTold s i passed).faults := by
  rw [endTest_eq]
  rfl

/-! ## The end of an attempt (R167) -/

theorem endAttempt_of_pass (htile : s.test.tile = some i) :
    s.endAttempt .pass = (s.onTest fun u => { u with lastResult := some .pass }).endTest i true := by
  simp only [State.endAttempt, htile, beq_self_eq_true, if_true]

theorem endAttempt_of_left (htile : s.test.tile = some i) (failed : r ≠ .pass) (left : s.test.used < s.test.requested.getD 0) :
    s.endAttempt r = s.onTest fun u => { u with lastResult := some r, phase := .due, sequence := none, wait := 0 } := by
  have hleft : s.test.attemptsLeft = true := decide_eq_true left
  simp only [State.endAttempt, htile, beq_iff_eq, if_neg failed, hleft, if_true]
  rfl

theorem endAttempt_of_last (htile : s.test.tile = some i) (failed : r ≠ .pass) (last : s.test.requested.getD 0 ≤ s.test.used) :
    s.endAttempt r = (s.onTest fun u => { u with lastResult := some r }).endTest i false := by
  have hlast : s.test.attemptsLeft = false := decide_eq_false (Nat.not_lt.mpr last)
  simp only [State.endAttempt, htile, beq_iff_eq, if_neg failed, hlast, Bool.false_eq_true, if_false]

/-! ## The start of an attempt (R164, R165) -/

/-- The attempt begun in the refresh with this sequence, under this gain. -/
def begunAs (seq : Byte) (gain : Nat) (u : TestRecord) : TestRecord :=
  { u with used := u.used + 1, sequence := some seq, named := u.named ++ [seq], level := some (1023 * gain / 1024)
           phase := .sending }

theorem beginAttempt_of_due (runs : s.test.outcome = .inProgress) (due : s.test.phase = .due) :
    s.beginAttempt = s.onTest (begunAs s.face.sequence s.tiles.gain) := by
  rw [State.beginAttempt, if_pos (by simp [TestRecord.runs, runs, due])]
  rfl

theorem beginAttempt_of_ended (ended : s.test.outcome ≠ .inProgress) : s.beginAttempt = s := by
  rw [State.beginAttempt, if_neg (by simp [TestRecord.runs, ended])]

theorem beginAttempt_of_not_due (waits : s.test.phase ≠ .due) : s.beginAttempt = s := by
  rw [State.beginAttempt, if_neg (by simp [waits])]

theorem endTest_then_begin (s : State) (i : TileNo) (passed : Bool) : (s.endTest i passed).beginAttempt = s.endTest i passed := by
  refine beginAttempt_of_ended ?_
  rw [endTest_test]
  cases passed <;> exact fun h => nomatch h

/-! ## The wait -/

theorem endWait_of_expired (runs : s.test.outcome = .inProgress) (awaiting : s.test.phase = .awaiting)
    (reached : s.settings.reportTimeout ≤ s.test.wait) : s.endWait = (s.endAttempt .noEcho).beginAttempt := by
  rw [State.endWait, if_pos]
  simp [State.waitExpired, TestRecord.runs, runs, awaiting, reached]

/-- Settles O41. -/
theorem testWaitExpires : Obligations.TestWaitExpires := by
  unfold Obligations.TestWaitExpires
  intro i s due runs awaiting reached htile
  have hwait := endWait_of_expired (s := s.dropDue .testWaitExpiry) runs awaiting reached
  refine ⟨fun left => ?_, fun last => .of_due due ?_⟩
  · have hended := endAttempt_of_left (s := s.dropDue .testWaitExpiry) (r := .noEcho) htile (by decide) left
    refine (exec_of_due due).trans (congrArg Host.Outcome.next ?_)
    refine hwait.trans ?_
    rw [hended]
    exact beginAttempt_of_due (s := (s.dropDue .testWaitExpiry).onTest fun u =>
      { u with lastResult := some .noEcho, phase := .due, sequence := none, wait := 0 }) runs rfl
  · have hended := endAttempt_of_last (s := s.dropDue .testWaitExpiry) (r := .noEcho) htile (by decide) last
    have taken : (s.dropDue .testWaitExpiry).takeDue .testWaitExpiry = ((s.dropDue .testWaitExpiry).onTest fun u =>
        { u with lastResult := some .noEcho }).endTest i false := by
      refine hwait.trans ?_
      rw [hended, endTest_then_begin]
    rw [taken, endTest_test, endTest_link, endTest_faults, endTest_tile]
    have rated := tileFailed_rated ((s.dropDue .testWaitExpiry).onTest fun u => { u with lastResult := some .noEcho }) i
    obtain ⟨hstate, hcounter⟩ := tileFailed_tile ((s.dropDue .testWaitExpiry).onTest fun u => { u with lastResult := some .noEcho }) i
    refine ⟨rfl, hstate, hcounter, rfl, fun faulted => ?_, fun j hj => ?_⟩
    · refine congrArg State.faults (tileFailed_of_faulted (s := (s.dropDue .testWaitExpiry).onTest fun u =>
        { u with lastResult := some .noEcho }) faulted) |>.trans rfl
    · rw [endTest_tile]
      obtain ⟨hother, hcount⟩ := rated.others hj
      exact ⟨hcount, hother⟩

end Sys2Proof.Safety
end

section
/-! SUPPORT. A report judged (R135 to R139, R166): filed, its events weighed or its attempt ended, its OVERTEMP bit heeded. -/

namespace Sys2Proof.Safety

open Sys2Proof.Machine

variable {s t : State} {i j : TileNo} {p : Report} {c : Comparison}

/-! ## The vocabulary of the statement -/

theorem compare_eq (q : TileScan) (p : Report) : q.compare p = comparisonOf q.history p := by
  unfold TileScan.compare comparisonOf
  split
  next e found => simp [found]
  next none => simp [none]

theorem events_eq (p : Report) (c : Comparison) (darkLimit : Nat) : p.events c darkLimit = eventsOf p c darkLimit := by
  cases c <;> rfl

theorem summary_eq (p : Report) (c : Comparison) : p.summary c = lastOf p c := rfl

theorem attemptResult_eq (c : Comparison) (dark darkLimit : Nat) : attemptResult c dark darkLimit =
    if c = .matched then (if dark ≤ darkLimit then .pass else .dark)
    else if c = .mismatch then .mismatch else if c = .notCompared then .incomplete else .stale := by
  cases c <;> rfl

/-! ## Filed (R138, R140) -/

theorem fileReport_frame (s : State) (i : TileNo) (p : Report) (c : Comparison) : Unchanged [.tiles] s (s.fileReport i p c) :=
  State.fileReport_unchanged i p c (by decide) (.refl _ s)

theorem fileReport_tile (s : State) (i : TileNo) (p : Report) (c : Comparison) : (s.fileReport i p c).tile i =
    { s.tile i with scan := { (s.tile i).scan with last := some (lastOf p c), silence := 0 } } :=
  State.onTile_tile_self ..

theorem fileReport_tile_of_ne (s : State) (p : Report) (c : Comparison) (h : j ≠ i) : (s.fileReport i p c).tile j = s.tile j :=
  State.onTile_tile_of_ne s _ h

/-! ## The events (R136) -/

theorem handEvents_weighed (s : State) (i : TileNo) (p : Report) (c : Comparison) :
    Weighed s i (weighedReport s.settings (s.tile i) p c) (s.handEvents i p c) := by
  unfold State.handEvents weighedReport
  rw [events_eq]
  dsimp only
  by_cases good : c = .matched ∧ eventsOf p c s.settings.darkLimit = []
  · rw [if_pos good, if_pos (by simpa using good)]
    exact .good s i
  · rw [if_neg good, if_neg (by simpa using good)]
    exact (Weighed.start s i).events _ (.start _ _)

/-! ## The derate flag (R115, R137) -/

theorem setDerate_retargeted (s : State) (i : TileNo) (b : Bool) :
    Retargeted (s.onTile i fun q => { q with derate := b }) (s.setDerate i b) := by
  unfold State.setDerate
  split
  next same =>
    intro j
    by_cases hj : j = i
    · subst hj
      have stands : (s.tile j).derate = b := by simpa using same
      rw [State.onTile_tile_self, ← stands]
    · rw [State.onTile_tile_of_ne _ _ hj]
  next => exact (Retargeted.refl _).retargetTile i

theorem setDerate_frame (s : State) (i : TileNo) (b : Bool) : Unchanged [.tiles] s (s.setDerate i b) :=
  State.setDerate_unchanged i b (by decide) (.refl _ s)

theorem setDerate_tile (s : State) (i : TileNo) (b : Bool) (j : TileNo) :
    ((s.setDerate i b).tile j).state = (s.tile j).state ∧ ((s.setDerate i b).tile j).counter = (s.tile j).counter ∧
    ((s.setDerate i b).tile j).scan = (s.tile j).scan ∧
    ((s.setDerate i b).tile j).derate = if j = i then b else (s.tile j).derate := by
  have retargeted := setDerate_retargeted s i b
  rw [retargeted.state, retargeted.counter, retargeted.scan, retargeted.derate]
  by_cases hj : j = i
  · subst hj
    simp only [State.onTile_tile_self, if_true, and_self]
  · simp only [State.onTile_tile_of_ne _ _ hj, if_neg hj, and_self]

/-- The records OVERTEMP raises. -/
def heatRecords (s : State) (i : TileNo) (p : Report) : List FaultRecord :=
  if p.overtemp = true ∧ (s.tile i).derate = false then
    [s.faultRecord .tileOvertemp (some i) (p.temperature.setWidth 16 - 64#16)]
  else []

theorem handOvertemp_faults (s : State) (i : TileNo) (p : Report) :
    (s.handOvertemp i p).faults = (heatRecords s i p).foldl FaultUnit.join s.faults := by
  unfold State.handOvertemp heatRecords
  by_cases hot : p.overtemp = true ∧ (s.tile i).derate = false
  · rw [if_pos hot, if_pos (by simpa using hot)]
    exact (setDerate_frame _ i _).agree .faults (by decide)
  · rw [if_neg hot, if_neg (by simpa using hot)]
    exact (setDerate_frame _ i _).agree .faults (by decide)

theorem handOvertemp_tile (s : State) (i : TileNo) (p : Report) (j : TileNo) :
    ((s.handOvertemp i p).tile j).state = (s.tile j).state ∧ ((s.handOvertemp i p).tile j).counter = (s.tile j).counter ∧
    ((s.handOvertemp i p).tile j).scan = (s.tile j).scan ∧
    ((s.handOvertemp i p).tile j).derate = if j = i then p.overtemp else (s.tile j).derate := by
  unfold State.handOvertemp
  split <;> exact setDerate_tile _ i p.overtemp j

theorem handOvertemp_frame (s : State) (i : TileNo) (p : Report) : Unchanged [.tiles, .faults] s (s.handOvertemp i p) :=
  State.handOvertemp_unchanged i p (by decide) (.refl _ s)

/-! ## An ordinary report -/

section
variable (ordinary : s.test.names i p.sequence = false)
include ordinary

theorem judgeReport_of_ordinary : s.judgeReport i p =
    ((s.fileReport i p (comparisonOf (s.tile i).scan.history p)).handEvents i p
      (comparisonOf (s.tile i).scan.history p)).handOvertemp i p := by
  rw [State.judgeReport, ordinary, compare_eq]
  rfl

/-- What an ordinary report makes of its tile. -/
theorem judgeReport_ordinary_tile :
    ((s.judgeReport i p).tile i).scan =
      { (s.tile i).scan with last := some (lastOf p (comparisonOf (s.tile i).scan.history p)), silence := 0 } ∧
    ((s.judgeReport i p).tile i).derate = p.overtemp ∧
    ((s.judgeReport i p).tile i).state =
      (weighedReport s.settings (s.tile i) p (comparisonOf (s.tile i).scan.history p)).state ∧
    ((s.judgeReport i p).tile i).counter =
      (weighedReport s.settings (s.tile i) p (comparisonOf (s.tile i).scan.history p)).counter := by
  have weighed := handEvents_weighed (s.fileReport i p (comparisonOf (s.tile i).scan.history p)) i p
    (comparisonOf (s.tile i).scan.history p)
  obtain ⟨hstate, hcounter, hscan, hderate⟩ := handOvertemp_tile ((s.fileReport i p (comparisonOf (s.tile i).scan.history p)).handEvents i p
    (comparisonOf (s.tile i).scan.history p)) i p i
  rw [fileReport_tile] at weighed
  rw [judgeReport_of_ordinary ordinary, hstate, hcounter, hscan, hderate, if_pos rfl, weighed.state, weighed.counter,
    weighed.rated.scan, fileReport_tile]
  exact ⟨rfl, rfl, rfl, rfl⟩

theorem judgeReport_ordinary_other (hj : j ≠ i) :
    ((s.judgeReport i p).tile j).state = (s.tile j).state ∧ ((s.judgeReport i p).tile j).counter = (s.tile j).counter ∧
    ((s.judgeReport i p).tile j).scan = (s.tile j).scan ∧ ((s.judgeReport i p).tile j).derate = (s.tile j).derate := by
  have weighed := handEvents_weighed (s.fileReport i p (comparisonOf (s.tile i).scan.history p)) i p
    (comparisonOf (s.tile i).scan.history p)
  obtain ⟨hstate, hcounter, hscan, hderate⟩ := handOvertemp_tile ((s.fileReport i p (comparisonOf (s.tile i).scan.history p)).handEvents i p
    (comparisonOf (s.tile i).scan.history p)) i p j
  obtain ⟨kstate, kcounter⟩ := weighed.rated.others hj
  rw [judgeReport_of_ordinary ordinary, hstate, hcounter, hscan, hderate, if_neg hj, kstate, kcounter, weighed.rated.scan,
    weighed.rated.derate, fileReport_tile_of_ne _ _ _ hj]
  exact ⟨rfl, rfl, rfl, rfl⟩

theorem judgeReport_ordinary_frame : Unchanged [.tiles, .faults] s (s.judgeReport i p) := by
  have weighed := handEvents_weighed (s.fileReport i p (comparisonOf (s.tile i).scan.history p)) i p
    (comparisonOf (s.tile i).scan.history p)
  rw [judgeReport_of_ordinary ordinary]
  exact (((fileReport_frame s i p _).mono (by decide)).trans weighed.frame).trans (handOvertemp_frame _ i p)

end

end Sys2Proof.Safety
end

section
/-! Reports as their write ends OK (04 R132 to R140, R166 to R168). Settles O28. -/

namespace Sys2Proof.Safety

open Sys2Proof.Machine

variable {s t : State} {r : TxRecord} {i j : TileNo} {p : Report} {c : Comparison}

/-! ## What an ordinary report raises -/

section
variable (ordinary : s.test.names i p.sequence = false)
include ordinary

theorem judgeReport_ordinary_faults :
    ((s.tile i).state = .faulted ∨
        (weighedReport s.settings (s.tile i) p (comparisonOf (s.tile i).scan.history p)).state ≠ .faulted →
      (s.judgeReport i p).faults =
        (weighedRecords s i (weighedReport s.settings (s.tile i) p (comparisonOf (s.tile i).scan.history p)) ++
          heatRecords s i p).foldl FaultUnit.join s.faults) ∧
    ((s.tile i).state ≠ .faulted →
        (weighedReport s.settings (s.tile i) p (comparisonOf (s.tile i).scan.history p)).state = .faulted →
      (s.judgeReport i p).faults.faultedCount = s.faults.faultedCount + 1 ∧
      (s.faults.queue.length ≤ 28 → ∃ face, (s.judgeReport i p).faults.queue =
        s.faults.queue ++ weighedRecords s i (weighedReport s.settings (s.tile i) p (comparisonOf (s.tile i).scan.history p)) ++
          face ++ heatRecords s i p)) := by
  have weighed := handEvents_weighed (s.fileReport i p (comparisonOf (s.tile i).scan.history p)) i p
    (comparisonOf (s.tile i).scan.history p)
  have heats : heatRecords ((s.fileReport i p (comparisonOf (s.tile i).scan.history p)).handEvents i p
      (comparisonOf (s.tile i).scan.history p)) i p = heatRecords s i p := by
    unfold heatRecords
    rw [weighed.rated.derate, fileReport_tile, faultRecord_congr weighed.frame]
    rfl
  rw [fileReport_tile] at weighed
  rw [judgeReport_of_ordinary ordinary, handOvertemp_faults, heats]
  constructor
  · intro calm
    rw [weighed.quiet (by rw [fileReport_tile]; exact calm), List.foldl_append]
    rfl
  · intro sound entered
    obtain ⟨count, queue⟩ := weighed.enters (by rw [fileReport_tile]; exact sound) entered
    refine ⟨?_, fun room => ?_⟩
    · rw [foldl_join_faultedCount]
      exact count
    · obtain ⟨face, short, hqueue⟩ := queue room
      have few := weighed.few
      rw [← weighedRecords_length (s.fileReport i p (comparisonOf (s.tile i).scan.history p)) i] at few
      have hot : (heatRecords s i p).length ≤ 1 := by
        unfold heatRecords
        split <;> simp
      have hroom : ((s.fileReport i p (comparisonOf (s.tile i).scan.history p)).faults.queue).length ≤ 28 := room
      refine ⟨face, ?_⟩
      rw [foldl_join_queue, hqueue]
      · rfl
      · rw [hqueue, List.length_append, List.length_append]
        omega

end

/-! ## A test report (R166) -/

theorem names_iff {u : TestRecord} {q : Byte} : u.names i q = true ↔ u.outcome = .inProgress ∧ u.tile = some i ∧ q ∈ u.named := by
  simp [TestRecord.names, TestRecord.runs, and_assoc]

/-- It echoes the current attempt. -/
def Echoes (u : TestRecord) (q : Byte) : Prop := u.sequence = some q ∧ (u.phase = .sending ∨ u.phase = .awaiting)

/-- The test record once the report is judged. -/
def testJudged (u : TestRecord) (c : Comparison) (p : Report) (result : AttemptResult) : TestRecord :=
  { u with lastMatched := some (c == Comparison.matched), lastDark := some p.dark, lastResult := some result }

/-- The state a test report is judged in, its result recorded. -/
def echoJudged (s : State) (i : TileNo) (p : Report) (result : AttemptResult) : State :=
  (s.fileReport i p .test).onTest fun u => testJudged u (comparisonOf (s.tile i).scan.history p) p result

theorem echoJudged_tile (s : State) (i : TileNo) (p : Report) (result : AttemptResult) (j : TileNo) :
    (echoJudged s i p result).tile j = (s.fileReport i p .test).tile j := rfl

theorem RatedAt.endTest (s : State) (i : TileNo) (passed : Bool) : RatedAt i s (s.endTest i passed) := fun j => by
  rw [endTest_tile]
  cases passed
  · exact tileFailed_rated s i j
  · exact tilePassed_rated s i j

section
variable (named : s.test.names i p.sequence = true)
include named

theorem judgeReport_of_stray (stray : ¬ Echoes s.test p.sequence) : s.judgeReport i p = s.fileReport i p .test := by
  have notCurrent : ¬ (s.fileReport i p .test).test.current p.sequence = true := by
    rw [TestRecord.current, Bool.and_eq_true, Bool.and_eq_true, Bool.or_eq_true, beq_iff_eq, beq_iff_eq, beq_iff_eq]
    exact fun h => stray ⟨h.1.2, h.2⟩
  rw [State.judgeReport, if_pos named, State.testReport, if_neg notCurrent]

theorem judgeReport_of_echo (echo : Echoes s.test p.sequence) : s.judgeReport i p =
    ((s.fileReport i p .test).onTest fun u =>
      { u with lastMatched := some (comparisonOf (s.tile i).scan.history p == .matched), lastDark := some p.dark }).endAttempt
      (attemptResult (comparisonOf (s.tile i).scan.history p) p.dark.toNat s.settings.darkLimit) := by
  have current : (s.fileReport i p .test).test.current p.sequence = true := by
    rw [TestRecord.current, Bool.and_eq_true, Bool.and_eq_true, Bool.or_eq_true, beq_iff_eq, beq_iff_eq, beq_iff_eq]
    have runs : s.test.runs = true := by
      simp [TestRecord.runs, (names_iff.mp named).1]
    exact ⟨⟨runs, echo.1⟩, echo.2⟩
  rw [State.judgeReport, if_pos named, State.testReport, if_pos current, compare_eq]
  rfl

section
variable (echo : Echoes s.test p.sequence)
include echo

theorem judgeReport_of_pass
    (pass : attemptResult (comparisonOf (s.tile i).scan.history p) p.dark.toNat s.settings.darkLimit = .pass) :
    s.judgeReport i p = (echoJudged s i p .pass).endTest i true := by
  rw [judgeReport_of_echo named echo, pass]
  exact endAttempt_of_pass (names_iff.mp named).2.1

theorem judgeReport_of_retry {result : AttemptResult}
    (hresult : attemptResult (comparisonOf (s.tile i).scan.history p) p.dark.toNat s.settings.darkLimit = result)
    (failed : result ≠ .pass) (left : s.test.used < s.test.requested.getD 0) : s.judgeReport i p =
      (s.fileReport i p .test).onTest fun u =>
        { testJudged u (comparisonOf (s.tile i).scan.history p) p result with phase := .due, sequence := none, wait := 0 } := by
  rw [judgeReport_of_echo named echo, hresult]
  exact endAttempt_of_left (names_iff.mp named).2.1 failed left

theorem judgeReport_of_last {result : AttemptResult}
    (hresult : attemptResult (comparisonOf (s.tile i).scan.history p) p.dark.toNat s.settings.darkLimit = result)
    (failed : result ≠ .pass) (last : s.test.requested.getD 0 ≤ s.test.used) :
    s.judgeReport i p = (echoJudged s i p result).endTest i false := by
  rw [judgeReport_of_echo named echo, hresult]
  exact endAttempt_of_last (names_iff.mp named).2.1 failed last

end

/-- A test report leaves of the tiles what weighing may not move. -/
theorem judgeReport_test_rated : RatedAt i (s.fileReport i p .test) (s.judgeReport i p) := by
  by_cases echo : Echoes s.test p.sequence
  · by_cases pass : attemptResult (comparisonOf (s.tile i).scan.history p) p.dark.toNat s.settings.darkLimit = .pass
    · rw [judgeReport_of_pass named echo pass]
      exact .endTest (echoJudged s i p .pass) i true
    · by_cases left : s.test.used < s.test.requested.getD 0
      · rw [judgeReport_of_retry named echo rfl pass left]
        exact .refl i (s.fileReport i p .test)
      · rw [judgeReport_of_last named echo rfl pass (Nat.not_lt.mp left)]
        exact .endTest (echoJudged s i p _) i false
  · rw [judgeReport_of_stray named echo]
    exact .refl i _

end

/-! ## Any report -/

/-- The comparison a report is filed with. -/
def filedAs (s : State) (i : TileNo) (p : Report) : Comparison :=
  if s.test.names i p.sequence = true then .test else comparisonOf (s.tile i).scan.history p

theorem judgeReport_scan (s : State) (i : TileNo) (p : Report) : ((s.judgeReport i p).tile i).scan =
    { (s.tile i).scan with last := some (lastOf p (filedAs s i p)), silence := 0 } := by
  cases named : s.test.names i p.sequence with
  | false =>
    rw [filedAs, if_neg (by simp [named])]
    exact (judgeReport_ordinary_tile named).1
  | true => rw [(judgeReport_test_rated named).scan, fileReport_tile, filedAs, if_pos named]

theorem judgeReport_other (s : State) (p : Report) (hj : j ≠ i) :
    ((s.judgeReport i p).tile j).state = (s.tile j).state ∧ ((s.judgeReport i p).tile j).counter = (s.tile j).counter ∧
    ((s.judgeReport i p).tile j).scan = (s.tile j).scan ∧ ((s.judgeReport i p).tile j).derate = (s.tile j).derate := by
  cases named : s.test.names i p.sequence with
  | false => exact judgeReport_ordinary_other named hj
  | true =>
    have rated := judgeReport_test_rated named
    obtain ⟨hstate, hcounter⟩ := rated.others hj
    rw [hstate, hcounter, rated.scan, rated.derate, fileReport_tile_of_ne _ _ _ hj]
    exact ⟨rfl, rfl, rfl, rfl⟩

end Sys2Proof.Safety
end

section
/-! Reports as their write ends OK (04 R132 to R140, R166 to R168). Settles O28. -/

namespace Sys2Proof.Safety

open Sys2Proof.Machine

variable {s t : State} {r : TxRecord} {i j : TileNo} {p : Report}

/-! ## The end of the write -/

theorem reports_end (ending : Ending r .ok s) (watched : r.verdict = .watch) (report : r.window = .report)
    (governed : r.governed = true) (running : s.governor = .running) : Runs (.forwardedBurstEnd .ok) s fun t =>
      Follows (s.scan.noted.foldl (fun u q => if q.enables.isAll = true then u.makeReport q.slot q.word else u)
        (completedAs s r .ok).dropNotedReports) t := by
  obtain ⟨t, hexec, hfollows⟩ := watched_ending_runs ending watched
  rw [(handStatus_of_judged (s := completedAs s r .ok) watched governed running).2 report] at hfollows
  exact ⟨t, hexec, hfollows⟩

/-! ## A report made (R132 to R134) -/

theorem misplaced_iff (s : State) (i : TileNo) (p : Report) :
    s.misplaced i p = true ↔ p.tile.toNat ≠ i.val ∨ s.tileCount ≤ i.val := by
  simp [State.misplaced]

theorem makeReport_cases (s : State) (i : TileNo) (w3 : Word) :
    let p := reportOf (s.reportShadow i 0) (s.reportShadow i 1) (s.reportShadow i 2) w3
    let misplaced := p.tile.toNat ≠ i.val ∨ s.tileCount ≤ i.val
    (misplaced → s.makeReport i w3 = s.onFaults fun f =>
      f.join (s.faultRecord .reportMisplaced (some i) (p.tile.setWidth 16))) ∧
    (¬ misplaced → s.scan.openRefresh = some p.sequence →
      s.makeReport i w3 = s.onTile i fun q => { q with scan := { q.scan with held := some p } }) ∧
    (¬ misplaced → s.scan.openRefresh ≠ some p.sequence → s.makeReport i w3 = s.judgeReport i p) := by
  intro p misplaced
  have hmake : s.makeReport i w3 = if s.misplaced i p then s.offer .reportMisplaced (some i) (p.tile.setWidth 16)
      else if s.scan.openRefresh == some p.sequence then s.onTileScan i fun t => { t with held := some p }
      else s.judgeReport i p := rfl
  rw [hmake]
  refine ⟨fun off => ?_, fun placed isOpen => ?_, fun placed shut => ?_⟩
  · rw [if_pos ((misplaced_iff s i p).mpr off)]
    rfl
  · rw [if_neg ((misplaced_iff s i p).not.mpr placed), if_pos (beq_iff_eq.mpr isOpen)]
    rfl
  · rw [if_neg ((misplaced_iff s i p).not.mpr placed), if_neg (by simpa using shut)]

/-! ## A test report's effect -/

section
variable (named : s.test.names i p.sequence = true) (echo : Echoes s.test p.sequence)
include named echo

/-- A pass ends the test, and a FAULTED tile recovers. -/
theorem judgeReport_passes
    (pass : attemptResult (comparisonOf (s.tile i).scan.history p) p.dark.toNat s.settings.darkLimit = .pass) :
    (s.judgeReport i p).test = endedAs (testJudged s.test (comparisonOf (s.tile i).scan.history p) p .pass) .passed ∧
    (s.judgeReport i p).link = testService s.link true ∧
    ((s.tile i).state = .faulted → ((s.judgeReport i p).tile i).state = .lit ∧ ((s.judgeReport i p).tile i).counter = 0 ∧
      (s.judgeReport i p).faults.faultedCount = s.faults.faultedCount - 1 ∧
      (s.faults.queue.length < 32 → ∃ rest, (s.judgeReport i p).faults.queue = s.faults.queue ++
        s.faultRecord .tileRecovered (some i) 2 :: rest)) ∧
    ((s.tile i).state ≠ .faulted → (s.judgeReport i p).faults = s.faults ∧
      ((s.judgeReport i p).tile i).state = (s.tile i).state ∧ ((s.judgeReport i p).tile i).counter = (s.tile i).counter) := by
  have htile : (echoJudged s i p .pass).tile i = _ := fileReport_tile s i p .test
  rw [judgeReport_of_pass named echo pass, endTest_test, endTest_link, endTest_tile, endTest_faults]
  refine ⟨rfl, rfl, fun faulted => ?_, fun sound => ?_⟩
  · have hfaulted : ((echoJudged s i p .pass).tile i).state = .faulted := by rw [htile]; exact faulted
    rw [testTold, if_pos rfl, tilePassed_of_faulted hfaulted]
    obtain ⟨hstate, hcounter, -, -⟩ := State.leaveFaulted_tile (echoJudged s i p .pass) i 2
    exact ⟨hstate, hcounter, State.leaveFaulted_faultedCount .., State.leaveFaulted_queue (s := echoJudged s i p .pass) i 2⟩
  · have hsound : ((echoJudged s i p .pass).tile i).state ≠ .faulted := by rw [htile]; exact sound
    rw [testTold, if_pos rfl, tilePassed_of_sound hsound, htile]
    exact ⟨rfl, rfl, rfl⟩

/-- The last attempt failed: the tile is FAULTED at 255. -/
theorem judgeReport_fails {result : AttemptResult}
    (hresult : attemptResult (comparisonOf (s.tile i).scan.history p) p.dark.toNat s.settings.darkLimit = result)
    (failed : result ≠ .pass) (last : s.test.requested.getD 0 ≤ s.test.used) :
    (s.judgeReport i p).test =
      endedAs (testJudged s.test (comparisonOf (s.tile i).scan.history p) p result) .failedAttempts ∧
    (s.judgeReport i p).link = testService s.link false ∧
    ((s.judgeReport i p).tile i).state = .faulted ∧ ((s.judgeReport i p).tile i).counter = 255 ∧
    ((s.tile i).state ≠ .faulted → (s.judgeReport i p).faults.faultedCount = s.faults.faultedCount + 1 ∧
      (s.faults.queue.length < 32 → ∃ rest, (s.judgeReport i p).faults.queue = s.faults.queue ++
        s.faultRecord .tileFaulted (some i) 255 :: rest)) := by
  have htile : (echoJudged s i p result).tile i = _ := fileReport_tile s i p .test
  obtain ⟨hstate, hcounter⟩ := tileFailed_tile (echoJudged s i p result) i
  rw [judgeReport_of_last named echo hresult failed last, endTest_test, endTest_link, endTest_tile, endTest_faults]
  refine ⟨rfl, rfl, hstate, hcounter, fun sound => ?_⟩
  exact tileFailed_faults (s := echoJudged s i p result) (by rw [htile]; exact sound)

end

/-- Settles O28. -/
theorem reportMade : Obligations.ReportMade := by
  unfold Obligations.ReportMade
  refine ⟨fun w0 w1 w2 w3 => ?_, fun r s ending watched report governed running => ?_,
    fun i w3 s => makeReport_cases s i w3, fun i p s => ?_⟩
  · exact ⟨extract_toNat .., extract_toNat .., extract_toNat .., extract_toNat .., extract_toNat .., getLsbD_iff ..,
      getLsbD_iff .., getLsbD_iff ..⟩
  · exact reports_end ending watched report governed running
  · intro c t
    have hscan := judgeReport_scan s i p
    refine ⟨by rw [hscan], by rw [hscan], State.judgeReport_unchanged i p (by decide) (.refl _ s), fun j hj => ?_,
      fun ordinary => ?_, fun named => ?_⟩
    · obtain ⟨hstate, hcounter, kscan, -⟩ := judgeReport_other s p hj
      exact ⟨hcounter, hstate, kscan⟩
    · intro w heat records
      obtain ⟨kscan, hderate, hstate, hcounter⟩ := judgeReport_ordinary_tile ordinary
      obtain ⟨calm, entered⟩ := judgeReport_ordinary_faults ordinary
      have frame := judgeReport_ordinary_frame ordinary
      exact ⟨by rw [kscan], hderate, hstate, hcounter, frame.agree .test (by decide), frame.agree .link (by decide), calm, entered⟩
    · intro current result judged ended
      have hresult : attemptResult c p.dark.toNat s.settings.darkLimit = result := attemptResult_eq ..
      have hfile := fileReport_tile s i p .test
      have retries : current → result ≠ .pass → s.test.used < s.test.requested.getD 0 →
          t = (s.fileReport i p .test).onTest fun u =>
            { testJudged u c p result with phase := .due, sequence := none, wait := 0 } :=
        fun echo failed left => judgeReport_of_retry named echo hresult failed left
      have strays : ¬ current → t = s.fileReport i p .test := fun stray => judgeReport_of_stray named stray
      refine ⟨by rw [hscan, filedAs, if_pos named], by rw [(judgeReport_test_rated named).derate, hfile], fun stray => ?_,
        fun echo pass => ?_, fun echo failed left => ?_, fun echo failed last => ?_, ?_, ?_⟩
      · rw [strays stray]
        rfl
      · rw [pass] at hresult
        obtain ⟨htest, hlink, recovers, -⟩ := judgeReport_passes named echo hresult
        refine ⟨?_, hlink, recovers⟩
        rw [htest]
        simp only [ended, judged, pass]
        rfl
      · rw [retries echo failed left]
        rfl
      · obtain ⟨htest, hlink, hstate, hcounter, enters⟩ := judgeReport_fails named echo hresult failed last
        exact ⟨htest, hlink, hstate, hcounter, enters⟩
      · rintro (stray | ⟨failed, left⟩)
        · rw [strays stray]
          rfl
        · by_cases echo : current
          · rw [retries echo failed left]
            rfl
          · rw [strays echo]
            rfl
      · intro spared
        by_cases echo : current
        · rcases spared with stray | ⟨pass, sound⟩ | ⟨failed, left⟩
          · exact absurd echo stray
          · rw [pass] at hresult
            exact (judgeReport_passes named echo hresult).2.2.2 sound
          · rw [retries echo failed left]
            change _ ∧ ((s.fileReport i p .test).tile i).state = _ ∧ ((s.fileReport i p .test).tile i).counter = _
            rw [hfile]
            exact ⟨rfl, rfl, rfl⟩
        · rw [strays echo, hfile]
          exact ⟨rfl, rfl, rfl⟩

end Sys2Proof.Safety
end

section
/-! SUPPORT. The anatomy of a refresh start (log 14): its stages in order, which block each may move, and the take that
brings it. -/

namespace Sys2Proof.Safety

open Sys2Proof.Machine

variable {s t u : State} {p : Presented}

/-! ## The stages -/

/-- The state with the sequence advanced and the scan resumed. -/
def resumed (u : State) : State := u.advanceSequence.resumeScan

/-- The state with the face decided. -/
def decided (u : State) : State := (resumed u).showDecision

/-- The state with the gains stepped. -/
def refreshShown (u : State) : State := (u.showRefreshStart.onBus fun b => { b with errorMark := false }).rampAll

/-- The state with every tile's refresh closed and counted afresh. -/
def refreshClosed (u : State) : State := (refreshShown u).closeRefresh

/-- The state with the held reports judged. -/
def refreshJudged (u : State) : State := (refreshClosed u).judgeHeldReports

/-- The state with the silence counts risen and the Tile test stepped. -/
def refreshStepped (u : State) : State := (refreshJudged u).silenceSteps.testStep

theorem showRefreshStart_eq (u : State) : u.showRefreshStart = (decided u).settlePair (resumed u).headSlot := rfl

theorem refreshStart_eq (u : State) :
    u.refreshStart = (refreshStepped u).addDuesFirst (refreshStepped u).refreshDues := rfl

theorem resumed_frame (u : State) : Unchanged [.face, .faults] u (resumed u) :=
  State.resumeScan_unchanged (by decide) (State.advanceSequence_unchanged (by decide) (.refl _ u))

theorem decided_frame (u : State) : Unchanged [.table, .cues, .face] (resumed u) (decided u) :=
  State.showDecision_unchanged (by decide) (.refl _ _)

theorem refreshShown_frame (u : State) : Unchanged [.bus, .tiles] u.showRefreshStart (refreshShown u) :=
  State.rampAll_unchanged (by decide) (State.onBus_unchanged _ (by decide) (.refl _ _))

theorem refreshClosed_frame (u : State) : Unchanged [.tiles, .scan] (refreshShown u) (refreshClosed u) :=
  State.closeRefresh_unchanged (by decide) (.refl _ _)

theorem refreshJudged_frame (u : State) : Unchanged [.tiles, .faults, .test, .link] (refreshClosed u) (refreshJudged u) :=
  State.judgeHeldReports_unchanged (by decide) (.refl _ _)

theorem refreshStepped_frame (u : State) : Unchanged [.tiles, .faults, .test, .link] (refreshJudged u) (refreshStepped u) :=
  State.testStep_unchanged (by decide) (State.silenceSteps_unchanged (by decide) (.refl _ _))

/-- From the decision on only the tiles, the scan, the faults, the test and the link move, and the error mark. -/
theorem refreshStart_frame (u : State) :
    Unchanged [.due, .bus, .tiles, .scan, .faults, .test, .link] u.showRefreshStart u.refreshStart :=
  (((((refreshShown_frame u).mono (by decide)).trans ((refreshClosed_frame u).mono (by decide))).trans
    ((refreshJudged_frame u).mono (by decide))).trans ((refreshStepped_frame u).mono (by decide))).trans
    (State.addDuesFirst_unchanged _ (by decide) (.refl _ _))

theorem showRefreshStart_frame (u : State) : Unchanged [.due, .table, .cues, .face, .faults] u u.showRefreshStart :=
  State.showRefreshStart_unchanged (by decide) (.refl _ u)

/-! ## The blocks the decision moves -/

theorem refreshStart_table (u : State) : u.refreshStart.table = (decided u).table :=
  Eq.trans ((refreshStart_frame u).agree .table (by decide)) (settlePair_table _ _)

theorem refreshStart_cues (u : State) : u.refreshStart.cues = (decided u).cues :=
  Eq.trans ((refreshStart_frame u).agree .cues (by decide)) (settlePair_cues _ _)

theorem refreshStart_face (u : State) : u.refreshStart.face = ((decided u).settlePair (resumed u).headSlot).face :=
  (refreshStart_frame u).agree .face (by decide)

theorem refreshStart_bus (u : State) : u.refreshStart.bus = { u.bus with errorMark := false } := by
  have stepped : Unchanged [.due, .tiles, .scan, .faults, .test, .link] (refreshShown u) (refreshStepped u) :=
    ((refreshClosed_frame u).mono (by decide)).trans
      (((refreshJudged_frame u).mono (by decide)).trans ((refreshStepped_frame u).mono (by decide)))
  have later : u.refreshStart.bus = (refreshShown u).bus := by
    rw [refreshStart_eq]
    exact (State.addDuesFirst_unchanged _ (by decide) stepped).agree .bus (by decide)
  have shown : u.showRefreshStart.bus = u.bus := (showRefreshStart_frame u).agree .bus (by decide)
  have cleared : (refreshShown u).bus = { u.showRefreshStart.bus with errorMark := false } :=
    (State.rampAll_unchanged (xs := [.tiles]) (by decide) (.refl _ _)).agree .bus (by decide)
  rw [later, cleared, shown]

/-! ## The face's fields -/

theorem resumed_face (u : State) : (resumed u).face =
    { u.face with sequence := u.face.sequence + 1, stallCount := 0, stalled := false } := by
  unfold resumed State.resumeScan
  dsimp only
  split <;> rfl

theorem swapIn_face (s : State) (e : QueueEntry) : (s.swapIn e).face =
    { s.face.dropPair with
      showing := e.selection, dwellClass := some e.dwellClass, dwell := loadedDwell (s.dwellLoad e.dwellClass) } := by
  have moved : Unchanged [.table, .cues] s (((s.dequeue e.slot).bufferToShowing e.buffer).showFirst e) :=
    (State.bufferToShowing_unchanged _ (by decide) (State.dequeue_unchanged _ (by decide) (.refl _ s))).trans
      ((setOutcome_frame ..).mono (by decide))
  exact congrArg (fun f : ShowUnit => { f.dropPair with
    showing := e.selection, dwellClass := some e.dwellClass, dwell := loadedDwell (s.dwellLoad e.dwellClass) })
    (moved.agree .face (by decide))

theorem preempt_face (s : State) (e : QueueEntry) : (s.preempt e).face =
    { s.face with suspended := s.face.toSuspend, showing := e.selection, dwellClass := some e.dwellClass, dwell := .idle } := by
  have moved : Unchanged [.table, .cues] s (((s.suspendShowing.dequeue e.slot).bufferToShowing e.buffer).showFirst e) :=
    (State.bufferToShowing_unchanged _ (by decide) (State.dequeue_unchanged _ (by decide)
      (State.suspendShowing_unchanged (by decide) (.refl _ s)))).trans ((setOutcome_frame ..).mono (by decide))
  exact congrArg (fun f : ShowUnit => { f with
    suspended := s.face.toSuspend, showing := e.selection, dwellClass := some e.dwellClass, dwell := .idle })
    (moved.agree .face (by decide))

theorem resume_face (s : State) (sel : Showing) (n : SlotNo) (c : Fin 4) : (s.resume sel n c).face =
    { s.face with showing := sel, dwellClass := some c, suspended := .empty, dwell := loadedDwell (s.dwellLoad c) } :=
  congrArg (fun f : ShowUnit => { f with
    showing := sel, dwellClass := some c, suspended := .empty, dwell := loadedDwell (s.dwellLoad c) })
    ((State.setInterim_unchanged (xs := [.cues]) n .onFace (by decide) (.refl _ s)).agree .face (by decide))

/-- The scan's fields of the face. -/
def SameScan (f g : ShowUnit) : Prop := g.sequence = f.sequence ∧ g.stallCount = f.stallCount ∧ g.stalled = f.stalled

theorem SameScan.of_swapIn {f : ShowUnit} (e : QueueEntry) (h : SameScan f s.face) : SameScan f (s.swapIn e).face := by
  rw [swapIn_face]
  exact h

theorem endNotice_scan (s : State) : SameScan s.face s.endNotice.face := by
  have closed : SameScan s.face s.closeNotice.face := by
    rw [State.closeNotice_face]
    exact ⟨rfl, rfl, rfl⟩
  unfold State.endNotice
  dsimp only
  split
  · rw [resume_face]
    exact closed
  · rw [resume_face]
    exact closed
  · split
    · exact closed.of_swapIn _
    · exact closed

theorem showDecision_scan (s : State) : SameScan s.face s.showDecision.face := by
  have same : SameScan s.face s.face := ⟨rfl, rfl, rfl⟩
  unfold State.showDecision
  split
  · split
    · exact endNotice_scan s
    · exact same
  · split
    · rw [preempt_face]
      exact same
    · split
      · split
        · refine SameScan.of_swapIn _ ?_
          rw [State.retireShowing_face]
          exact same
        · exact same
      · exact same

theorem showRefreshStart_scan (u : State) : u.showRefreshStart.face.sequence = u.face.sequence + 1 ∧
    u.showRefreshStart.face.stallCount = 0 ∧ u.showRefreshStart.face.stalled = false := by
  have paired := (settlePair_follows (decided u) (resumed u).headSlot).face
  obtain ⟨sequence, count, stalled⟩ := showDecision_scan (resumed u)
  rw [resumed_face] at sequence count stalled
  exact ⟨(congrArg ShowUnit.sequence paired :).trans sequence, (congrArg ShowUnit.stallCount paired :).trans count,
    (congrArg ShowUnit.stalled paired :).trans stalled⟩

theorem refreshStart_scan (u : State) :
    u.refreshStart.scan = { u.scan with openRefresh := some (u.face.sequence + 1) } := by
  have later : u.refreshStart.scan = (refreshClosed u).scan := by
    rw [refreshStart_eq]
    exact (State.addDuesFirst_unchanged (xs := [.due, .tiles, .faults, .test, .link]) _ (by decide)
      (((refreshJudged_frame u).mono (by decide)).trans ((refreshStepped_frame u).mono (by decide)))).agree .scan (by decide)
  have shown : (refreshShown u).scan = u.scan :=
    (((showRefreshStart_frame u).mono (ys := [.due, .table, .cues, .face, .faults, .bus, .tiles]) (by decide)).trans
      ((refreshShown_frame u).mono (by decide))).agree .scan (by decide)
  have face : (refreshShown u).face = u.showRefreshStart.face := (refreshShown_frame u).agree .face (by decide)
  have closed : (refreshClosed u).scan = { (refreshShown u).scan with openRefresh := some (refreshShown u).face.sequence } := rfl
  rw [later, closed, shown, face, (showRefreshStart_scan u).1]

/-! ## What comes due -/

theorem dropDue_nil (nothing : s.due = []) (e : DueEvent) : (s.dropDue e).due = [] := by
  have dropped : (s.dropDue e).due = s.due.filter (· != e) := rfl
  rw [dropped, nothing, List.filter_nil]

theorem settlePair_due_nil {before : Option SlotNo} (nothing : s.due = []) : (s.settlePair before).due = [] := by
  unfold State.settlePair
  dsimp only
  split
  · split
    · exact dropDue_nil (s := s.onFace ShowUnit.dropPair) nothing _
    · exact nothing
  · split
    · exact dropDue_nil nothing _
    · exact nothing

theorem refreshStepped_due (nothing : u.due = []) : (refreshStepped u).due = [] := by
  have decides : (decided u).due = u.due :=
    (((resumed_frame u).mono (ys := [.table, .cues, .face, .faults]) (by decide)).trans
      ((decided_frame u).mono (by decide))).agree .due (by decide)
  have shown : u.showRefreshStart.due = [] := settlePair_due_nil (decides.trans nothing)
  exact Eq.trans ((((refreshShown_frame u).mono (ys := [.bus, .tiles, .scan, .faults, .test, .link]) (by decide)).trans
    (((refreshClosed_frame u).mono (by decide)).trans (((refreshJudged_frame u).mono (by decide)).trans
      ((refreshStepped_frame u).mono (by decide))))).agree .due (by decide)) shown

theorem refreshStart_due (nothing : u.due = []) : u.refreshStart.due = (refreshStepped u).refreshDues := by
  have adds : u.refreshStart.due = (refreshStepped u).due.foldl insertDue (refreshStepped u).refreshDues := rfl
  rw [adds, refreshStepped_due nothing, List.foldl_nil]

end Sys2Proof.Safety
end

section
/-! SUPPORT. The take that starts a refresh (01 R2, R12, R16; 04 R69): what stands when its record is opened, and after. -/

namespace Sys2Proof.Safety

open Sys2Proof.Machine

variable {s t u : State} {p : Presented}

/-! ## Enacting a record -/

theorem arbitrate_due {e : DueEvent} (notClaim : e ≠ .guardClaim) (notTake : e ≠ .takePresented) :
    e ∈ s.arbitrate.due ↔ e ∈ s.due := by
  unfold State.arbitrate
  split
  · rfl
  · split
    · exact mem_insertDue_iff.trans (or_iff_left notClaim)
    · split
      · exact mem_insertDue_iff.trans (or_iff_left notTake)
      · rw [(State.grantOwn_unchanged (xs := [.bus, .cues]) (by decide) (.refl _ s)).agree .due (by decide)]

theorem tellBuffers_frame (s : State) (r : TxRecord) : Unchanged [.table] s (s.tellBuffers r) := by
  rw [tellBuffers_eq]
  exact State.onTable_unchanged _ (by decide) (.refl _ s)

/-- What holds of the state with the record opened, and of that state through the arbiter, holds of the record enacted. -/
theorem enact_cases {P : State → Prop} (u : State) (r : TxRecord)
    (opened : ∀ v, Unchanged [.bus, .table] u v → P v) (arbitrated : ∀ v, Unchanged [.bus, .table] u v → P v.arbitrate) :
    P (u.enact r) := by
  have told : Unchanged [.bus, .table] u ((u.onBus fun b => { b with upstream := some r, presented := none }).tellBuffers r) :=
    (State.onBus_unchanged _ (by decide) (.refl _ u)).trans ((tellBuffers_frame _ r).mono (by decide))
  unfold State.enact
  dsimp only
  split
  · exact opened _ (State.onBus_unchanged _ (by decide) told)
  · split
    · exact arbitrated _ (State.complete_unchanged _ (by decide) told)
    · exact arbitrated _ told

theorem enact_writeBack (u : State) (r : TxRecord) : WriteBackListIs (u.enact r) u.cues.writeBack := by
  refine enact_cases (P := fun t => WriteBackListIs t u.cues.writeBack) u r (fun v same => .inl ?_) fun v same => ?_
  · rw [same.agree .cues (by decide)]
  · have list := arbitrate_writeBack v
    rw [same.agree .cues (by decide)] at list
    exact list

theorem enact_due (u : State) (r : TxRecord) {e : DueEvent} (notClaim : e ≠ .guardClaim) (notTake : e ≠ .takePresented) :
    e ∈ (u.enact r).due ↔ e ∈ u.due := by
  refine enact_cases (P := fun t => e ∈ t.due ↔ e ∈ u.due) u r (fun v same => ?_) fun v same => ?_
  · rw [same.agree .due (by decide)]
  · rw [arbitrate_due notClaim notTake, same.agree .due (by decide)]

/-! ## The take -/

/-- The state the refresh start leaves, before the record is opened. -/
def startedFrom (s : State) (p : Presented) : State := (s.onBus fun b => { b with presented := some p }).refreshStart

/-- The state the take leaves. -/
def startTaken (s : State) (p : Presented) : State := (startedFrom s p).prepare.enact ((startedFrom s p).openRecord p true)

theorem exec_start (takes : Takes p s) (starts : s.startsRefresh p = true) :
    exec (.transactionTake (some p)) s = .next (startTaken s p) := by
  have hstarts : (s.onBus fun b => { b with presented := some p }).startsRefresh p = true := starts
  rw [exec_take takes, startTaken, startedFrom, State.takeTransaction, hstarts, if_pos rfl, (prepare_follows _).openRecord]

theorem startedFrom_frame (s : State) (p : Presented) :
    Unchanged [.due, .bus, .table, .cues, .face, .tiles, .scan, .faults, .test, .link] s (startedFrom s p) :=
  State.refreshStart_unchanged (by decide) (State.onBus_unchanged _ (by decide) (.refl _ s))

theorem startTaken_frame (s : State) (p : Presented) : Unchanged [.due, .bus, .table, .cues] (startedFrom s p) (startTaken s p) :=
  State.enact_unchanged _ (by decide) (State.prepare_unchanged (by decide) (.refl _ _))

theorem startTaken_writeBack (s : State) (p : Presented) : WriteBackListIs (startTaken s p) (startedFrom s p).cues.writeBack := by
  have list := enact_writeBack (startedFrom s p).prepare ((startedFrom s p).openRecord p true)
  rw [(State.prepare_unchanged (xs := [.bus, .table]) (by decide) (.refl _ (startedFrom s p))).agree .cues (by decide)] at list
  exact list

theorem startTaken_due (s : State) (p : Presented) {e : DueEvent} (notClaim : e ≠ .guardClaim) (notTake : e ≠ .takePresented) :
    e ∈ (startTaken s p).due ↔ e ∈ (startedFrom s p).due := by
  rw [startTaken, enact_due _ _ notClaim notTake,
    (State.prepare_unchanged (xs := [.bus, .table]) (by decide) (.refl _ (startedFrom s p))).agree .due (by decide)]

theorem startedFrom_bus (s : State) (p : Presented) :
    (startedFrom s p).bus = { s.bus with presented := some p, errorMark := false } := refreshStart_bus _

theorem onBus_presented (u : State) : (u.onBus fun b => { b with presented := u.bus.presented }) = u := rfl

theorem startTaken_follows (takes : Takes p s) :
    Follows (tookAs (startedFrom s p) ((startedFrom s p).openRecord p true)) (startTaken s p) := by
  obtain ⟨free, -⟩ := port_of_ready takes.2.2.2
  have hfree : (startedFrom s p).bus.port = none := by rw [startedFrom_bus]; exact free
  have ready : Follows ((startedFrom s p).onBus fun b => { b with presented := (startedFrom s p).bus.presented })
      (startedFrom s p).prepare := by
    rw [onBus_presented]
    exact prepare_follows _
  exact enact_follows (s := startedFrom s p) ready _ hfree ((prepare_port _).trans hfree)

/-! ## The read it takes -/

theorem startsRefresh_iff (s : State) (p : Presented) : s.startsRefresh p = true ↔
    s.governor = .running ∧ p.initiator = .scan ∧ p.direction = .read ∧
    windowOf s.settings.layout p = .face ∧ p.address = s.settings.layout.faceBase := by
  simp [State.startsRefresh, State.running, and_assoc]

theorem openedRecord_started (s : State) (p : Presented) (v : Verdict) (target : Option BufferNo) :
    openedRecord (startedFrom s p) p v target true = openedRecord s p v target true := by
  have hsettings : (startedFrom s p).settings = s.settings := (startedFrom_frame s p).agree .settings (by decide)
  have hgovernor : (startedFrom s p).governor = s.governor := (startedFrom_frame s p).agree .governor (by decide)
  simp only [openedRecord, State.running, hsettings, hgovernor]

theorem started_verdict (starts : s.startsRefresh p = true) :
    (startedFrom s p).verdictOf p (windowOf (startedFrom s p).settings.layout p) = (startedFrom s p).readVerdict .face := by
  obtain ⟨running, -, read, face, -⟩ := (startsRefresh_iff s p).mp starts
  have hsettings : (startedFrom s p).settings = s.settings := (startedFrom_frame s p).agree .settings (by decide)
  have hgovernor : (startedFrom s p).governor = s.governor := (startedFrom_frame s p).agree .governor (by decide)
  rw [hsettings, face, (verdictOf_of_running (hgovernor.trans running) _).2 read]

/-- R12: the read is steered to the buffer now showing. -/
theorem startTaken_remaps (takes : Takes p s) (starts : s.startsRefresh p = true) {b : BufferNo} {n : SlotNo}
    (showing : (startedFrom s p).face.showing = .buffer b n) :
    (startTaken s p).bus.upstream = some (openedRecord s p .remap (some b) true) ∧
    (startTaken s p).bus.port = some (forwardBurst p (BitVec.ofNat 32 (s.settings.layout.bufferAddress b))) := by
  obtain ⟨running, -, read, -, base⟩ := (startsRefresh_iff s p).mp starts
  obtain ⟨hremap, htarget⟩ := readVerdict_face_of_buffer showing
  have hsettings : (startedFrom s p).settings = s.settings := (startedFrom_frame s p).agree .settings (by decide)
  have hrecord := openRecord_eq (s := startedFrom s p) true ((started_verdict starts).trans hremap) htarget
  have follows := startTaken_follows takes
  rw [hrecord, openedRecord_started, tookAs_of_forwarded rfl, tellBuffers_of_untold (.inr read)] at follows
  refine ⟨(congrArg BusState.upstream follows.path :), (follows.held rfl).trans (congrArg some ?_)⟩
  rw [hsettings]
  simp only [TxRecord.burst, openedRecord, forwardBurst, TxRecord.faceOffset, base, Nat.sub_self, Nat.add_zero]

/-- R13: it is answered where no buffer shows. -/
theorem startTaken_answers (takes : Takes p s) (starts : s.startsRefresh p = true)
    (dark : ∀ b n, (startedFrom s p).face.showing ≠ .buffer b n) :
    (startTaken s p).bus.upstream = some (openedRecord s p .answer none true) := by
  obtain ⟨running, -, read, -, -⟩ := (startsRefresh_iff s p).mp starts
  have hrecord := openRecord_eq (s := startedFrom s p) true ((started_verdict starts).trans (readVerdict_face_of_none dark))
    (targetOf_of_ne (by decide))
  have follows := startTaken_follows takes
  rw [hrecord, openedRecord_started, tookAs_of_answered rfl, tellBuffers_of_untold (.inr read)] at follows
  exact (congrArg BusState.upstream follows.path :)

end Sys2Proof.Safety
end

section
/-! SUPPORT. The held reports of a refresh start, judged tile by tile (R129, R134): each tile's judgement leaves the others. -/

namespace Sys2Proof.Safety

open Sys2Proof.Machine

variable {s t u : State} {i j : TileNo} {p : Report}

/-! ## A tile that only T and A may differ of -/

/-- Of the tile's record only T and A may differ. -/
def Retouched (q r : TileRecord) : Prop := { r with target := q.target, applied := q.applied } = q

theorem Retouched.refl (q : TileRecord) : Retouched q q := rfl

theorem Retouched.trans {q r v : TileRecord} (h : Retouched q r) (g : Retouched r v) : Retouched q v := by
  unfold Retouched at *
  rw [← h, ← g]

theorem Retouched.fields {q r : TileRecord} (h : Retouched q r) : r.state = q.state ∧ r.counter = q.counter ∧
    r.scan = q.scan ∧ r.derate = q.derate ∧ r.trim = q.trim :=
  ⟨(congrArg TileRecord.state h :), (congrArg TileRecord.counter h :), (congrArg TileRecord.scan h :),
    (congrArg TileRecord.derate h :), (congrArg TileRecord.trim h :)⟩

theorem Retouched.scan {q r : TileRecord} (h : Retouched q r) : r.scan = q.scan := h.fields.2.2.1

theorem RatedAt.retouched (h : RatedAt i s t) (hj : j ≠ i) : Retouched (s.tile j) (t.tile j) := by
  have rated := h j
  simp only [if_neg hj] at rated
  exact rated

theorem RatedAt.trim (h : RatedAt i s t) (j : TileNo) : (t.tile j).trim = (s.tile j).trim :=
  (congrArg TileRecord.trim (h j) :)

/-! ## One report -/

theorem handOvertemp_retargeted (s : State) (i : TileNo) (p : Report) :
    Retargeted (s.onTile i fun q => { q with derate := p.overtemp }) (s.handOvertemp i p) := by
  unfold State.handOvertemp
  split <;> exact setDerate_retargeted _ i p.overtemp

theorem handOvertemp_retouched (s : State) (p : Report) (hj : j ≠ i) : Retouched (s.tile j) ((s.handOvertemp i p).tile j) := by
  have h : Retouched _ _ := handOvertemp_retargeted s i p j
  rw [State.onTile_tile_of_ne _ _ hj] at h
  exact h

theorem judgeReport_retouched (s : State) (p : Report) (hj : j ≠ i) :
    Retouched (s.tile j) ((s.judgeReport i p).tile j) := by
  cases named : s.test.names i p.sequence with
  | false =>
    have weighed := handEvents_weighed (s.fileReport i p (comparisonOf (s.tile i).scan.history p)) i p
      (comparisonOf (s.tile i).scan.history p)
    have before := weighed.rated.retouched hj
    rw [fileReport_tile_of_ne _ _ _ hj] at before
    rw [judgeReport_of_ordinary named]
    exact before.trans (handOvertemp_retouched _ p hj)
  | true =>
    have h := (judgeReport_test_rated named).retouched hj
    rw [fileReport_tile_of_ne _ _ _ hj] at h
    exact h

theorem judgeReport_trim (s : State) (i : TileNo) (p : Report) : ((s.judgeReport i p).tile i).trim = (s.tile i).trim := by
  cases named : s.test.names i p.sequence with
  | false =>
    have weighed := handEvents_weighed (s.fileReport i p (comparisonOf (s.tile i).scan.history p)) i p
      (comparisonOf (s.tile i).scan.history p)
    have after := (Retargeted.trim (handOvertemp_retargeted ((s.fileReport i p (comparisonOf (s.tile i).scan.history p)).handEvents i p
      (comparisonOf (s.tile i).scan.history p)) i p) i)
    rw [State.onTile_tile_self] at after
    rw [judgeReport_of_ordinary named, after]
    refine (weighed.rated.trim i).trans ?_
    rw [fileReport_tile]
  | true => rw [(judgeReport_test_rated named).trim, fileReport_tile]

/-- A report judged leaves the tested tile's number. -/
theorem judgeReport_testTile (s : State) (i : TileNo) (p : Report) : (s.judgeReport i p).test.tile = s.test.tile := by
  cases named : s.test.names i p.sequence with
  | false => rw [(judgeReport_ordinary_frame named).agree .test (by decide)]
  | true =>
    by_cases echo : Echoes s.test p.sequence
    · by_cases pass : attemptResult (comparisonOf (s.tile i).scan.history p) p.dark.toNat s.settings.darkLimit = .pass
      · rw [judgeReport_of_pass named echo pass, endTest_test]
        rfl
      · by_cases left : s.test.used < s.test.requested.getD 0
        · rw [judgeReport_of_retry named echo rfl pass left]
          rfl
        · rw [judgeReport_of_last named echo rfl pass (Nat.not_lt.mp left), endTest_test]
          rfl
    · rw [judgeReport_of_stray named echo]
      rfl

theorem names_of_other {v : TestRecord} (other : v.tile ≠ some i) (q : Byte) : v.names i q = false := by
  simp [TestRecord.names, other]

/-- A report of another tile leaves which of this tile's sequences the test names. -/
theorem judgeReport_names (s : State) (p : Report) (hj : j ≠ i) (q : Byte) :
    (s.judgeReport i p).test.names j q = s.test.names j q := by
  cases named : s.test.names i p.sequence with
  | false => rw [(judgeReport_ordinary_frame named).agree .test (by decide)]
  | true =>
    have tested : s.test.tile = some i := (names_iff.mp named).2.1
    have other : s.test.tile ≠ some j := fun h => hj (Option.some.inj (h.symm.trans tested))
    rw [names_of_other other, names_of_other (by rw [judgeReport_testTile]; exact other)]

/-! ## One tile's held report -/

/-- The tile with its held report taken up. -/
def unheld (s : State) (i : TileNo) : State := s.onTileScan i fun q => { q with held := none }

theorem unheld_tile (s : State) (i : TileNo) :
    (unheld s i).tile i = { s.tile i with scan := { (s.tile i).scan with held := none } } := State.onTile_tile_self ..

theorem unheld_tile_of_ne (s : State) (hj : j ≠ i) : (unheld s i).tile j = s.tile j := State.onTile_tile_of_ne s _ hj

theorem judgeHeld_of_none (none : (s.tile i).scan.held = none) : s.judgeHeld i = s := by
  simp only [State.judgeHeld, none]

theorem judgeHeld_of_held (held : (s.tile i).scan.held = some p) : s.judgeHeld i = (unheld s i).judgeReport i p := by
  simp only [State.judgeHeld, held]
  rfl

theorem judgeHeld_retouched (s : State) (hj : j ≠ i) : Retouched (s.tile j) ((s.judgeHeld i).tile j) := by
  cases held : (s.tile i).scan.held with
  | none => rw [judgeHeld_of_none held]; exact .refl _
  | some p =>
    have h := judgeReport_retouched (unheld s i) p hj
    rw [unheld_tile_of_ne s hj] at h
    rw [judgeHeld_of_held held]
    exact h

theorem judgeHeld_names (s : State) (hj : j ≠ i) (q : Byte) : (s.judgeHeld i).test.names j q = s.test.names j q := by
  cases held : (s.tile i).scan.held with
  | none => rw [judgeHeld_of_none held]
  | some p =>
    rw [judgeHeld_of_held held]
    exact judgeReport_names (unheld s i) p hj q

/-- Only the tested tile's report is the test's. -/
theorem judgeHeld_test (other : s.test.tile ≠ some i) :
    (s.judgeHeld i).test = s.test ∧ (s.judgeHeld i).link = s.link := by
  cases held : (s.tile i).scan.held with
  | none => rw [judgeHeld_of_none held]; exact ⟨rfl, rfl⟩
  | some p =>
    have frame := judgeReport_ordinary_frame (s := unheld s i) (i := i) (p := p) (names_of_other other p.sequence)
    rw [judgeHeld_of_held held]
    exact ⟨frame.agree .test (by decide), frame.agree .link (by decide)⟩

/-! ## The tiles in turn -/

/-- The tiles' held reports judged in this order. -/
def judgedAll (s : State) (is : List TileNo) : State := is.foldl State.judgeHeld s

theorem judgedAll_cons (s : State) (i : TileNo) (is : List TileNo) : judgedAll s (i :: is) = judgedAll (s.judgeHeld i) is := rfl

theorem judgedAll_frame (s : State) (is : List TileNo) : Unchanged [.tiles, .faults, .test, .link] s (judgedAll s is) := by
  induction is generalizing s with
  | nil => exact .refl _ s
  | cons i is ih => exact (State.judgeHeld_unchanged i (by decide) (.refl _ s)).trans (ih _)

theorem judgedAll_spares {is : List TileNo} (spared : j ∉ is ∨ (s.tile j).scan.held = none) :
    Retouched (s.tile j) ((judgedAll s is).tile j) := by
  induction is generalizing s with
  | nil => exact .refl _
  | cons i is ih =>
    rw [judgedAll_cons]
    by_cases same : j = i
    · subst same
      have none : (s.tile j).scan.held = none := spared.resolve_left (by simp)
      rw [judgeHeld_of_none none]
      exact ih (.inr none)
    · have first := judgeHeld_retouched s same
      refine first.trans (ih (spared.imp (fun h => ?_) fun h => ?_))
      · exact fun inside => h (List.mem_cons_of_mem _ inside)
      · rw [first.scan, h]

theorem judgedAll_names {is : List TileNo} (apart : j ∉ is) (q : Byte) :
    (judgedAll s is).test.names j q = s.test.names j q := by
  induction is generalizing s with
  | nil => rfl
  | cons i is ih =>
    obtain ⟨first, rest⟩ := not_or.mp (mt List.mem_cons.mpr apart)
    rw [judgedAll_cons, ih rest, judgeHeld_names s first]

/-- Where the tested tile has no turn, or nothing to judge, the test and the link stand. -/
theorem judgedAll_test {is : List TileNo} (apart : ∀ i ∈ is, s.test.tile ≠ some i ∨ (s.tile i).scan.held = none) :
    (judgedAll s is).test = s.test ∧ (judgedAll s is).link = s.link := by
  induction is generalizing s with
  | nil => exact ⟨rfl, rfl⟩
  | cons i is ih =>
    obtain ⟨first, rest⟩ := List.forall_mem_cons.mp apart
    rw [judgedAll_cons]
    by_cases none : (s.tile i).scan.held = none
    · rw [judgeHeld_of_none none]
      exact ih rest
    · obtain ⟨htest, hlink⟩ := judgeHeld_test (first.resolve_right none)
      obtain ⟨ktest, klink⟩ := ih (s := s.judgeHeld i) fun j hj => by
        rw [htest]
        refine (rest j hj).imp_right fun spared => ?_
        have other : j ≠ i := fun same => none (same ▸ spared)
        rw [(judgeHeld_retouched s other).scan, spared]
      exact ⟨ktest.trans htest, klink.trans hlink⟩

theorem judgedAll_of_none {is : List TileNo} (none : ∀ i ∈ is, (s.tile i).scan.held = none) : judgedAll s is = s := by
  induction is with
  | nil => rfl
  | cons i is ih =>
    obtain ⟨first, rest⟩ := List.forall_mem_cons.mp none
    rw [judgedAll_cons, judgeHeld_of_none first, ih rest]

/-! ## The tiles in use -/

theorem mem_tilesInUse : i ∈ s.tilesInUse ↔ i.val < s.tileCount := by
  simp [State.tilesInUse]

theorem judgeHeldReports_eq (s : State) : s.judgeHeldReports = judgedAll s s.tilesInUse := rfl

/-- A tile in use has its turn once. -/
theorem tilesInUse_split (inUse : i.val < s.tileCount) :
    ∃ before after, s.tilesInUse = before ++ i :: after ∧ i ∉ before ∧ i ∉ after := by
  have distinct : s.tilesInUse.Nodup := (List.nodup_finRange 128).filter _
  obtain ⟨before, after, split⟩ := List.append_of_mem (mem_tilesInUse.mpr inUse)
  rw [split] at distinct
  have apart := List.nodup_append.mp distinct
  exact ⟨before, after, split, fun h => apart.2.2 i h i (List.mem_cons_self ..) rfl, (List.nodup_cons.mp apart.2.1).1⟩

theorem judgeHeldReports_split {before after : List TileNo} (split : s.tilesInUse = before ++ i :: after) :
    s.judgeHeldReports = judgedAll ((judgedAll s before).judgeHeld i) after := by
  rw [judgeHeldReports_eq, split, judgedAll, List.foldl_append]
  rfl

end Sys2Proof.Safety
end

section
/-! SUPPORT. A tile through the stages of a refresh start (R120, R129, R134, R140, R164). -/

namespace Sys2Proof.Safety

open Sys2Proof.Machine

variable {s t u : State} {i j : TileNo} {p : Presented}

/-! ## The ramp and the close -/

theorem refreshShown_tile (u : State) (i : TileNo) :
    (refreshShown u).tile i = rampStep u.settings.rampUp u.settings.rampDown (u.tile i) := by
  have tiles : u.showRefreshStart.tiles = u.tiles := (showRefreshStart_frame u).agree .tiles (by decide)
  have settings : u.showRefreshStart.settings = u.settings := (showRefreshStart_frame u).agree .settings (by decide)
  have ramps := State.rampAll_tile (u.showRefreshStart.onBus fun b => { b with errorMark := false }) i
  have tile : (u.showRefreshStart.onBus fun b => { b with errorMark := false }).tile i = u.tile i :=
    congrArg (fun q : TileTable => q.records.get i) tiles
  have same : (u.showRefreshStart.onBus fun b => { b with errorMark := false }).settings = u.settings := settings
  rw [tile, same] at ramps
  exact ramps

theorem rampStep_fields (up down : Nat) (q : TileRecord) : rampStep up down q = { q with applied := (rampStep up down q).applied } := by
  unfold rampStep
  split <;> rfl

theorem refreshClosed_tile (u : State) (i : TileNo) : (refreshClosed u).tile i =
    { u.tile i with
      applied := (rampStep u.settings.rampUp u.settings.rampDown (u.tile i)).applied
      scan := { (u.tile i).scan with
        history := closedHistory u i, running := 0xFFFF#16, delivered := 0, broken := false } } := by
  have scan : (refreshShown u).scan = u.scan :=
    (((showRefreshStart_frame u).mono (ys := [.due, .table, .cues, .face, .faults, .bus, .tiles]) (by decide)).trans
      ((refreshShown_frame u).mono (by decide))).agree .scan (by decide)
  have settings : (refreshShown u).settings = u.settings :=
    (((showRefreshStart_frame u).mono (ys := [.due, .table, .cues, .face, .faults, .bus, .tiles]) (by decide)).trans
      ((refreshShown_frame u).mono (by decide))).agree .settings (by decide)
  have closes : (refreshClosed u).tile i = TileRecord.refresh u.scan.openRefresh u.tileCount u.settings.layout.wordsPerTile i
      (rampStep u.settings.rampUp u.settings.rampDown (u.tile i)) := by
    rw [← refreshShown_tile, ← scan, ← settings, State.tileCount, ← settings]
    exact Table.get_mapIdx ..
  rw [closes, rampStep_fields]
  unfold TileRecord.refresh closedHistory
  cases u.scan.openRefresh with
  | none => rfl
  | some q =>
    dsimp only
    split
    · rfl
    · rfl

/-! ## The silence count -/

theorem silenceSteps_tile (s : State) (i : TileNo) : s.silenceSteps.tile i =
    { s.tile i with scan := { (s.tile i).scan with
        silence := if i.val < s.tileCount then min 255 ((s.tile i).scan.silence + 1) else (s.tile i).scan.silence } } := by
  have steps : s.silenceSteps.tile i = if i.val < s.tileCount then
      { s.tile i with scan := (s.tile i).scan.silenceStep } else s.tile i := Table.get_mapIdx ..
  rw [steps]
  split <;> rfl

theorem silenceSteps_frame (s : State) : Unchanged [.tiles] s s.silenceSteps :=
  State.silenceSteps_unchanged (by decide) (.refl _ s)

/-! ## The Tile test's step (R164) -/

theorem runs_iff {v : TestRecord} : v.runs = true ↔ v.outcome = .inProgress := by
  simp [TestRecord.runs]

theorem testStep_of_idle (idle : s.test.runs = false) : s.testStep = s := by
  simp only [State.testStep, idle, Bool.false_eq_true, if_false]

/-- The record with the sequence that comes round dropped. -/
def unnamed (seq : Byte) (v : TestRecord) : TestRecord := { v with named := v.named.filter (· != seq) }

section
variable (runs : s.test.outcome = .inProgress)
include runs

theorem testStep_of_due (due : s.test.phase = .due) :
    s.testStep = s.onTest fun v => begunAs s.face.sequence s.tiles.gain (unnamed s.face.sequence v) := by
  have begins := beginAttempt_of_due (s := s.onTest (unnamed s.face.sequence)) runs due
  rw [State.testStep, if_pos (runs_iff.mpr runs), due]
  exact begins

theorem testStep_of_awaiting (awaiting : s.test.phase = .awaiting) : s.testStep = s.onTest fun v =>
    { unnamed s.face.sequence v with wait := min 255 (v.wait + 1) } := by
  rw [State.testStep, if_pos (runs_iff.mpr runs), awaiting]
  rfl

theorem testStep_of_none (none : s.test.phase = .none) : s.testStep = s.onTest (unnamed s.face.sequence) := by
  rw [State.testStep, if_pos (runs_iff.mpr runs), none]
  rfl

/-- The record with its test refresh closed. -/
def awaitedAs (seq : Byte) (v : TestRecord) : TestRecord := { unnamed seq v with phase := .awaiting, wait := 1 }

section
variable (sending : s.test.phase = .sending)
include sending

theorem testStep_of_complete (complete : s.testIncomplete = false) :
    s.testStep = s.onTest (awaitedAs s.face.sequence) := by
  rw [State.testStep, if_pos (runs_iff.mpr runs), sending]
  dsimp only
  rw [complete]
  rfl

theorem testStep_of_incomplete (incomplete : s.testIncomplete = true) :
    s.testStep = ((s.onTest (awaitedAs s.face.sequence)).endAttempt .incomplete).beginAttempt := by
  rw [State.testStep, if_pos (runs_iff.mpr runs), sending]
  dsimp only
  rw [incomplete]
  rfl

theorem testStep_of_retry (incomplete : s.testIncomplete = true) (htile : s.test.tile = some i)
    (left : s.test.used < s.test.requested.getD 0) : s.testStep = s.onTest fun v =>
      begunAs s.face.sequence s.tiles.gain { unnamed s.face.sequence v with lastResult := some .incomplete, wait := 0 } := by
  have ends := endAttempt_of_left (s := s.onTest (awaitedAs s.face.sequence)) (r := .incomplete) htile (by decide) left
  rw [testStep_of_incomplete runs sending incomplete, ends]
  exact beginAttempt_of_due (s := (s.onTest (awaitedAs s.face.sequence)).onTest fun v =>
    { v with lastResult := some .incomplete, phase := .due, sequence := none, wait := 0 }) runs rfl

theorem testStep_of_last (incomplete : s.testIncomplete = true) (htile : s.test.tile = some i)
    (last : s.test.requested.getD 0 ≤ s.test.used) : s.testStep = (s.onTest fun v =>
      { awaitedAs s.face.sequence v with lastResult := some .incomplete }).endTest i false := by
  have ends := endAttempt_of_last (s := s.onTest (awaitedAs s.face.sequence)) (r := .incomplete) htile (by decide) last
  rw [testStep_of_incomplete runs sending incomplete, ends, endTest_then_begin]
  rfl

end

end

theorem testIncomplete_iff (s : State) (i : TileNo) (htile : s.test.tile = some i) : s.testIncomplete = true ↔
    ∃ q, s.test.sequence = some q ∧
      ∃ e, (s.tile i).scan.history.find? (fun h => h.sequence == q) = some e ∧ e.complete = false := by
  unfold State.testIncomplete
  rw [htile]
  cases s.test.sequence with
  | none => simp
  | some q =>
    cases found : (s.tile i).scan.history.find? (fun h => h.sequence == q) <;> simp [found]

/-- Each thing the step may do. -/
theorem testStep_cases {P : State → Prop} (s : State) (idle : P s) (kept : ∀ f, P (s.onTest f))
    (ended : ∀ i f, s.test.runs = true → s.test.tile = some i → P ((s.onTest f).endTest i false)) : P s.testStep := by
  cases hruns : s.test.runs with
  | false => rw [testStep_of_idle hruns]; exact idle
  | true =>
    have runs := runs_iff.mp hruns
    cases phase : s.test.phase with
    | none => rw [testStep_of_none runs phase]; exact kept _
    | due => rw [testStep_of_due runs phase]; exact kept _
    | awaiting => rw [testStep_of_awaiting runs phase]; exact kept _
    | sending =>
      cases incomplete : s.testIncomplete with
      | false => rw [testStep_of_complete runs phase incomplete]; exact kept _
      | true =>
        cases htile : s.test.tile with
        | none => simp [State.testIncomplete, htile] at incomplete
        | some i =>
          by_cases left : s.test.used < s.test.requested.getD 0
          · rw [testStep_of_retry runs phase incomplete htile left]
            exact kept _
          · rw [testStep_of_last runs phase incomplete htile (Nat.not_lt.mp left)]
            exact ended i _ hruns htile

/-- The step leaves what no result may move. -/
theorem testStep_scan (s : State) (j : TileNo) : (s.testStep.tile j).scan = (s.tile j).scan ∧
    (s.testStep.tile j).derate = (s.tile j).derate ∧ (s.testStep.tile j).trim = (s.tile j).trim := by
  refine testStep_cases (P := fun t => (t.tile j).scan = (s.tile j).scan ∧ (t.tile j).derate = (s.tile j).derate ∧
    (t.tile j).trim = (s.tile j).trim) s ⟨rfl, rfl, rfl⟩ (fun _ => ⟨rfl, rfl, rfl⟩) fun i f _ _ => ?_
  have rated := RatedAt.endTest (s.onTest f) i false
  exact ⟨rated.scan j, rated.derate j, rated.trim j⟩

/-- A tile that no ending test moves. -/
theorem testStep_untested (s : State) (i : TileNo)
    (untested : s.test.runs = false ∨ s.test.tile ≠ some i ∨ s.testStep.test.outcome = .inProgress) :
    (s.testStep.tile i).state = (s.tile i).state ∧ (s.testStep.tile i).counter = (s.tile i).counter := by
  revert untested
  refine testStep_cases (P := fun t => (s.test.runs = false ∨ s.test.tile ≠ some i ∨ t.test.outcome = .inProgress) →
    (t.tile i).state = (s.tile i).state ∧ (t.tile i).counter = (s.tile i).counter) s (fun _ => ⟨rfl, rfl⟩)
    (fun _ _ => ⟨rfl, rfl⟩) fun j f runs htile untested => ?_
  have other : i ≠ j := by
    rcases untested with idle | other | going
    · exact absurd runs (by simp [idle])
    · exact fun same => other (by rw [same]; exact htile)
    · rw [endTest_test] at going
      exact nomatch going
  exact (RatedAt.endTest (s.onTest f) j false).others other

/-! ## The tiles, the test and the link once the refresh has started -/

theorem refreshStart_stepped (u : State) : Unchanged [.due] (refreshStepped u) u.refreshStart := by
  rw [refreshStart_eq]
  exact State.addDuesFirst_unchanged _ (by decide) (.refl _ _)

theorem startTaken_stepped (s : State) (p : Presented) : Unchanged [.due, .bus, .table, .cues]
    (refreshStepped (s.onBus fun b => { b with presented := some p })) (startTaken s p) :=
  ((refreshStart_stepped _).mono (by decide)).trans (startTaken_frame s p)

theorem Unchanged.tile {bs : List Block} (h : Unchanged bs s t) (sub : Block.tiles ∉ bs) (i : TileNo) :
    t.tile i = s.tile i :=
  congrArg (fun q : TileTable => q.records.get i) (h.agree .tiles sub)

theorem startTaken_tile (s : State) (p : Presented) (i : TileNo) :
    (startTaken s p).tile i = (refreshStepped (s.onBus fun b => { b with presented := some p })).tile i :=
  Unchanged.tile (startTaken_stepped s p) (by decide) i

end Sys2Proof.Safety
end

section
/-! SUPPORT. The fault queue only grows (R157), through every judgement of a report and every end of a test. -/

namespace Sys2Proof.Safety

open Sys2Proof.Machine

variable {s t u : State} {i : TileNo} {p : Report}

/-- Records were offered and none was taken. -/
structure Grown (f g : FaultUnit) : Prop where
  queue : ∃ rest, g.queue = f.queue ++ rest
  full : 32 ≤ f.queue.length → g.queue = f.queue
  overflow : f.overflow ≤ 255 → f.overflow ≤ g.overflow ∧ g.overflow ≤ 255

theorem Grown.of_same {f g : FaultUnit} (hqueue : g.queue = f.queue) (hoverflow : g.overflow = f.overflow) : Grown f g :=
  ⟨⟨[], by rw [hqueue, List.append_nil]⟩, fun _ => hqueue, fun bound => by rw [hoverflow]; exact ⟨le_rfl, bound⟩⟩

theorem Grown.refl (f : FaultUnit) : Grown f f := .of_same rfl rfl

theorem Grown.trans {f g h : FaultUnit} (a : Grown f g) (b : Grown g h) : Grown f h := by
  obtain ⟨rest, hrest⟩ := a.queue
  obtain ⟨more, hmore⟩ := b.queue
  refine ⟨⟨rest ++ more, by rw [hmore, hrest, List.append_assoc]⟩, fun full => ?_, fun bound => ?_⟩
  · have same := a.full full
    rw [b.full (by rw [same]; exact full), same]
  · obtain ⟨up, high⟩ := a.overflow bound
    obtain ⟨kup, khigh⟩ := b.overflow high
    exact ⟨up.trans kup, khigh⟩

theorem Grown.join (f : FaultUnit) (r : FaultRecord) : Grown f (f.join r) := by
  by_cases room : f.queue.length < 32
  · have same : (f.join r).overflow = f.overflow := by simp [FaultUnit.join, room]
    exact ⟨⟨[r], FaultUnit.join_queue_of_room room⟩, fun full => absurd room (Nat.not_lt.mpr full),
      fun bound => by rw [same]; exact ⟨le_rfl, bound⟩⟩
  · rw [FaultUnit.join_of_full r (Nat.not_lt.mp room)]
    refine ⟨⟨[], (List.append_nil _).symm⟩, fun _ => rfl, fun bound => ⟨?_, Nat.min_le_left ..⟩⟩
    dsimp only
    omega

theorem Grown.foldl (rs : List FaultRecord) (f : FaultUnit) : Grown f (rs.foldl FaultUnit.join f) := by
  induction rs generalizing f with
  | nil => exact .refl f
  | cons r rs ih => exact (Grown.join f r).trans (ih _)

theorem Grown.addReason (s : State) (x : BlankReason) : Grown s.faults (s.addReason x).faults := by
  unfold State.addReason
  split
  · exact .refl _
  · split
    · exact .of_same rfl rfl
    · have put : Grown s.faults (s.putReason x true).faults := .of_same rfl rfl
      exact put.trans (.join ..)

theorem Grown.removeReason (s : State) (x : BlankReason) : Grown s.faults (s.removeReason x).faults := by
  unfold State.removeReason
  split
  · exact .refl _
  · split
    · exact .of_same rfl rfl
    · have put : Grown s.faults (s.putReason x false).faults := .of_same rfl rfl
      exact put.trans (.join ..)

theorem Grown.faceLimitCheck (s : State) : Grown s.faults s.faceLimitCheck.faults := by
  unfold State.faceLimitCheck
  split
  · exact .addReason ..
  · exact .removeReason ..

/-! ## The tiles' results -/

theorem Grown.counted (f : FaultUnit) (r : FaultRecord) (n : Nat) : Grown f { f.join r with faultedCount := n } :=
  (Grown.join f r).trans (.of_same rfl rfl)

theorem Grown.enterFaulted (s : State) (i : TileNo) : Grown s.faults (s.enterFaulted i).faults := by
  unfold State.enterFaulted
  refine Grown.trans ?_ (.faceLimitCheck _)
  exact .counted s.faults (s.faultRecord .tileFaulted (some i) (natItem (s.tile i).counter)) _

theorem Grown.leaveFaulted (s : State) (i : TileNo) (detail : Half) : Grown s.faults (s.leaveFaulted i detail).faults := by
  unfold State.leaveFaulted
  refine Grown.trans ?_ (.faceLimitCheck _)
  exact .counted s.faults (s.faultRecord .tileRecovered (some i) detail) _

theorem Grown.endTest (s : State) (i : TileNo) (passed : Bool) : Grown s.faults (s.endTest i passed).faults := by
  rw [endTest_faults]
  cases passed with
  | true =>
    by_cases faulted : (s.tile i).state = .faulted
    · rw [testTold, if_pos rfl, tilePassed_of_faulted faulted]
      exact .leaveFaulted s i 2
    · rw [testTold, if_pos rfl, tilePassed_of_sound faulted]
      exact .refl _
  | false =>
    by_cases faulted : (s.tile i).state = .faulted
    · rw [testTold, if_neg (by decide), tileFailed_of_faulted faulted]
      exact .refl _
    · rw [testTold, if_neg (by decide), tileFailed_of_sound faulted]
      exact .enterFaulted (s.onTile i fun r => { r with counter := 255 }) i

/-! ## The events of a report -/

theorem Grown.evaluateTile (s : State) (i : TileNo) : Grown s.faults (s.evaluateTile i).faults := by
  unfold State.evaluateTile
  dsimp only
  split
  · exact .refl _
  · split
    · exact .enterFaulted s i
    · split
      · split
        · exact .join ..
        · exact .refl _
      · exact .refl _

theorem Grown.tileEvent (s : State) (i : TileNo) (e : TileEvent) : Grown s.faults (s.tileEvent i e).faults := by
  unfold State.tileEvent
  split
  · exact .refl _
  · exact .evaluateTile (s.onTile i fun r => { r with counter := saturate 255 (r.counter + s.settings.weight e) }) i

theorem Grown.events (s : State) (i : TileNo) (es : List TileEvent) :
    Grown s.faults (es.foldl (fun t e => t.tileEvent i e) s).faults := by
  induction es generalizing s with
  | nil => exact .refl _
  | cons e es ih => exact (Grown.tileEvent s i e).trans (ih _)

theorem Grown.handEvents (s : State) (i : TileNo) (p : Report) (c : Comparison) : Grown s.faults (s.handEvents i p c).faults := by
  unfold State.handEvents
  dsimp only
  split
  · unfold State.goodReport
    split
    · exact .refl _
    · exact .evaluateTile (s.onTile i fun r => { r with counter := r.counter - 1 }) i
  · exact .events s i _

theorem Grown.judgeReport (s : State) (i : TileNo) (p : Report) : Grown s.faults (s.judgeReport i p).faults := by
  cases named : s.test.names i p.sequence with
  | false =>
    rw [judgeReport_of_ordinary named, handOvertemp_faults]
    exact (Grown.handEvents (s.fileReport i p _) i p _).trans (.foldl ..)
  | true =>
    by_cases echo : Echoes s.test p.sequence
    · by_cases pass : attemptResult (comparisonOf (s.tile i).scan.history p) p.dark.toNat s.settings.darkLimit = .pass
      · rw [judgeReport_of_pass named echo pass]
        exact .endTest (echoJudged s i p .pass) i true
      · by_cases left : s.test.used < s.test.requested.getD 0
        · rw [judgeReport_of_retry named echo rfl pass left]
          exact .refl s.faults
        · rw [judgeReport_of_last named echo rfl pass (Nat.not_lt.mp left)]
          exact .endTest (echoJudged s i p _) i false
    · rw [judgeReport_of_stray named echo]
      exact .refl s.faults

theorem Grown.judgedAll (s : State) (is : List TileNo) : Grown s.faults (judgedAll s is).faults := by
  induction is generalizing s with
  | nil => exact .refl _
  | cons i is ih =>
    refine Grown.trans ?_ (ih _)
    cases held : (s.tile i).scan.held with
    | none => rw [judgeHeld_of_none held]; exact .refl _
    | some p => rw [judgeHeld_of_held held]; exact .judgeReport (unheld s i) i p

theorem Grown.testStep (s : State) : Grown s.faults s.testStep.faults :=
  testStep_cases (P := fun t => Grown s.faults t.faults) s (.refl _) (fun _ => .refl _)
    fun i f _ _ => .endTest (s.onTest f) i false

/-! ## The refresh start (R86) -/

theorem resumed_faults (u : State) : (resumed u).faults = if u.face.stalled = true then u.faults.join
    { kind := .scanResumed, tile := none, detail := natItem u.face.stallCount
      sequence := u.face.sequence + 1, clock := u.clockReading } else u.faults := by
  unfold resumed State.resumeScan
  dsimp only
  split
  next h => rw [if_pos (show u.face.stalled = true from h)]; rfl
  next h => rw [if_neg (show ¬ u.face.stalled = true from h)]; rfl

theorem refreshClosed_faults (u : State) : (refreshClosed u).faults = (resumed u).faults :=
  Eq.trans ((((refreshShown_frame u).mono (ys := [.bus, .tiles, .scan]) (by decide)).trans
    ((refreshClosed_frame u).mono (by decide))).agree .faults (by decide))
    (((decided_frame u).mono (ys := [.due, .table, .cues, .face]) (by decide)).trans
      ((settlePair_frame (decided u) _).mono (by decide)) |>.agree .faults (by decide))

theorem refreshStepped_faults (u : State) : Grown (resumed u).faults (refreshStepped u).faults := by
  rw [← refreshClosed_faults]
  have stepped : Grown (refreshJudged u).faults (refreshStepped u).faults := .testStep (refreshJudged u).silenceSteps
  exact (Grown.judgedAll (refreshClosed u) _).trans stepped

end Sys2Proof.Safety
end

section
/-! SUPPORT. What a refresh start makes of a tile: of one spared by every judgement, and of one whose held report is judged. -/

namespace Sys2Proof.Safety

open Sys2Proof.Machine

variable {s t u : State} {i j : TileNo} {p : Report}

/-! ## The Tile test through the judgements -/

theorem judgeHeld_testTile (s : State) (i : TileNo) : (s.judgeHeld i).test.tile = s.test.tile := by
  cases held : (s.tile i).scan.held with
  | none => rw [judgeHeld_of_none held]
  | some p => rw [judgeHeld_of_held held]; exact judgeReport_testTile (unheld s i) i p

theorem judgedAll_testTile (s : State) (is : List TileNo) : (judgedAll s is).test.tile = s.test.tile := by
  induction is generalizing s with
  | nil => rfl
  | cons i is ih => exact (ih _).trans (judgeHeld_testTile s i)

/-- A test that goes on has gone on through the judgement of a report. -/
theorem judgeReport_going (going : (s.judgeReport i p).test.outcome = .inProgress) : s.test.outcome = .inProgress := by
  cases named : s.test.names i p.sequence with
  | true => exact (names_iff.mp named).1
  | false =>
    rw [(judgeReport_ordinary_frame named).agree .test (by decide)] at going
    exact going

theorem judgeHeld_going (going : (s.judgeHeld i).test.outcome = .inProgress) : s.test.outcome = .inProgress := by
  cases held : (s.tile i).scan.held with
  | none =>
    rw [judgeHeld_of_none held] at going
    exact going
  | some p =>
    rw [judgeHeld_of_held held] at going
    exact judgeReport_going (s := unheld s i) going

theorem judgedAll_going {is : List TileNo} (going : (judgedAll s is).test.outcome = .inProgress) :
    s.test.outcome = .inProgress := by
  induction is generalizing s with
  | nil => exact going
  | cons i is ih => exact judgeHeld_going (ih going)

theorem testStep_going (going : s.testStep.test.outcome = .inProgress) : s.test.outcome = .inProgress := by
  cases idle : s.test.runs with
  | true => exact runs_iff.mp idle
  | false =>
    rw [testStep_of_idle idle] at going
    exact going

/-- Where the test goes on, its report has moved neither state nor counter. -/
theorem judgeReport_spares (named : s.test.names i p.sequence = true)
    (going : (s.judgeReport i p).test.outcome = .inProgress) :
    ((s.judgeReport i p).tile i).state = (s.tile i).state ∧ ((s.judgeReport i p).tile i).counter = (s.tile i).counter := by
  by_cases echo : Echoes s.test p.sequence
  · by_cases pass : attemptResult (comparisonOf (s.tile i).scan.history p) p.dark.toNat s.settings.darkLimit = .pass
    · rw [judgeReport_of_pass named echo pass, endTest_test] at going
      exact nomatch going
    · by_cases left : s.test.used < s.test.requested.getD 0
      · rw [judgeReport_of_retry named echo rfl pass left]
        change ((s.fileReport i p .test).tile i).state = _ ∧ ((s.fileReport i p .test).tile i).counter = _
        rw [fileReport_tile]
        exact ⟨rfl, rfl⟩
      · rw [judgeReport_of_last named echo rfl pass (Nat.not_lt.mp left), endTest_test] at going
        exact nomatch going
  · rw [judgeReport_of_stray named echo, fileReport_tile]
    exact ⟨rfl, rfl⟩

/-- No test ends here that the tile is the subject of. -/
def Untested (u : State) (i : TileNo) : Prop :=
  u.test.runs = false ∨ u.test.tile ≠ some i ∨ (refreshStepped u).test.outcome = .inProgress

theorem refreshClosed_test (u : State) : (refreshClosed u).test = u.test :=
  (((showRefreshStart_frame u).mono (ys := [.due, .table, .cues, .face, .faults, .bus, .tiles, .scan]) (by decide)).trans
    (((refreshShown_frame u).mono (by decide)).trans ((refreshClosed_frame u).mono (by decide)))).agree .test (by decide)

theorem refreshClosed_settings (u : State) : (refreshClosed u).settings = u.settings :=
  (((showRefreshStart_frame u).mono (ys := [.due, .table, .cues, .face, .faults, .bus, .tiles, .scan]) (by decide)).trans
    (((refreshShown_frame u).mono (by decide)).trans ((refreshClosed_frame u).mono (by decide)))).agree .settings (by decide)

theorem refreshJudged_eq (u : State) : refreshJudged u = judgedAll (refreshClosed u) (refreshClosed u).tilesInUse := rfl

/-- A test that does not run stays so through the judgements. -/
theorem refreshJudged_idle (idle : u.test.runs = false) : (refreshJudged u).test.runs = false := by
  rw [Bool.eq_false_iff, Ne, runs_iff]
  intro going
  rw [refreshJudged_eq] at going
  have before := judgedAll_going going
  rw [refreshClosed_test, ← runs_iff, idle] at before
  exact nomatch before

theorem Untested.step (h : Untested u i) : (refreshJudged u).silenceSteps.test.runs = false ∨
    (refreshJudged u).silenceSteps.test.tile ≠ some i ∨ (refreshStepped u).test.outcome = .inProgress := by
  refine h.imp refreshJudged_idle (Or.imp_left fun other => ?_)
  have tile : (refreshJudged u).test.tile = u.test.tile := by rw [refreshJudged_eq, judgedAll_testTile, refreshClosed_test]
  exact fun same => other (tile.symm.trans same)

/-! ## The silence and the step -/

theorem tileCount_closed (u : State) : (refreshClosed u).tileCount = u.tileCount := by
  rw [State.tileCount, refreshClosed_settings]
  rfl

theorem tileCount_judged (u : State) : (refreshJudged u).tileCount = u.tileCount := by
  rw [State.tileCount, (refreshJudged_frame u).agree .settings (by decide)]
  exact tileCount_closed u

/-- From the judgements on only the silence count moves, unless a test ends. -/
theorem refreshStepped_tile (u : State) (i : TileNo) :
    ((refreshStepped u).tile i).scan = { ((refreshJudged u).tile i).scan with
      silence := if i.val < u.tileCount then min 255 (((refreshJudged u).tile i).scan.silence + 1)
        else ((refreshJudged u).tile i).scan.silence } ∧
    ((refreshStepped u).tile i).derate = ((refreshJudged u).tile i).derate ∧
    ((refreshStepped u).tile i).trim = ((refreshJudged u).tile i).trim ∧
    (Untested u i → ((refreshStepped u).tile i).state = ((refreshJudged u).tile i).state ∧
      ((refreshStepped u).tile i).counter = ((refreshJudged u).tile i).counter) := by
  have silent := silenceSteps_tile (refreshJudged u) i
  rw [tileCount_judged] at silent
  obtain ⟨scan, derate, trim⟩ := testStep_scan (refreshJudged u).silenceSteps i
  refine ⟨?_, ?_, ?_, fun untested => ?_⟩
  · exact scan.trans (by rw [silent])
  · exact derate.trans (by rw [silent])
  · exact trim.trans (by rw [silent])
  · obtain ⟨state, counter⟩ := testStep_untested (refreshJudged u).silenceSteps i untested.step
    exact ⟨state.trans (by rw [silent]), counter.trans (by rw [silent])⟩

/-! ## A tile spared -/

/-- A tile with no report to judge. -/
theorem refreshed_spared (spared : (u.tile i).scan.held = none ∨ u.tileCount ≤ i.val) :
    ((refreshStepped u).tile i).scan = { (u.tile i).scan with
      history := closedHistory u i, running := 0xFFFF#16, delivered := 0, broken := false
      silence := if i.val < u.tileCount then min 255 ((u.tile i).scan.silence + 1) else (u.tile i).scan.silence } ∧
    ((refreshStepped u).tile i).derate = (u.tile i).derate ∧ ((refreshStepped u).tile i).trim = (u.tile i).trim ∧
    (Untested u i → ((refreshStepped u).tile i).state = (u.tile i).state ∧
      ((refreshStepped u).tile i).counter = (u.tile i).counter) := by
  have judged : Retouched ((refreshClosed u).tile i) ((refreshJudged u).tile i) := by
    refine judgedAll_spares (spared.symm.imp (fun out => ?_) fun none => ?_)
    · rw [mem_tilesInUse, tileCount_closed]
      exact Nat.not_lt.mpr out
    · rw [refreshClosed_tile]
      exact none
  obtain ⟨kstate, kcounter, kscan, kderate, ktrim⟩ := judged.fields
  obtain ⟨scan, derate, trim, still⟩ := refreshStepped_tile u i
  rw [kscan, refreshClosed_tile] at scan
  rw [kderate, refreshClosed_tile] at derate
  rw [ktrim, refreshClosed_tile] at trim
  rw [kstate, kcounter, refreshClosed_tile] at still
  exact ⟨scan, derate, trim, still⟩

/-! ## A tile judged -/

/-- The tile's turn: the state before it differs of what it was at the close only in what the judgements of others may
move. -/
theorem refreshJudged_turn (inUse : i.val < u.tileCount) (held : (u.tile i).scan.held = some p) :
    ∃ v after, i ∉ after ∧ refreshJudged u = judgedAll (v.judgeReport i p) after ∧
      Unchanged [.tiles, .faults, .test, .link] (refreshClosed u) v ∧
      Retouched { (refreshClosed u).tile i with
        scan := { ((refreshClosed u).tile i).scan with held := none } } (v.tile i) ∧
      (∀ q, v.test.names i q = u.test.names i q) ∧
      (u.test.tile = some i → v.test = u.test ∧ v.link = u.link) := by
  have hlink : (refreshClosed u).link = u.link :=
    (((showRefreshStart_frame u).mono (ys := [.due, .table, .cues, .face, .faults, .bus, .tiles, .scan]) (by decide)).trans
      (((refreshShown_frame u).mono (by decide)).trans ((refreshClosed_frame u).mono (by decide)))).agree .link (by decide)
  obtain ⟨before, after, split, apart, kapart⟩ := tilesInUse_split (s := refreshClosed u) (i := i)
    (by rw [tileCount_closed]; exact inUse)
  have spared : Retouched ((refreshClosed u).tile i) ((judgedAll (refreshClosed u) before).tile i) := judgedAll_spares (.inl apart)
  have kheld : ((judgedAll (refreshClosed u) before).tile i).scan.held = some p := by
    rw [spared.scan, refreshClosed_tile]
    exact held
  have htest : u.test.tile = some i → ∀ j ∈ before, (refreshClosed u).test.tile ≠ some j := by
    rw [refreshClosed_test]
    intro tested j hj same
    rw [tested] at same
    cases same
    exact apart hj
  refine ⟨unheld (judgedAll (refreshClosed u) before) i, after, kapart, ?_, ?_, ?_, fun q => ?_, fun tested => ?_⟩
  · rw [← judgeHeld_of_held kheld]
    exact judgeHeldReports_split split
  · exact State.onTileScan_unchanged _ _ (by decide) (judgedAll_frame _ before)
  · rw [unheld_tile]
    unfold Retouched at spared ⊢
    rw [← spared]
  · have names := judgedAll_names (s := refreshClosed u) apart q
    rw [refreshClosed_test] at names
    exact names
  · obtain ⟨ktest, klink⟩ := judgedAll_test fun j hj => .inl (htest tested j hj)
    exact ⟨ktest.trans (refreshClosed_test u), klink.trans hlink⟩

theorem weighedReport_congr {g : Settings} {q r : TileRecord} (state : r.state = q.state) (counter : r.counter = q.counter)
    (p : Report) (c : Comparison) : weighedReport g r p c = weighedReport g q p c := by
  have same : weighingOf r = weighingOf q := by rw [weighingOf, weighingOf, state, counter]
  rw [weighedReport, weighedReport, same]

/-- What a tile in use with a held report leaves the refresh start with. -/
theorem refreshed_held (inUse : i.val < u.tileCount) (held : (u.tile i).scan.held = some p) :
    ((refreshStepped u).tile i).scan = { (u.tile i).scan with
      history := closedHistory u i, running := 0xFFFF#16, delivered := 0, broken := false, held := none
      last := some (lastOf p (if u.test.names i p.sequence = true then .test else comparisonOf (closedHistory u i) p))
      silence := 1 } ∧
    ((refreshStepped u).tile i).trim = (u.tile i).trim ∧
    ((refreshStepped u).tile i).derate = (if u.test.names i p.sequence = true then (u.tile i).derate else p.overtemp) ∧
    (Untested u i →
      (u.test.names i p.sequence = false →
        ((refreshStepped u).tile i).state =
          (weighedReport u.settings (u.tile i) p (comparisonOf (closedHistory u i) p)).state ∧
        ((refreshStepped u).tile i).counter =
          (weighedReport u.settings (u.tile i) p (comparisonOf (closedHistory u i) p)).counter) ∧
      (u.test.names i p.sequence = true → ((refreshStepped u).tile i).state = (u.tile i).state ∧
        ((refreshStepped u).tile i).counter = (u.tile i).counter)) := by
  obtain ⟨v, after, apart, turn, frame, before, names, -⟩ := refreshJudged_turn inUse held
  obtain ⟨vstate, vcounter, vscan, vderate, vtrim⟩ := before.fields
  rw [refreshClosed_tile] at vstate vcounter vscan vderate vtrim
  have later : Retouched ((v.judgeReport i p).tile i) ((refreshJudged u).tile i) := by
    rw [turn]
    exact judgedAll_spares (.inl apart)
  obtain ⟨kstate, kcounter, kscan, kderate, ktrim⟩ := later.fields
  obtain ⟨scan, derate, trim, still⟩ := refreshStepped_tile u i
  have vsettings : v.settings = u.settings := Eq.trans (frame.agree .settings (by decide)) (refreshClosed_settings u)
  refine ⟨?_, ?_, ?_, fun untested => ⟨fun ordinary => ?_, fun named => ?_⟩⟩
  · rw [scan, if_pos inUse, kscan, judgeReport_scan, filedAs, names, vscan]
    rfl
  · rw [trim, ktrim, judgeReport_trim, vtrim]
  · rw [derate, kderate]
    cases hnames : u.test.names i p.sequence with
    | false =>
      rw [if_neg (by simp)]
      exact (judgeReport_ordinary_tile (s := v) ((names _).trans hnames)).2.1
    | true =>
      rw [if_pos rfl, (judgeReport_test_rated (s := v) ((names _).trans hnames)).derate, fileReport_tile]
      exact vderate
  · obtain ⟨hstate, hcounter⟩ := still untested
    obtain ⟨-, -, jstate, jcounter⟩ := judgeReport_ordinary_tile (s := v) ((names _).trans ordinary)
    rw [vscan, vsettings, weighedReport_congr vstate vcounter] at jstate jcounter
    exact ⟨hstate.trans (kstate.trans jstate), hcounter.trans (kcounter.trans jcounter)⟩
  · obtain ⟨hstate, hcounter⟩ := still untested
    obtain ⟨runs, tested, -⟩ := names_iff.mp named
    have going : (refreshStepped u).test.outcome = .inProgress := by
      rcases untested with idle | other | going
      · rw [runs_iff.mpr runs] at idle
        exact nomatch idle
      · exact absurd tested other
      · exact going
    have judgedGoing : (v.judgeReport i p).test.outcome = .inProgress := by
      have judged : (refreshJudged u).test.outcome = .inProgress := testStep_going (s := (refreshJudged u).silenceSteps) going
      rw [turn] at judged
      exact judgedAll_going judged
    obtain ⟨jstate, jcounter⟩ := judgeReport_spares ((names _).trans named) judgedGoing
    exact ⟨hstate.trans (kstate.trans (jstate.trans vstate)), hcounter.trans (kcounter.trans (jcounter.trans vcounter))⟩

end Sys2Proof.Safety
end

section
/-! What a refresh start closes, opens, ramps and counts (04 R69, R86; 05 R120; 08 R129, R134, R140). Settles O17, O18
and O29. -/

namespace Sys2Proof.Safety

open Sys2Proof.Machine

variable {s t u : State} {i j : TileNo} {p : Presented}

/-! ## The take's own fields -/

theorem startTaken_face (s : State) (p : Presented) : (startTaken s p).face = (startedFrom s p).face :=
  (startTaken_frame s p).agree .face (by decide)

theorem startTaken_scanFields (s : State) (p : Presented) : (startTaken s p).face.sequence = s.face.sequence + 1 ∧
    (startTaken s p).face.stallCount = 0 ∧ (startTaken s p).face.stalled = false := by
  have face : (startTaken s p).face = (s.onBus fun b => { b with presented := some p }).showRefreshStart.face := by
    rw [startTaken_face, startedFrom, refreshStart_face]
    rfl
  rw [face]
  exact showRefreshStart_scan _

theorem startTaken_scan (s : State) (p : Presented) :
    (startTaken s p).scan = { s.scan with openRefresh := some (s.face.sequence + 1) } :=
  Eq.trans ((startTaken_frame s p).agree .scan (by decide)) (refreshStart_scan _)

theorem tookAs_path (s : State) (r : TxRecord) :
    (tookAs s r).bus.presented = none ∧ (tookAs s r).bus.errorMark = s.bus.errorMark := by
  have told := tellBuffers_bus s r
  unfold tookAs takenAs closedAs
  dsimp only
  split
  · exact ⟨rfl, (congrArg BusState.errorMark told :)⟩
  · split
    · exact ⟨rfl, (congrArg BusState.errorMark told :)⟩
    · exact ⟨rfl, (congrArg BusState.errorMark told :)⟩

theorem startTaken_path (takes : Takes p s) : (startTaken s p).bus.errorMark = false ∧ (startTaken s p).bus.presented = none := by
  have path := (startTaken_follows takes).path
  obtain ⟨presented, mark⟩ := tookAs_path (startedFrom s p) ((startedFrom s p).openRecord p true)
  rw [startedFrom_bus] at mark
  exact ⟨(congrArg BusState.errorMark path :).trans mark, (congrArg BusState.presented path :).trans presented⟩

/-! ## The records of a scan that resumes -/

theorem startTaken_faults (s : State) (p : Presented) :
    (startTaken s p).faults = (refreshStepped (s.onBus fun b => { b with presented := some p })).faults :=
  (startTaken_stepped s p).agree .faults (by decide)

theorem refreshed_quiet (idle : u.test.runs = false) (none : ∀ i, (u.tile i).scan.held = none) :
    refreshStepped u = (refreshClosed u).silenceSteps := by
  have judged : refreshJudged u = refreshClosed u := judgedAll_of_none fun i _ => by
    rw [refreshClosed_tile]
    exact none i
  have rests : (refreshClosed u).silenceSteps.test.runs = false := by
    rw [(silenceSteps_frame _).agree .test (by decide), refreshClosed_test, idle]
  rw [refreshStepped, judged, testStep_of_idle rests]

theorem started_faults (u : State) :
    (u.face.stalled = true → u.faults.queue.length < 32 → ∃ rest, (refreshStepped u).faults.queue = u.faults.queue ++
      { kind := .scanResumed, tile := none, detail := natItem u.face.stallCount
        sequence := u.face.sequence + 1, clock := u.clockReading } :: rest) ∧
    (u.face.stalled = true → 32 ≤ u.faults.queue.length →
      (refreshStepped u).faults.queue = u.faults.queue ∧ min 255 (u.faults.overflow + 1) ≤ (refreshStepped u).faults.overflow) ∧
    (u.face.stalled = false → u.test.runs = false → (∀ i, (u.tile i).scan.held = none) →
      (refreshStepped u).faults = u.faults) := by
  have grown := refreshStepped_faults u
  rw [resumed_faults] at grown
  refine ⟨fun stalled room => ?_, fun stalled full => ?_, fun running idle none => ?_⟩
  · rw [if_pos stalled] at grown
    obtain ⟨rest, queue⟩ := grown.queue
    refine ⟨rest, ?_⟩
    rw [queue, FaultUnit.join_queue_of_room room, List.append_assoc]
    rfl
  · rw [if_pos stalled, FaultUnit.join_of_full _ full] at grown
    exact ⟨grown.full full, (grown.overflow (Nat.min_le_left ..)).1⟩
  · rw [refreshed_quiet idle none, (silenceSteps_frame _).agree .faults (by decide), refreshClosed_faults, resumed_faults,
      if_neg (by simp [running])]

/-! ## Every tile -/

theorem closedHistory_of_open {q : Byte} (inUse : i.val < s.tileCount) (isOpen : s.scan.openRefresh = some q) :
    closedHistory s i = appendHistory (s.tile i).scan.history
      { sequence := q, crc := (s.tile i).scan.running
        complete := decide ((s.tile i).scan.delivered = s.settings.layout.wordsPerTile) && !(s.tile i).scan.broken } := by
  rw [closedHistory, isOpen]
  exact if_pos inUse

theorem closedHistory_of_none (h : s.tileCount ≤ i.val ∨ s.scan.openRefresh = none) :
    closedHistory s i = (s.tile i).scan.history := by
  rw [closedHistory]
  cases isOpen : s.scan.openRefresh with
  | none => rfl
  | some q => exact if_neg (Nat.not_lt.mpr (h.resolve_right (by simp [isOpen])))

/-- Held or not, a tile's refresh is closed and counted afresh. -/
theorem refreshed_closed (u : State) (i : TileNo) : ((refreshStepped u).tile i).scan.running = 0xFFFF#16 ∧
    ((refreshStepped u).tile i).scan.delivered = 0 ∧ ((refreshStepped u).tile i).scan.broken = false ∧
    ((refreshStepped u).tile i).trim = (u.tile i).trim ∧ ((refreshStepped u).tile i).scan.history = closedHistory u i := by
  by_cases spared : (u.tile i).scan.held = none ∨ u.tileCount ≤ i.val
  · obtain ⟨scan, -, trim, -⟩ := refreshed_spared spared
    rw [scan, trim]
    exact ⟨rfl, rfl, rfl, rfl, rfl⟩
  · obtain ⟨some, inUse⟩ := not_or.mp spared
    obtain ⟨h, held⟩ := Option.ne_none_iff_exists'.mp some
    obtain ⟨scan, trim, -, -⟩ := refreshed_held (Nat.not_le.mp inUse) held
    rw [scan, trim]
    exact ⟨rfl, rfl, rfl, rfl, rfl⟩

/-- Settles O17. -/
theorem refreshStartClosesAndOpens : Obligations.RefreshStartClosesAndOpens := by
  unfold Obligations.RefreshStartClosesAndOpens
  refine ⟨fun p s => startsRefresh_iff s p, fun s => ⟨rfl, rfl⟩, fun p s takes starts => .of_next (exec_start takes starts) ?_⟩
  obtain ⟨sequence, stallCount, stalled⟩ := startTaken_scanFields s p
  obtain ⟨mark, presented⟩ := startTaken_path takes
  obtain ⟨roomy, full, quiet⟩ := started_faults (s.onBus fun b => { b with presented := some p })
  refine ⟨(startedFrom_frame s p).trans ((startTaken_frame s p).mono (by decide)), sequence, stallCount, stalled, mark, presented,
    startTaken_scan s p, fun b n showing => ?_, fun dark => ?_, ?_, ?_, ?_, fun i => ?_⟩
  · rw [startTaken_face] at showing
    exact startTaken_remaps takes starts showing
  · rw [startTaken_face] at dark
    exact startTaken_answers takes starts dark
  · rw [startTaken_faults]
    exact roomy
  · rw [startTaken_faults]
    exact full
  · rw [startTaken_faults]
    exact quiet
  · obtain ⟨running, delivered, broken, trim, history⟩ := refreshed_closed (s.onBus fun b => { b with presented := some p }) i
    rw [startTaken_tile]
    refine ⟨running, delivered, broken, trim, fun q inUse isOpen => ?_, fun closed => ?_⟩
    · exact history.trans (closedHistory_of_open (s := s) inUse isOpen)
    · exact history.trans (closedHistory_of_none (s := s) closed)

/-! ## The ramp and what comes due -/

theorem startTaken_dues (quiet : Quiet s) (p : Presented) {e : DueEvent} (notClaim : e ≠ .guardClaim) (notTake : e ≠ .takePresented) :
    e ∈ (startTaken s p).due ↔ e ∈ (refreshStepped (s.onBus fun b => { b with presented := some p })).refreshDues := by
  rw [startTaken_due s p notClaim notTake, startedFrom,
    refreshStart_due (u := s.onBus fun b => { b with presented := some p }) quiet.2]

theorem mem_refreshDues_silent (s : State) (i : TileNo) : .silent i ∈ s.refreshDues ↔
    i.val < s.tileCount ∧ s.settings.reportTimeout ≤ (s.tile i).scan.silence := by
  have wait : .silent i ∉ (if s.waitExpired then [DueEvent.testWaitExpiry] else []) := by split <;> simp
  simp [State.refreshDues, State.silenceReached, State.tilesInUse, wait]
  exact fun inUse _ => inUse

theorem refreshStepped_settings (u : State) : (refreshStepped u).settings = u.settings :=
  Eq.trans ((((refreshJudged_frame u).trans (refreshStepped_frame u))).agree .settings (by decide)) (refreshClosed_settings u)

theorem tileCount_stepped (u : State) : (refreshStepped u).tileCount = u.tileCount := by
  rw [State.tileCount, refreshStepped_settings]
  rfl

/-- With nothing held and no test running a tile only ramps and counts. -/
theorem refreshed_ramps (idle : u.test.runs = false) (none : ∀ i, (u.tile i).scan.held = none) (i : TileNo) :
    (refreshStepped u).tile i = { u.tile i with
      applied := (rampStep u.settings.rampUp u.settings.rampDown (u.tile i)).applied
      scan := { (u.tile i).scan with
        history := closedHistory u i, running := 0xFFFF#16, delivered := 0, broken := false
        silence := if i.val < u.tileCount then min 255 ((u.tile i).scan.silence + 1) else (u.tile i).scan.silence } } := by
  rw [refreshed_quiet idle none, silenceSteps_tile, tileCount_closed, refreshClosed_tile]

theorem rampStep_applied (up down : Nat) (q : TileRecord) : (rampStep up down q).applied =
    if q.applied < q.target then min q.target (q.applied + up) else max q.target (q.applied - down) := by
  unfold rampStep
  split <;> rfl

/-- Settles O18. -/
theorem refreshStartRamps : Obligations.RefreshStartRamps := by
  unfold Obligations.RefreshStartRamps
  refine ⟨fun p s takes starts idle none => .of_next (exec_start takes starts) fun i => ?_,
    fun p s takes starts => .of_next (exec_start takes starts) fun i => ⟨?_, fun none => ?_⟩⟩
  · have tile := refreshed_ramps (u := s.onBus fun b => { b with presented := some p }) idle none i
    rw [startTaken_tile, tile]
    exact ⟨rfl, rfl, rfl, rfl, rampStep_applied .., rfl⟩
  · rw [startTaken_dues takes.1 p (by simp) (by simp), mem_refreshDues_silent, startTaken_tile, tileCount_stepped,
      refreshStepped_settings]
    rfl
  · obtain ⟨scan, -, -, -⟩ := refreshed_spared (u := s.onBus fun b => { b with presented := some p }) (i := i) (.inl none)
    rw [startTaken_tile, scan]
    rfl

/-! ## The held reports -/

theorem startTaken_test (s : State) (p : Presented) :
    (startTaken s p).test = (refreshStepped (s.onBus fun b => { b with presented := some p })).test :=
  (startTaken_stepped s p).agree .test (by decide)

/-- Settles O29. -/
theorem heldReportsJudged : Obligations.HeldReportsJudged := by
  unfold Obligations.HeldReportsJudged
  intro p s takes starts
  refine .of_next (exec_start takes starts) fun i => ?_
  rw [startTaken_tile, startTaken_test]
  intro untested
  refine ⟨fun h inUse held => ?_, fun spared => ?_⟩
  · intro c w
    obtain ⟨scan, -, derate, still⟩ := refreshed_held (u := s.onBus fun b => { b with presented := some p }) (i := i) inUse held
    rw [scan]
    refine ⟨rfl, rfl, rfl, fun ordinary => ⟨?_, ?_, fun free => ?_⟩, fun named => ⟨?_, ?_, fun free => ?_⟩⟩
    · exact congrArg (fun d => some (lastOf h d)) (if_neg (by simp [ordinary]))
    · exact derate.trans (if_neg (by simp [ordinary]))
    · exact (still free).1 ordinary
    · exact congrArg (fun d => some (lastOf h d)) (if_pos named)
    · exact derate.trans (if_pos named)
    · exact (still free).2 named
  · obtain ⟨scan, derate, -, still⟩ := refreshed_spared (u := s.onBus fun b => { b with presented := some p }) (i := i) spared
    rw [scan]
    exact ⟨rfl, rfl, derate, still⟩

end Sys2Proof.Safety
end

section
/-! SUPPORT. The gain handed over last stands through every judgement of a report and every end of a test (R107). -/

namespace Sys2Proof.Safety

open Sys2Proof.Machine

variable {s t u : State} {i j : TileNo} {p : Presented} {h : Report}

/-! ## The gain the attempt is sent under -/

/-- The gain handed over last stands. -/
def SameGain (s t : State) : Prop := t.tiles.gain = s.tiles.gain

theorem SameGain.refl (s : State) : SameGain s s := rfl

theorem SameGain.trans (a : SameGain s t) (b : SameGain t u) : SameGain s u := Eq.trans b a

theorem SameGain.addReason (s : State) (x : BlankReason) : SameGain s (s.addReason x) := by
  unfold State.addReason
  split
  · exact .refl s
  · split <;> rfl

theorem SameGain.removeReason (s : State) (x : BlankReason) : SameGain s (s.removeReason x) := by
  unfold State.removeReason
  split
  · exact .refl s
  · split <;> rfl

theorem SameGain.faceLimitCheck (s : State) : SameGain s s.faceLimitCheck := by
  unfold State.faceLimitCheck
  split
  · exact .addReason ..
  · exact .removeReason ..

theorem SameGain.enterFaulted (s : State) (i : TileNo) : SameGain s (s.enterFaulted i) := SameGain.faceLimitCheck _

theorem SameGain.leaveFaulted (s : State) (i : TileNo) (detail : Half) : SameGain s (s.leaveFaulted i detail) :=
  SameGain.faceLimitCheck _

theorem SameGain.endTest (s : State) (i : TileNo) (passed : Bool) : SameGain s (s.endTest i passed) := by
  rw [endTest_eq, testTold]
  change SameGain s (if passed = true then s.tilePassed i else s.tileFailed i)
  split
  · unfold State.tilePassed
    split
    · exact .leaveFaulted s i 2
    · exact .refl s
  · unfold State.tileFailed
    dsimp only
    split
    · rfl
    · exact .enterFaulted (s.onTile i fun r => { r with counter := 255 }) i

theorem SameGain.evaluateTile (s : State) (i : TileNo) : SameGain s (s.evaluateTile i) := by
  unfold State.evaluateTile
  dsimp only
  split
  · exact .refl s
  · split
    · exact .enterFaulted s i
    · split
      · split <;> rfl
      · rfl

theorem SameGain.tileEvent (s : State) (i : TileNo) (e : TileEvent) : SameGain s (s.tileEvent i e) := by
  unfold State.tileEvent
  split
  · exact .refl s
  · exact .evaluateTile (s.onTile i fun r => { r with counter := saturate 255 (r.counter + s.settings.weight e) }) i

theorem SameGain.events (s : State) (i : TileNo) (es : List TileEvent) :
    SameGain s (es.foldl (fun t e => t.tileEvent i e) s) := by
  induction es generalizing s with
  | nil => exact .refl s
  | cons e es ih => exact (SameGain.tileEvent s i e).trans (ih _)

theorem SameGain.handEvents (s : State) (i : TileNo) (h : Report) (c : Comparison) : SameGain s (s.handEvents i h c) := by
  unfold State.handEvents
  dsimp only
  split
  · unfold State.goodReport
    split
    · exact .refl s
    · exact .evaluateTile (s.onTile i fun r => { r with counter := r.counter - 1 }) i
  · exact .events s i _

theorem SameGain.handOvertemp (s : State) (i : TileNo) (h : Report) : SameGain s (s.handOvertemp i h) := by
  unfold State.handOvertemp State.setDerate
  dsimp only
  split
  · split <;> rfl
  · split <;> rfl

theorem SameGain.judgeReport (s : State) (i : TileNo) (h : Report) : SameGain s (s.judgeReport i h) := by
  cases named : s.test.names i h.sequence with
  | false =>
    rw [judgeReport_of_ordinary named]
    exact (SameGain.handEvents (s.fileReport i h _) i h _).trans (.handOvertemp ..)
  | true =>
    by_cases echo : Echoes s.test h.sequence
    · by_cases pass : attemptResult (comparisonOf (s.tile i).scan.history h) h.dark.toNat s.settings.darkLimit = .pass
      · rw [judgeReport_of_pass named echo pass]
        exact .endTest (echoJudged s i h .pass) i true
      · by_cases left : s.test.used < s.test.requested.getD 0
        · rw [judgeReport_of_retry named echo rfl pass left]
          rfl
        · rw [judgeReport_of_last named echo rfl pass (Nat.not_lt.mp left)]
          exact .endTest (echoJudged s i h _) i false
    · rw [judgeReport_of_stray named echo]
      rfl

theorem SameGain.judgedAll (s : State) (is : List TileNo) : SameGain s (judgedAll s is) := by
  induction is generalizing s with
  | nil => exact .refl s
  | cons i is ih =>
    refine SameGain.trans ?_ (ih _)
    cases held : (s.tile i).scan.held with
    | none => rw [judgeHeld_of_none held]; exact .refl s
    | some h => rw [judgeHeld_of_held held]; exact .judgeReport (unheld s i) i h

theorem SameGain.refreshJudged (u : State) : SameGain u (refreshJudged u) := by
  have tiles : u.showRefreshStart.tiles = u.tiles := (showRefreshStart_frame u).agree .tiles (by decide)
  have closed : SameGain u (refreshClosed u) := by
    have ramped : (refreshClosed u).tiles.gain = u.showRefreshStart.tiles.gain := rfl
    unfold SameGain
    rw [ramped, tiles]
  exact closed.trans (.judgedAll (refreshClosed u) _)

end Sys2Proof.Safety
end

section
/-! SUPPORT. The Tile test once the held reports are judged, and what a refresh start makes of it (09 R164 to R168). -/

namespace Sys2Proof.Safety

open Sys2Proof.Machine

variable {s t u : State} {i j : TileNo} {p : Presented} {h : Report}

/-! ## The test once the held reports are judged -/

/-- The tested tile's held report echoes the current attempt. -/
def HoldsEcho (u : State) (i : TileNo) (h : Report) : Prop :=
  i.val < u.tileCount ∧ (u.tile i).scan.held = some h ∧ u.test.names i h.sequence = true ∧ Echoes u.test h.sequence

/-- The tested tile's turn, with the judgement of its echo. -/
theorem refreshJudged_echo (echo : HoldsEcho u i h) : ∃ v : State,
    v.test = u.test ∧ v.link = u.link ∧ v.settings = u.settings ∧ (v.tile i).scan.history = closedHistory u i ∧
    (v.tile i).state = (u.tile i).state ∧ (v.tile i).counter = (u.tile i).counter ∧
    (refreshJudged u).test = (v.judgeReport i h).test ∧ (refreshJudged u).link = (v.judgeReport i h).link ∧
    ((refreshJudged u).tile i).state = ((v.judgeReport i h).tile i).state ∧
    ((refreshJudged u).tile i).counter = ((v.judgeReport i h).tile i).counter := by
  obtain ⟨inUse, held, named, -⟩ := echo
  have tested := (names_iff.mp named).2.1
  obtain ⟨v, after, apart, turn, frame, before, -, same⟩ := refreshJudged_turn inUse held
  obtain ⟨vtest, vlink⟩ := same tested
  obtain ⟨vstate, vcounter, vscan, -, -⟩ := before.fields
  rw [refreshClosed_tile] at vstate vcounter vscan
  have later : Retouched ((v.judgeReport i h).tile i) ((refreshJudged u).tile i) := by
    rw [turn]
    exact judgedAll_spares (.inl apart)
  obtain ⟨kstate, kcounter, -, -, -⟩ := later.fields
  have others : ∀ j ∈ after, (v.judgeReport i h).test.tile ≠ some j := by
    rw [judgeReport_testTile, vtest, tested]
    intro j hj same
    cases same
    exact apart hj
  obtain ⟨ktest, klink⟩ := judgedAll_test fun j hj => .inl (others j hj)
  rw [← turn] at ktest klink
  exact ⟨v, vtest, vlink, Eq.trans (frame.agree .settings (by decide)) (refreshClosed_settings u), congrArg TileScan.history vscan,
    vstate, vcounter, ktest, klink, kstate, kcounter⟩

theorem refreshClosed_link (u : State) : (refreshClosed u).link = u.link :=
  (((showRefreshStart_frame u).mono (ys := [.due, .table, .cues, .face, .faults, .bus, .tiles, .scan]) (by decide)).trans
    (((refreshShown_frame u).mono (by decide)).trans ((refreshClosed_frame u).mono (by decide)))).agree .link (by decide)

/-- Without an echo the judgements leave the test. -/
theorem refreshJudged_unechoed (tested : u.test.tile = some i) (none : ∀ h, ¬ HoldsEcho u i h) :
    (refreshJudged u).test = u.test ∧ (refreshJudged u).link = u.link := by
  by_cases held : i.val < u.tileCount ∧ ∃ h, (u.tile i).scan.held = some h
  · obtain ⟨inUse, h, held⟩ := held
    obtain ⟨v, after, apart, turn, -, -, names, same⟩ := refreshJudged_turn inUse held
    obtain ⟨vtest, vlink⟩ := same tested
    have stands : (v.judgeReport i h).test = u.test ∧ (v.judgeReport i h).link = u.link := by
      cases named : u.test.names i h.sequence with
      | false =>
        have frame := judgeReport_ordinary_frame (s := v) ((names _).trans named)
        exact ⟨Eq.trans (frame.agree .test (by decide)) vtest, Eq.trans (frame.agree .link (by decide)) vlink⟩
      | true =>
        have stray : ¬ Echoes v.test h.sequence := by
          rw [vtest]
          exact fun echo => none h ⟨inUse, held, named, echo⟩
        rw [judgeReport_of_stray ((names _).trans named) stray]
        exact ⟨vtest, vlink⟩
    have others : ∀ j ∈ after, (v.judgeReport i h).test.tile ≠ some j := by
      rw [stands.1, tested]
      intro j hj same
      cases same
      exact apart hj
    obtain ⟨ktest, klink⟩ := judgedAll_test fun j hj => .inl (others j hj)
    rw [← turn] at ktest klink
    exact ⟨ktest.trans stands.1, klink.trans stands.2⟩
  · have spared : ∀ j ∈ (refreshClosed u).tilesInUse,
        (refreshClosed u).test.tile ≠ some j ∨ ((refreshClosed u).tile j).scan.held = Option.none := by
      intro j hj
      rw [mem_tilesInUse, tileCount_closed] at hj
      rw [refreshClosed_test, refreshClosed_tile, tested]
      by_cases same : i = j
      · subst same
        refine .inr ?_
        by_contra some
        exact held ⟨hj, Option.ne_none_iff_exists'.mp some⟩
      · exact .inl fun h => same (Option.some.inj h)
    obtain ⟨htest, hlink⟩ := judgedAll_test spared
    exact ⟨htest.trans (refreshClosed_test u), hlink.trans (refreshClosed_link u)⟩

/-! ## The step that follows -/

theorem refreshJudged_sequence (u : State) : (refreshJudged u).silenceSteps.face.sequence = u.face.sequence + 1 := by
  have face : (refreshJudged u).silenceSteps.face = u.showRefreshStart.face :=
    (((refreshShown_frame u).mono (ys := [.bus, .tiles, .scan, .faults, .test, .link]) (by decide)).trans
      (((refreshClosed_frame u).mono (by decide)).trans (((refreshJudged_frame u).mono (by decide)).trans
        ((silenceSteps_frame _).mono (by decide))))).agree .face (by decide)
  rw [face, (showRefreshStart_scan u).1]

theorem refreshJudged_gain (u : State) : (refreshJudged u).silenceSteps.tiles.gain = u.tiles.gain :=
  SameGain.refreshJudged u

theorem refreshJudged_history (u : State) (i : TileNo) :
    ((refreshJudged u).silenceSteps.tile i).scan.history = closedHistory u i := by
  obtain ⟨scan, -, -⟩ := testStep_scan (refreshJudged u).silenceSteps i
  rw [← scan]
  exact (refreshed_closed u i).2.2.2.2

theorem silent_state (s : State) (i : TileNo) : (s.silenceSteps.tile i).state = (s.tile i).state ∧
    (s.silenceSteps.tile i).counter = (s.tile i).counter := by
  rw [silenceSteps_tile]
  exact ⟨rfl, rfl⟩

/-- A test that has ended takes no step. -/
theorem refreshStepped_of_ended (ended : (refreshJudged u).test.outcome ≠ .inProgress) :
    (refreshStepped u).test = (refreshJudged u).test ∧ (refreshStepped u).link = (refreshJudged u).link ∧
    ((refreshStepped u).tile i).state = ((refreshJudged u).tile i).state ∧
    ((refreshStepped u).tile i).counter = ((refreshJudged u).tile i).counter := by
  have idle : (refreshJudged u).silenceSteps.test.runs = false := by
    rw [Bool.eq_false_iff, Ne, runs_iff]
    exact ended
  obtain ⟨state, counter⟩ := silent_state (refreshJudged u) i
  rw [refreshStepped, testStep_of_idle idle]
  exact ⟨rfl, rfl, state, counter⟩

/-- A DUE attempt begins in this refresh. -/
theorem refreshStepped_of_due (runs : (refreshJudged u).test.outcome = .inProgress) (due : (refreshJudged u).test.phase = .due) :
    (refreshStepped u).test =
      begunAs (u.face.sequence + 1) u.tiles.gain (unnamed (u.face.sequence + 1) (refreshJudged u).test) := by
  rw [refreshStepped, testStep_of_due (s := (refreshJudged u).silenceSteps) runs due, refreshJudged_sequence, refreshJudged_gain]
  rfl

/-! ## An echo judged -/

section
variable (echo : HoldsEcho u i h)
include echo

theorem refreshed_passes
    (pass : attemptResult (comparisonOf (closedHistory u i) h) h.dark.toNat u.settings.darkLimit = .pass) :
    (refreshStepped u).test = endedAs (testJudged u.test (comparisonOf (closedHistory u i) h) h .pass) .passed ∧
    (refreshStepped u).link = testService u.link true ∧
    (if (u.tile i).state = .faulted then ((refreshStepped u).tile i).state = .lit ∧ ((refreshStepped u).tile i).counter = 0
      else ((refreshStepped u).tile i).state = (u.tile i).state ∧
        ((refreshStepped u).tile i).counter = (u.tile i).counter) := by
  obtain ⟨v, vtest, vlink, vsettings, vhistory, vstate, vcounter, jtest, jlink, jstate, jcounter⟩ := refreshJudged_echo echo
  obtain ⟨-, -, named, echoes⟩ := echo
  rw [← vhistory, ← vsettings] at pass
  obtain ⟨ptest, plink, recovers, spared⟩ :=
    judgeReport_passes (s := v) (by rw [vtest]; exact named) (by rw [vtest]; exact echoes) pass
  have ended : (refreshJudged u).test.outcome ≠ .inProgress := by
    rw [jtest, ptest]
    exact fun h => nomatch h
  obtain ⟨test, link, state, counter⟩ := refreshStepped_of_ended (i := i) ended
  refine ⟨?_, ?_, ?_⟩
  · rw [test, jtest, ptest, vtest, vhistory]
  · rw [link, jlink, plink, vlink]
  · rw [state, counter, jstate, jcounter, ← vstate, ← vcounter]
    split
    next faulted =>
      obtain ⟨lit, zero, -⟩ := recovers faulted
      exact ⟨lit, zero⟩
    next sound => exact (spared sound).2

theorem refreshed_fails {result : AttemptResult}
    (hresult : attemptResult (comparisonOf (closedHistory u i) h) h.dark.toNat u.settings.darkLimit = result)
    (failed : result ≠ .pass) (last : u.test.requested.getD 0 ≤ u.test.used) :
    (refreshStepped u).test = endedAs (testJudged u.test (comparisonOf (closedHistory u i) h) h result) .failedAttempts ∧
    (refreshStepped u).link = testService u.link false ∧
    ((refreshStepped u).tile i).state = .faulted ∧ ((refreshStepped u).tile i).counter = 255 := by
  obtain ⟨v, vtest, vlink, vsettings, vhistory, -, -, jtest, jlink, jstate, jcounter⟩ := refreshJudged_echo echo
  obtain ⟨-, -, named, echoes⟩ := echo
  rw [← vhistory, ← vsettings] at hresult
  obtain ⟨ptest, plink, pstate, pcounter, -⟩ := judgeReport_fails (s := v) (by rw [vtest]; exact named)
    (by rw [vtest]; exact echoes) hresult failed (by rw [vtest]; exact last)
  have ended : (refreshJudged u).test.outcome ≠ .inProgress := by
    rw [jtest, ptest]
    exact fun h => nomatch h
  obtain ⟨test, link, state, counter⟩ := refreshStepped_of_ended (i := i) ended
  refine ⟨?_, ?_, ?_, ?_⟩
  · rw [test, jtest, ptest, vtest, vhistory]
  · rw [link, jlink, plink, vlink]
  · rw [state, jstate, pstate]
  · rw [counter, jcounter, pcounter]

theorem refreshed_retries {result : AttemptResult}
    (hresult : attemptResult (comparisonOf (closedHistory u i) h) h.dark.toNat u.settings.darkLimit = result)
    (failed : result ≠ .pass) (left : u.test.used < u.test.requested.getD 0) :
    (refreshStepped u).test = begunAs (u.face.sequence + 1) u.tiles.gain (unnamed (u.face.sequence + 1)
      { testJudged u.test (comparisonOf (closedHistory u i) h) h result with phase := .due, sequence := none, wait := 0 }) ∧
    (refreshJudged u).link = u.link := by
  obtain ⟨v, vtest, vlink, vsettings, vhistory, -, -, jtest, jlink, -, -⟩ := refreshJudged_echo echo
  obtain ⟨-, -, named, echoes⟩ := echo
  rw [← vhistory, ← vsettings] at hresult
  have retry := judgeReport_of_retry (s := v) (by rw [vtest]; exact named) (by rw [vtest]; exact echoes) hresult failed
    (by rw [vtest]; exact left)
  have judged : (refreshJudged u).test = { testJudged u.test (comparisonOf (closedHistory u i) h) h result with
      phase := .due, sequence := none, wait := 0 } := by
    rw [jtest, retry, ← vtest, ← vhistory]
    rfl
  have link : (refreshJudged u).link = u.link := by
    rw [jlink, retry, ← vlink]
    rfl
  have runs : (refreshJudged u).test.outcome = .inProgress := by
    rw [judged]
    exact (names_iff.mp named).1
  refine ⟨?_, link⟩
  rw [refreshStepped_of_due runs (by rw [judged]), judged]

end

end Sys2Proof.Safety
end

section
/-! The Tile test at a refresh start (09 R164 to R168). Settles O30. -/

namespace Sys2Proof.Safety

open Sys2Proof.Machine

variable {s t u : State} {i j : TileNo} {p : Presented} {h : Report}

/-! ## Without an echo -/

/-- The test refresh just closed is incomplete. -/
def ClosedIncomplete (u : State) (i : TileNo) : Prop := ∃ q, u.test.sequence = some q ∧
  ∃ e, (closedHistory u i).find? (fun h => h.sequence == q) = some e ∧ e.complete = false

section
variable (runs : s.test.outcome = .inProgress) (sending : s.test.phase = .sending)
include runs sending

theorem testStep_fails (incomplete : s.testIncomplete = true) (htile : s.test.tile = some i)
    (last : s.test.requested.getD 0 ≤ s.test.used) :
    s.testStep.test = endedAs { awaitedAs s.face.sequence s.test with lastResult := some .incomplete } .failedAttempts ∧
    s.testStep.link = testService s.link false ∧
    (s.testStep.tile i).state = .faulted ∧ (s.testStep.tile i).counter = 255 := by
  rw [testStep_of_last runs sending incomplete htile last, endTest_test, endTest_link, endTest_tile]
  obtain ⟨state, counter⟩ := tileFailed_tile (s.onTest fun v =>
    { awaitedAs s.face.sequence v with lastResult := some .incomplete }) i
  exact ⟨rfl, rfl, state, counter⟩

end

section
variable (tested : u.test.tile = some i) (none : ∀ h, ¬ HoldsEcho u i h)
include tested none

theorem refreshJudged_going : (refreshJudged u).silenceSteps.test = u.test := (refreshJudged_unechoed tested none).1

theorem testIncomplete_closed : (refreshJudged u).silenceSteps.testIncomplete = true ↔ ClosedIncomplete u i := by
  have same := refreshJudged_going tested none
  rw [testIncomplete_iff _ i (by rw [same]; exact tested), same, refreshJudged_history]
  rfl

variable (runs : u.test.outcome = .inProgress)
include runs

theorem refreshed_begins (due : u.test.phase = .due) :
    (refreshStepped u).test = begunAs (u.face.sequence + 1) u.tiles.gain (unnamed (u.face.sequence + 1) u.test) := by
  have same : (refreshJudged u).test = u.test := refreshJudged_going tested none
  rw [refreshStepped_of_due (by rw [same]; exact runs) (by rw [same]; exact due), same]

theorem refreshed_waits (awaiting : u.test.phase = .awaiting) :
    (refreshStepped u).test = { unnamed (u.face.sequence + 1) u.test with wait := min 255 (u.test.wait + 1) } := by
  have same := refreshJudged_going tested none
  rw [refreshStepped, testStep_of_awaiting (by rw [same]; exact runs) (by rw [same]; exact awaiting), refreshJudged_sequence,
    ← same]
  rfl

section
variable (sending : u.test.phase = .sending)
include sending

theorem refreshed_awaits (complete : ¬ ClosedIncomplete u i) :
    (refreshStepped u).test = awaitedAs (u.face.sequence + 1) u.test := by
  have same := refreshJudged_going tested none
  have closed : (refreshJudged u).silenceSteps.testIncomplete = false := by
    rw [Bool.eq_false_iff, Ne, testIncomplete_closed tested none]
    exact complete
  rw [refreshStepped, testStep_of_complete (by rw [same]; exact runs) (by rw [same]; exact sending) closed,
    refreshJudged_sequence, ← same]
  rfl

theorem refreshed_retries_incomplete (incomplete : ClosedIncomplete u i) (left : u.test.used < u.test.requested.getD 0) :
    (refreshStepped u).test = begunAs (u.face.sequence + 1) u.tiles.gain
      { unnamed (u.face.sequence + 1) u.test with lastResult := some .incomplete, wait := 0 } := by
  have same := refreshJudged_going tested none
  have isOpen := (testIncomplete_closed tested none).mpr incomplete
  rw [refreshStepped, testStep_of_retry (by rw [same]; exact runs) (by rw [same]; exact sending) isOpen
    (by rw [same]; exact tested) (by rw [same]; exact left), refreshJudged_sequence, refreshJudged_gain, ← same]
  rfl

theorem refreshed_fails_incomplete (incomplete : ClosedIncomplete u i) (last : u.test.requested.getD 0 ≤ u.test.used) :
    (refreshStepped u).test =
      endedAs { awaitedAs (u.face.sequence + 1) u.test with lastResult := some .incomplete } .failedAttempts ∧
    (refreshStepped u).link = testService u.link false ∧
    ((refreshStepped u).tile i).state = .faulted ∧ ((refreshStepped u).tile i).counter = 255 := by
  have same := refreshJudged_going tested none
  have link : (refreshJudged u).silenceSteps.link = u.link := (refreshJudged_unechoed tested none).2
  have isOpen := (testIncomplete_closed tested none).mpr incomplete
  have fails := testStep_fails (s := (refreshJudged u).silenceSteps) (i := i) (by rw [same]; exact runs)
    (by rw [same]; exact sending) isOpen (by rw [same]; exact tested) (by rw [same]; exact last)
  rw [refreshJudged_sequence, same, link] at fails
  exact fails

end

end

/-! ## The link and what comes due -/

/-- The service goes on with the test. -/
theorem testStep_link (s : State) (going : s.testStep.test.outcome = .inProgress) : s.testStep.link = s.link := by
  revert going
  refine testStep_cases (P := fun t => t.test.outcome = .inProgress → t.link = s.link) s (fun _ => rfl) (fun _ _ => rfl)
    fun i f _ _ going => ?_
  rw [endTest_test] at going
  exact nomatch going

theorem refreshJudged_link (tested : u.test.tile = some i) (going : (refreshJudged u).test.outcome = .inProgress) :
    (refreshJudged u).link = u.link := by
  by_cases echoed : ∃ h, HoldsEcho u i h
  · obtain ⟨h, echo⟩ := echoed
    obtain ⟨v, vtest, vlink, -, -, -, -, jtest, jlink, -, -⟩ := refreshJudged_echo echo
    obtain ⟨-, -, named, echoes⟩ := echo
    rw [← vtest] at named echoes
    rw [jtest] at going
    rw [jlink, ← vlink]
    by_cases pass : attemptResult (comparisonOf (v.tile i).scan.history h) h.dark.toNat v.settings.darkLimit = .pass
    · rw [judgeReport_of_pass named echoes pass, endTest_test] at going
      exact nomatch going
    · by_cases left : v.test.used < v.test.requested.getD 0
      · rw [judgeReport_of_retry named echoes rfl pass left]
        rfl
      · rw [judgeReport_of_last named echoes rfl pass (Nat.not_lt.mp left), endTest_test] at going
        exact nomatch going
  · exact (refreshJudged_unechoed tested (not_exists.mp echoed)).2

theorem refreshStepped_link (tested : u.test.tile = some i) (going : (refreshStepped u).test.outcome = .inProgress) :
    (refreshStepped u).link = u.link := by
  have steps : (refreshStepped u).link = (refreshJudged u).silenceSteps.link := testStep_link _ going
  have judged : (refreshJudged u).silenceSteps.test.outcome = .inProgress := testStep_going going
  rw [steps]
  exact refreshJudged_link tested judged

theorem mem_refreshDues_wait (s : State) : .testWaitExpiry ∈ s.refreshDues ↔
    s.test.outcome = .inProgress ∧ s.test.phase = .awaiting ∧ s.settings.reportTimeout ≤ s.test.wait := by
  have expires : s.waitExpired = true ↔
      s.test.outcome = .inProgress ∧ s.test.phase = .awaiting ∧ s.settings.reportTimeout ≤ s.test.wait := by
    simp [State.waitExpired, TestRecord.runs, and_assoc]
  rw [← expires, State.refreshDues, List.mem_append]
  cases s.waitExpired <;> simp

/-- Settles O30. -/
theorem testStepsAtRefreshStart : Obligations.TestStepsAtRefreshStart := by
  unfold Obligations.TestStepsAtRefreshStart
  intro p i s takes starts runs tested seq named begun ended incomplete awaited left echoes failed
  refine .of_next (exec_start takes starts) ?_
  have test := startTaken_test s p
  have tile := startTaken_tile s p i
  have link : (startTaken s p).link = (refreshStepped (s.onBus fun b => { b with presented := some p })).link :=
    (startTaken_stepped s p).agree .link (by decide)
  have fails : (refreshStepped (s.onBus fun b => { b with presented := some p })).link = testService s.link false ∧
      ((refreshStepped (s.onBus fun b => { b with presented := some p })).tile i).state = .faulted ∧
      ((refreshStepped (s.onBus fun b => { b with presented := some p })).tile i).counter = 255 → failed (startTaken s p) := by
    rintro ⟨klink, state, counter⟩
    refine ⟨?_, ?_, ?_⟩
    · rw [tile, state]
    · rw [tile, counter]
    · rw [link, klink]
      rfl
  have echo_iff (h : Report) : HoldsEcho (s.onBus fun b => { b with presented := some p }) i h ↔ echoes h := by
    unfold HoldsEcho Echoes
    rw [names_iff]
    constructor
    · rintro ⟨inUse, held, ⟨-, -, mem⟩, sequence, phase⟩
      exact ⟨inUse, held, mem, sequence, phase⟩
    · rintro ⟨inUse, held, mem, sequence, phase⟩
      exact ⟨inUse, held, ⟨runs, tested, mem⟩, sequence, phase⟩
  rw [test, link]
  refine ⟨fun h echo => ?_, fun none => ?_, ?_, fun going => ?_⟩
  · intro c result judged
    have holds := (echo_iff h).mpr echo
    have hresult : attemptResult c h.dark.toNat s.settings.darkLimit = result := attemptResult_eq ..
    refine ⟨fun pass => ?_, fun bad more => ?_, fun bad last => ?_⟩
    · rw [pass] at hresult
      obtain ⟨ktest, klink, kstate⟩ := refreshed_passes holds hresult
      rw [tile]
      refine ⟨?_, klink, kstate⟩
      rw [ktest]
      simp only [ended, judged, pass]
      rfl
    · exact (refreshed_retries holds hresult bad more).1
    · obtain ⟨ktest, rest⟩ := refreshed_fails holds hresult bad (Nat.not_lt.mp last)
      exact ⟨ktest, fails rest⟩
  · have unechoed (h : Report) : ¬ HoldsEcho (s.onBus fun b => { b with presented := some p }) i h :=
      (echo_iff h).not.mpr (none h)
    refine ⟨fun due => ?_, fun sending complete => ?_, fun sending cut more => ?_, fun sending cut last => ?_, fun awaiting => ?_⟩
    · exact refreshed_begins (u := s.onBus fun b => { b with presented := some p }) tested unechoed runs due
    · exact refreshed_awaits (u := s.onBus fun b => { b with presented := some p }) tested unechoed runs sending complete
    · exact refreshed_retries_incomplete (u := s.onBus fun b => { b with presented := some p }) tested unechoed runs sending cut more
    · obtain ⟨ktest, rest⟩ := refreshed_fails_incomplete (u := s.onBus fun b => { b with presented := some p }) tested unechoed runs
        sending cut (Nat.not_lt.mp last)
      exact ⟨ktest, fails rest⟩
    · exact refreshed_waits (u := s.onBus fun b => { b with presented := some p }) tested unechoed runs awaiting
  · rw [startTaken_dues takes.1 p (by simp) (by simp), mem_refreshDues_wait, refreshStepped_settings]
    rfl
  · exact refreshStepped_link (u := s.onBus fun b => { b with presented := some p }) tested going

end Sys2Proof.Safety
end

section
/-! SUPPORT. What each operation of the Show unit's decision makes of the cues and the buffers (R61, R63, R74 to R77). -/

namespace Sys2Proof.Safety

open Sys2Proof.Machine

variable {s t : State} {n m : SlotNo} {e : QueueEntry}

/-! ## What is read of the cues alone -/

theorem slot_of_cues (h : t.cues = s.cues) (n : SlotNo) : t.slot n = s.slot n := by
  rw [State.slot, State.slot, h]

theorem listedAfter_of_cues (h : t.cues = s.cues) (ns : List SlotNo) : listedAfter t ns = listedAfter s ns :=
  listedAfter_congr (congrArg CueUnit.writeBack h) ns fun n _ => congrArg SlotRecord.listed (slot_of_cues h n)

/-! ## A cue that first shows -/

/-- The record of a slot whose cue takes the face. -/
def SlotRecord.shown (r : SlotRecord) (e : QueueEntry) (stamp : ShowStamp) : SlotRecord :=
  { r with state := .active, outcome := some .onFace, showStamp := some stamp, listed := true
           noticeTime := if e.kind == .notice && e.lifetime != 0 then some e.lifetime else none }

/-- The stamp of a cue that takes the face now. -/
def State.showStampNow (s : State) : ShowStamp := { sequence := s.face.sequence, clock := s.clockNow }

theorem showFirst_slot (s : State) (e : QueueEntry) (m : SlotNo) : (s.showFirst e).slot m =
    if m = e.slot then SlotRecord.shown (s.slot e.slot) e (State.showStampNow s) else s.slot m := setOutcome_slot ..

theorem showFirst_writeBack (s : State) (e : QueueEntry) : (s.showFirst e).cues.writeBack = listedAfter s [e.slot] :=
  setOutcome_writeBack s e.slot rfl

/-- The head's entry leaves the queue and its buffer shows. -/
def State.takesFace (s : State) (e : QueueEntry) : State := ((s.dequeue e.slot).bufferToShowing e.buffer).showFirst e

theorem takesFace_before_frame (s : State) (e : QueueEntry) :
    Unchanged [.table, .cues] s ((s.dequeue e.slot).bufferToShowing e.buffer) :=
  State.bufferToShowing_unchanged _ (by decide) (State.dequeue_unchanged _ (by decide) (.refl _ s))

theorem takesFace_before_cues (s : State) (e : QueueEntry) :
    ((s.dequeue e.slot).bufferToShowing e.buffer).cues = { s.cues with queue := s.cues.queue.filter fun q => q.slot != e.slot } :=
  (State.bufferToShowing_unchanged (xs := [.table]) e.buffer (by decide) (.refl _ (s.dequeue e.slot))).agree .cues (by decide)

theorem takesFace_before_stamp (s : State) (e : QueueEntry) :
    State.showStampNow ((s.dequeue e.slot).bufferToShowing e.buffer) = State.showStampNow s := by
  have face := (takesFace_before_frame s e).agree .face (by decide)
  have light := (takesFace_before_frame s e).agree .light (by decide)
  rw [State.showStampNow, State.showStampNow, State.clockNow, State.clockNow, show _ = s.face from face,
    show _ = s.light from light]

theorem takesFace_before_slot (s : State) (e : QueueEntry) (m : SlotNo) :
    ((s.dequeue e.slot).bufferToShowing e.buffer).slot m = s.slot m := by
  rw [State.slot, takesFace_before_cues]
  rfl

theorem takesFace_slot (s : State) (e : QueueEntry) (m : SlotNo) : (State.takesFace s e).slot m =
    if m = e.slot then SlotRecord.shown (s.slot e.slot) e (State.showStampNow s) else s.slot m := by
  rw [State.takesFace, showFirst_slot, takesFace_before_stamp, takesFace_before_slot, takesFace_before_slot]

theorem takesFace_queue (s : State) (e : QueueEntry) :
    (State.takesFace s e).cues.queue = s.cues.queue.filter fun q => q.slot != e.slot :=
  (setOutcome_queue ..).trans (congrArg CueUnit.queue (takesFace_before_cues s e))

theorem takesFace_writeBack (s : State) (e : QueueEntry) :
    (State.takesFace s e).cues.writeBack = listedAfter s [e.slot] := by
  have list : ((s.dequeue e.slot).bufferToShowing e.buffer).cues.writeBack = s.cues.writeBack := by
    rw [takesFace_before_cues]
  exact (showFirst_writeBack _ e).trans
    (listedAfter_congr list _ fun n _ => congrArg SlotRecord.listed (takesFace_before_slot s e n))

/-! ## A swap, a preemption, a resumption -/

theorem swapIn_cues (s : State) (e : QueueEntry) : (s.swapIn e).cues = (State.takesFace s e).cues := rfl

theorem preempt_cues (s : State) (e : QueueEntry) :
    (s.preempt e).cues = (State.takesFace s.suspendShowing e).cues := rfl

theorem resume_cues (s : State) (sel : Showing) (n : SlotNo) (c : Fin 4) :
    (s.resume sel n c).cues = (s.setInterim n .onFace).cues := rfl

/-- The slot of what is suspended. -/
def Suspended.slotNo : Suspended → Option SlotNo
  | .buffer _ n _ => some n
  | .blank n _ => some n
  | .empty => none

theorem setOutcome_cues_congr (h : t.cues = s.cues) (n : SlotNo) {f : SlotRecord → SlotRecord}
    (hf : ∀ r, (f r).listed = r.listed) : (t.setOutcome n f).cues = (s.setOutcome n f).cues := by
  rw [setOutcome_eq t n (hf _), setOutcome_eq s n (hf _), slot_of_cues h]
  simp only [State.onCues, h]

theorem setInterim_cues_congr (h : t.cues = s.cues) (n : SlotNo) (o : CueOutcome) :
    (t.setInterim n o).cues = (s.setInterim n o).cues := setOutcome_cues_congr h n fun _ => rfl

theorem closeSlot_cues_congr (h : t.cues = s.cues) (light : t.light = s.light) (n : SlotNo) (o : CueOutcome) :
    (t.closeSlot n o none).cues = (s.closeSlot n o none).cues := by
  have clock : t.clockNow = s.clockNow := by rw [State.clockNow, State.clockNow, light]
  simp only [State.closeSlot, State.endStampNow, clock]
  exact setOutcome_cues_congr h n fun _ => rfl

theorem suspendShowing_cues (suspends : Suspended.slotNo s.face.toSuspend = some n) :
    s.suspendShowing.cues = (s.setInterim n .suspended).cues := by
  unfold State.suspendShowing
  cases shape : s.face.toSuspend with
  | buffer b m c =>
    obtain rfl : m = n := by simpa [shape, Suspended.slotNo] using suspends
    exact setInterim_cues_congr (s := s) (t := s.onBuffer b (BufferRecord.toState .suspended)) rfl m .suspended
  | blank m c =>
    obtain rfl : m = n := by simpa [shape, Suspended.slotNo] using suspends
    rfl
  | empty => simp [shape, Suspended.slotNo] at suspends

theorem suspendShowing_of_empty (empty : s.face.toSuspend = .empty) : s.suspendShowing = s := by
  rw [State.suspendShowing, empty]

theorem retireShowing_cues (shows : s.face.showing.slot = some n) :
    s.retireShowing.cues = (s.closeSlot n .retired none).cues := by
  unfold State.retireShowing
  cases shape : s.face.showing with
  | buffer b m =>
    obtain rfl : m = n := by simpa [shape, Showing.slot] using shows
    exact closeSlot_cues_congr (s := s) (t := s.onBuffer b (BufferRecord.toState .retiring)) rfl rfl m .retired
  | blank m =>
    obtain rfl : m = n := by simpa [shape, Showing.slot] using shows
    rfl
  | black => simp [shape, Showing.slot] at shows

theorem retireShowing_of_black (dark : s.face.showing.slot = none) : s.retireShowing = s := by
  unfold State.retireShowing
  cases shape : s.face.showing with
  | buffer b m => simp [shape, Showing.slot] at dark
  | blank m => simp [shape, Showing.slot] at dark
  | black => rfl

theorem closeNotice_cues {b : BufferNo} (shows : s.face.showing = .buffer b n) :
    s.closeNotice.cues = (s.closeSlot n .noticeEnded none).cues := by
  rw [State.closeNotice, shows]
  exact closeSlot_cues_congr (s := s) (t := (s.onFace fun f => { f with noticeEnd := false }).onBuffer b BufferRecord.toWiping)
    rfl rfl n .noticeEnded

theorem resume_bufferState (s : State) (sel : Showing) (n : SlotNo) (c : Fin 4) (k : BufferNo) :
    (s.resume sel n c).bufferState k = s.bufferState k :=
  State.bufferState_congr ((setOutcome_frame s n _).agree .table (by decide)) k

end Sys2Proof.Safety
end

section
/-! SUPPORT. The decision at a refresh start: what it reads, its branches, and what stands of it after the take
(04 R59, R61, R63, R74 to R77). -/

namespace Sys2Proof.Safety

open Sys2Proof.Machine

variable {s a t u v : State} {p : Presented} {n m : SlotNo} {e : QueueEntry}

/-! ## What the decision reads -/

/-- The state the decision reads: the sequence advanced, the stall count back at 0, the read presented. -/
def Deciding (s a : State) : Prop := ∃ bus faults, a =
  { s with bus := bus, faults := faults
           face := { s.face with sequence := s.face.sequence + 1, stallCount := 0, stalled := false } }

theorem deciding_resumed (s : State) (p : Presented) : Deciding s (resumed (s.onBus fun b => { b with presented := some p })) := by
  unfold resumed State.resumeScan
  dsimp only
  split
  · exact ⟨_, _, rfl⟩
  · exact ⟨_, _, rfl⟩

namespace Deciding

theorem cues (h : Deciding s a) : a.cues = s.cues := by obtain ⟨bus, faults, rfl⟩ := h; rfl

theorem bufferState (h : Deciding s a) (k : BufferNo) : a.bufferState k = s.bufferState k := by
  obtain ⟨bus, faults, rfl⟩ := h; rfl

theorem face (h : Deciding s a) :
    a.face = { s.face with sequence := s.face.sequence + 1, stallCount := 0, stalled := false } := by
  obtain ⟨bus, faults, rfl⟩ := h; rfl

theorem noticeShowing (h : Deciding s a) : a.noticeShowing = s.noticeShowing := by obtain ⟨bus, faults, rfl⟩ := h; rfl

theorem preempting (h : Deciding s a) : a.preempting = s.preempting := by obtain ⟨bus, faults, rfl⟩ := h; rfl

theorem swappable (h : Deciding s a) : a.swappable = s.swappable := by obtain ⟨bus, faults, rfl⟩ := h; rfl

theorem clockNow (h : Deciding s a) : a.clockNow = s.clockNow := by obtain ⟨bus, faults, rfl⟩ := h; rfl

theorem dwellLoad (h : Deciding s a) (c : Fin 4) : a.dwellLoad c = max (s.settings.dwellClass c) s.bandMinDwell := by
  obtain ⟨bus, faults, rfl⟩ := h; rfl

theorem stamp (h : Deciding s a) :
    State.showStampNow a = { sequence := s.face.sequence + 1, clock := s.clockNow } := by
  rw [State.showStampNow, h.clockNow, h.face]

theorem slot (h : Deciding s a) (n : SlotNo) : a.slot n = s.slot n := slot_of_cues h.cues n

theorem listedAfter (h : Deciding s a) (ns : List SlotNo) : listedAfter a ns = listedAfter s ns :=
  listedAfter_of_cues h.cues ns

end Deciding

/-! ## What stands of the decision after the take -/

/-- The state after the take shows what was decided. -/
structure ShownAs (v t : State) : Prop where
  face : { t.face with swapReady := v.face.swapReady, latch := v.face.latch, pairWait := v.face.pairWait } = v.face
  unpaired : v.handshakeWanted = false → v.face.swapReady = false → t.face = v.face
  queue : t.cues.queue = v.cues.queue
  states : ∀ k, t.bufferState k = v.bufferState k
  slots : ∀ n, t.slot n = { v.slot n with listed := (t.slot n).listed }
  writeBack : WriteBackListIs t v.cues.writeBack

/-- A read is not told to a buffer, so its record moves the bus alone. -/
theorem tookAs_frame_of_read {r : TxRecord} (read : r.direction = .read) : Unchanged [.bus] s (tookAs s r) := by
  have told := tellBuffers_of_untold (s := s) (.inr read)
  have taken : ∀ burst, Unchanged [.bus] s (takenAs (s.tellBuffers r) r burst) := fun burst => by
    rw [told]
    exact State.onBus_unchanged _ (by decide) (.refl _ s)
  unfold tookAs
  dsimp only
  split
  · exact taken _
  · split
    · exact State.onBus_unchanged _ (by decide) (taken none)
    · exact taken none

theorem startTaken_shows (takes : Takes p s) (starts : s.startsRefresh p = true) :
    ShownAs (decided (s.onBus fun b => { b with presented := some p })) (startTaken s p) := by
  have follows := startTaken_follows takes
  have face := (startTaken_face s p).trans (refreshStart_face _)
  have cues : (startedFrom s p).cues = _ := refreshStart_cues _
  have table : (startedFrom s p).table = _ := refreshStart_table _
  obtain ⟨-, -, read, -, -⟩ := (startsRefresh_iff s p).mp starts
  have took := tookAs_frame_of_read (s := startedFrom s p) (r := (startedFrom s p).openRecord p true) read
  have tookCues := Eq.trans (took.agree .cues (by decide)) cues
  have tookTable := Eq.trans (took.agree .table (by decide)) table
  refine ⟨?_, fun unwanted low => ?_, ?_, fun k => ?_, fun n => ?_, ?_⟩
  · rw [face]
    exact (settlePair_follows _ _).face
  · rw [face, settlePair_of_low low unwanted]
  · exact follows.ring.2.1.trans (congrArg CueUnit.queue tookCues)
  · exact (follows.bufferState k).trans (State.bufferState_congr tookTable k)
  · exact (follows.slot n).trans (by rw [slot_of_cues tookCues])
  · have list := startTaken_writeBack s p
    rw [cues] at list
    exact list

theorem start_decides (takes : Takes p s) (starts : s.startsRefresh p = true) :
    ∃ a, Deciding s a ∧ ShownAs a.showDecision (startTaken s p) :=
  ⟨_, deciding_resumed s p, startTaken_shows takes starts⟩

namespace ShownAs

variable (h : ShownAs v t)
include h

theorem showing : t.face.showing = v.face.showing := (congrArg ShowUnit.showing h.face :)

theorem suspended : t.face.suspended = v.face.suspended := (congrArg ShowUnit.suspended h.face :)

theorem dwell : t.face.dwell = v.face.dwell := (congrArg ShowUnit.dwell h.face :)

theorem dwellClass : t.face.dwellClass = v.face.dwellClass := (congrArg ShowUnit.dwellClass h.face :)

theorem noticeEnd : t.face.noticeEnd = v.face.noticeEnd := (congrArg ShowUnit.noticeEnd h.face :)

/-- What the record of a slot tells of its cue. -/
theorem slotFields (n : SlotNo) : (t.slot n).state = (v.slot n).state ∧ (t.slot n).outcome = (v.slot n).outcome ∧
    (t.slot n).showStamp = (v.slot n).showStamp ∧ (t.slot n).endStamp = (v.slot n).endStamp ∧
    (t.slot n).noticeTime = (v.slot n).noticeTime := by
  rw [h.slots n]
  exact ⟨rfl, rfl, rfl, rfl, rfl⟩

theorem list {ns : List SlotNo} (hlist : v.cues.writeBack = ns) : WriteBackListIs t ns := hlist ▸ h.writeBack

end ShownAs

/-! ## The decision's branches -/

theorem showDecision_of_notice (notice : a.noticeShowing = true) (ends : a.face.noticeEnd = true) :
    a.showDecision = a.endNotice := by
  simp [State.showDecision, notice, ends]

theorem showDecision_of_staying (notice : a.noticeShowing = true) (stays : a.face.noticeEnd = false) :
    a.showDecision = a := by
  simp [State.showDecision, notice, stays]

theorem showDecision_of_preempting (quiet : a.noticeShowing = false) (takes : a.preempting = some e) :
    a.showDecision = a.preempt e := by
  simp [State.showDecision, quiet, takes]

theorem showDecision_of_swappable (quiet : a.noticeShowing = false) (none : a.preempting = none)
    (met : a.face.dwell = .met) (swaps : a.swappable = some e) : a.showDecision = a.retireShowing.swapIn e := by
  simp [State.showDecision, quiet, none, met, swaps]

theorem showDecision_of_held (quiet : a.noticeShowing = false) (none : a.preempting = none)
    (held : a.face.dwell ≠ .met ∨ a.swappable = Option.none) : a.showDecision = a := by
  unfold State.showDecision
  rw [if_neg (by simp [quiet]), none]
  dsimp only
  split
  next met =>
    rw [held.resolve_left (not_not.mpr (beq_iff_eq.mp met))]
  next => rfl

/-! ## Each branch, after the take -/

section
variable (decides : Deciding s a) (shows : ShownAs a.showDecision t)
include decides shows

theorem shown_unmoved (same : a.showDecision = a) : t.face.showing = s.face.showing ∧
    t.face.suspended = s.face.suspended ∧ t.face.dwell = s.face.dwell ∧ t.cues.queue = s.cues.queue := by
  rw [same] at shows
  refine ⟨shows.showing.trans ?_, shows.suspended.trans ?_, shows.dwell.trans ?_,
    shows.queue.trans (congrArg CueUnit.queue decides.cues)⟩ <;> rw [decides.face]

/-- R61, R63: the cue that takes the face. -/
theorem shown_takesFace {w : State} (hcues : a.showDecision.cues = (State.takesFace w e).cues)
    (stamp : State.showStampNow w = State.showStampNow a) (queue : w.cues.queue = a.cues.queue) :
    t.cues.queue = s.cues.queue.filter (fun q => q.slot != e.slot) ∧
    (t.slot e.slot).state = .active ∧ (t.slot e.slot).outcome = some .onFace ∧
    (t.slot e.slot).showStamp = some { sequence := s.face.sequence + 1, clock := s.clockNow } ∧
    (t.slot e.slot).noticeTime = (if e.kind == .notice && e.lifetime != 0 then some e.lifetime else none) ∧
    WriteBackListIs t (listedAfter w [e.slot]) ∧
    ∀ n, n ≠ e.slot → (t.slot n).outcome = (w.slot n).outcome ∧ (t.slot n).state = (w.slot n).state ∧
      (t.slot n).endStamp = (w.slot n).endStamp := by
  obtain ⟨state, outcome, showStamp, endStamp, noticeTime⟩ := shows.slotFields e.slot
  have record : a.showDecision.slot e.slot = SlotRecord.shown (w.slot e.slot) e (State.showStampNow a) := by
    rw [slot_of_cues hcues, takesFace_slot, if_pos rfl, stamp]
  rw [record] at state outcome showStamp noticeTime
  refine ⟨?_, state, outcome, showStamp.trans (congrArg some decides.stamp), noticeTime, ?_, fun n apart => ?_⟩
  · rw [shows.queue, hcues, takesFace_queue, queue, decides.cues]
  · exact shows.list ((congrArg CueUnit.writeBack hcues).trans (takesFace_writeBack w e))
  · obtain ⟨state, outcome, -, endStamp, -⟩ := shows.slotFields n
    have other : a.showDecision.slot n = w.slot n := by rw [slot_of_cues hcues, takesFace_slot, if_neg apart]
    rw [other] at state outcome endStamp
    exact ⟨outcome, state, endStamp⟩

end

end Sys2Proof.Safety
end

section
/-! The decision at a refresh start (04 R59, R61, R63, R74 to R77). Settles O19. -/

namespace Sys2Proof.Safety

open Sys2Proof.Machine

variable {s a t w : State} {e : QueueEntry}

theorem showStampNow_congr (face : w.face.sequence = a.face.sequence) (light : w.light = a.light) :
    State.showStampNow w = State.showStampNow a := by
  rw [State.showStampNow, State.showStampNow, State.clockNow, State.clockNow, face, light]

theorem dwellLoad_congr (settings : w.settings = a.settings) (light : w.light = a.light) (c : Fin 4) :
    w.dwellLoad c = a.dwellLoad c := by
  simp only [State.dwellLoad, State.bandMinDwell, State.bandInForce, settings, light]

/-! ## What leaves the face, before what takes it -/

theorem suspendShowing_frame (a : State) : Unchanged [.table, .cues] a a.suspendShowing :=
  State.suspendShowing_unchanged (by decide) (.refl _ a)

theorem retireShowing_frame (a : State) : Unchanged [.table, .cues] a a.retireShowing :=
  State.retireShowing_unchanged (by decide) (.refl _ a)

theorem suspendShowing_stamp (a : State) : State.showStampNow a.suspendShowing = State.showStampNow a :=
  showStampNow_congr (congrArg ShowUnit.sequence ((suspendShowing_frame a).agree .face (by decide)))
    ((suspendShowing_frame a).agree .light (by decide))

theorem retireShowing_stamp (a : State) : State.showStampNow a.retireShowing = State.showStampNow a :=
  showStampNow_congr (congrArg ShowUnit.sequence ((retireShowing_frame a).agree .face (by decide)))
    ((retireShowing_frame a).agree .light (by decide))

theorem suspendShowing_queue (a : State) : a.suspendShowing.cues.queue = a.cues.queue := by
  cases suspends : Suspended.slotNo a.face.toSuspend with
  | none =>
    have empty : a.face.toSuspend = .empty := by
      cases shape : a.face.toSuspend <;> simp [shape, Suspended.slotNo] at suspends
      rfl
    rw [suspendShowing_of_empty empty]
  | some n => rw [suspendShowing_cues suspends, State.setInterim, setOutcome_queue]

theorem retireShowing_queue (a : State) : a.retireShowing.cues.queue = a.cues.queue := by
  cases shows : a.face.showing.slot with
  | none => rw [retireShowing_of_black shows]
  | some n => rw [retireShowing_cues shows, closeSlot_queue]

theorem retireShowing_dwellLoad (a : State) (c : Fin 4) : a.retireShowing.dwellLoad c = a.dwellLoad c :=
  dwellLoad_congr ((retireShowing_frame a).agree .settings (by decide)) ((retireShowing_frame a).agree .light (by decide)) c

/-! ## The branches -/

section
variable (decides : Deciding s a) (shows : ShownAs a.showDecision t)
include decides shows

/-- R74: the notice takes the face from what it suspends. -/
theorem shown_preempts {k : BufferNo} (quiet : s.noticeShowing = false) (head : s.head = some e)
    (kind : e.kind = .notice) (buffer : e.buffer = some k) (eligible : s.eligible e = true) :
    t.face.showing = .buffer k e.slot ∧ t.face.suspended = s.face.toSuspend ∧
    t.face.dwell = .idle ∧ t.cues.queue = s.cues.queue.filter (fun q => q.slot != e.slot) ∧
    t.bufferState k = .showing ∧ (t.slot e.slot).state = .active ∧
    (t.slot e.slot).outcome = some .onFace ∧
    (t.slot e.slot).showStamp = some { sequence := s.face.sequence + 1, clock := s.clockNow } ∧
    (t.slot e.slot).noticeTime = (if e.lifetime = 0 then none else some e.lifetime) ∧
    (s.face.toSuspend = .empty → WriteBackListIs t (listedAfter s [e.slot])) ∧
    (∀ n, Suspended.slotNo s.face.toSuspend = some n →
      n ≠ e.slot → (t.slot n).outcome = some .suspended ∧ (t.slot n).state = (s.slot n).state ∧
      (t.slot n).endStamp = (s.slot n).endStamp ∧ WriteBackListIs t (listedAfter s [n, e.slot])) := by
  have takes : a.preempting = some e :=
    decides.preempting.trans ((State.preempting_eq_some s).mpr ⟨head, kind, eligible⟩)
  have decided := showDecision_of_preempting (decides.noticeShowing.trans quiet) takes
  have toSuspend : a.face.toSuspend = s.face.toSuspend := by rw [decides.face]; rfl
  have hcues : a.showDecision.cues = (State.takesFace a.suspendShowing e).cues := by rw [decided, preempt_cues]
  obtain ⟨queue, state, outcome, stamp, time, list, others⟩ :=
    shown_takesFace decides shows hcues (suspendShowing_stamp a) (suspendShowing_queue a)
  have face : a.showDecision.face = _ := (congrArg State.face decided).trans (preempt_face a e)
  refine ⟨?_, ?_, ?_, queue, ?_, state, outcome, stamp, ?_, fun empty => ?_, fun n suspends apart => ?_⟩
  · rw [shows.showing, face, QueueEntry.selection, buffer]
  · rw [shows.suspended, face, toSuspend]
  · rw [shows.dwell, face]
  · rw [shows.states, decided, State.preempt_bufferState, if_pos buffer]
  · rw [time]
    by_cases none : e.lifetime = 0 <;> simp [kind, none]
  · rw [suspendShowing_of_empty (toSuspend.trans empty), decides.listedAfter] at list
    exact list
  · have cues := suspendShowing_cues ((congrArg Suspended.slotNo toSuspend).trans suspends)
    have record : a.suspendShowing.slot n = { s.slot n with outcome := some .suspended, listed := true } := by
      rw [slot_of_cues cues, State.setInterim, setOutcome_slot_self, decides.slot]
    have lists : listedAfter a.suspendShowing [e.slot] = listedAfter s [n, e.slot] := by
      rw [listedAfter_of_cues cues, State.setInterim, listedAfter_setOutcome a n rfl (by simpa using apart),
        decides.listedAfter]
    obtain ⟨outcome, state, endStamp⟩ := others n apart
    rw [record] at outcome state endStamp
    rw [lists] at list
    exact ⟨outcome, state, endStamp, list⟩

/-- R75, R76: the head swaps in. -/
theorem shown_swaps (quiet : s.noticeShowing = false) (head : s.head = some e) (kind : e.isFrameOrBlank = true)
    (eligible : s.eligible e = true) (pair : s.pairCondition e = true) (met : s.face.dwell = .met) :
    t.face.showing = e.selection ∧ t.face.dwellClass = some e.dwellClass ∧
    t.face.dwell = loadedDwell (max (s.settings.dwellClass e.dwellClass) s.bandMinDwell) ∧
    (t.face.dwell ≠ .met → t.face.swapReady = false ∧ t.face.latch = false ∧ t.face.pairWait = .idle) ∧
    t.cues.queue = s.cues.queue.filter (fun q => q.slot != e.slot) ∧
    (∀ k, e.buffer = some k → t.bufferState k = .showing) ∧
    (∀ k n, s.face.showing = .buffer k n → e.buffer ≠ some k → t.bufferState k = .retiring) ∧
    (t.slot e.slot).state = .active ∧ (t.slot e.slot).outcome = some .onFace ∧
    (t.slot e.slot).showStamp = some { sequence := s.face.sequence + 1, clock := s.clockNow } ∧
    (t.slot e.slot).noticeTime = none ∧
    (s.face.showing.slot = none → WriteBackListIs t (listedAfter s [e.slot])) ∧
    (∀ n, s.face.showing.slot = some n → n ≠ e.slot →
      (t.slot n).state = .closing ∧ (t.slot n).outcome = some .retired ∧
      (t.slot n).endStamp = endsNow s n ∧ WriteBackListIs t (listedAfter s [n, e.slot])) := by
  have unnoticed : e.kind ≠ .notice := fun notice => by simp [QueueEntry.isFrameOrBlank, notice] at kind
  have none : a.preempting = none := by
    rw [decides.preempting, Option.eq_none_iff_forall_ne_some]
    intro q hq
    obtain ⟨qhead, notice, -⟩ := (State.preempting_eq_some s).mp hq
    exact unnoticed (Option.some.inj (head.symm.trans qhead) ▸ notice)
  have swaps : a.swappable = some e :=
    decides.swappable.trans ((State.swappable_eq_some s).mpr ⟨head, kind, eligible, pair⟩)
  have decided := showDecision_of_swappable (decides.noticeShowing.trans quiet) none (by rw [decides.face]; exact met) swaps
  have showing : a.face.showing = s.face.showing := by rw [decides.face]
  obtain ⟨queue, state, outcome, stamp, time, list, others⟩ :=
    shown_takesFace (e := e) (w := a.retireShowing) decides shows (by rw [decided, swapIn_cues]) (retireShowing_stamp a)
      (retireShowing_queue a)
  have face : a.showDecision.face = _ := (congrArg State.face decided).trans (swapIn_face a.retireShowing e)
  have low : a.showDecision.face.swapReady = false := congrArg ShowUnit.swapReady face
  refine ⟨?_, ?_, ?_, fun unmet => ?_, queue, fun k hk => ?_, fun k n shown apart => ?_, state, outcome, stamp, ?_,
    fun dark => ?_, fun n shown apart => ?_⟩
  · rw [shows.showing, face]
  · rw [shows.dwellClass, face]
  · rw [shows.dwell, face, retireShowing_dwellLoad, decides.dwellLoad]
  · have unwanted : a.showDecision.handshakeWanted = false := by
      rw [← Bool.not_eq_true, handshakeWanted_iff]
      rintro ⟨-, -, hmet, -⟩
      exact unmet (shows.dwell.trans hmet)
    rw [shows.unpaired unwanted low, face]
    exact ⟨rfl, rfl, rfl⟩
  · rw [shows.states, decided, State.swapIn_bufferState, if_pos hk]
  · rw [shows.states, decided, State.swapIn_bufferState, if_neg apart, State.retireShowing_bufferState, showing, shown]
    exact if_pos rfl
  · rw [time]
    simp [unnoticed]
  · rw [retireShowing_of_black (by rw [showing]; exact dark), decides.listedAfter] at list
    exact list
  · have cues := retireShowing_cues (s := a) (by rw [showing]; exact shown)
    have record : a.retireShowing.slot n = SlotRecord.closed (s.slot n) .retired Option.none s.clockNow := by
      rw [slot_of_cues cues, closeSlot_slot, if_pos rfl, decides.slot, decides.clockNow]
    have lists : listedAfter a.retireShowing [e.slot] = listedAfter s [n, e.slot] := by
      rw [listedAfter_of_cues cues, State.closeSlot, listedAfter_setOutcome a n rfl (by simpa using apart),
        decides.listedAfter]
    obtain ⟨outcome, state, endStamp⟩ := others n apart
    rw [record] at outcome state endStamp
    rw [lists] at list
    exact ⟨state, outcome, endStamp, list⟩

end

/-- Settles O19. -/
theorem refreshStartDecides : Obligations.RefreshStartDecides := by
  unfold Obligations.RefreshStartDecides
  intro p s takes starts
  obtain ⟨a, decides, shows⟩ := start_decides takes starts
  refine ⟨_, exec_start takes starts, fun notice stays => ?_, fun e rest k quiet queue kind buffer eligible => ?_,
    fun e rest quiet queue kind eligible pair met => ?_, fun quiet none held => ?_⟩
  · exact shown_unmoved decides shows
      (showDecision_of_staying (decides.noticeShowing.trans notice) (by rw [decides.face]; exact stays))
  · obtain ⟨showing, suspended, dwell, queued, state, active, outcome, stamp, time, alone, leaves⟩ :=
      shown_preempts decides shows quiet (congrArg List.head? queue) kind buffer eligible
    refine ⟨showing, suspended, dwell, queued, state, active, outcome, stamp, time, alone, fun n suspends => leaves n ?_⟩
    obtain ⟨b, c, suspends⟩ | ⟨c, suspends⟩ := suspends
    · rw [suspends, Suspended.slotNo]
    · rw [suspends, Suspended.slotNo]
  · exact shown_swaps decides shows quiet (congrArg List.head? queue) kind eligible pair met
  · have same := showDecision_of_held (decides.noticeShowing.trans quiet) (decides.preempting.trans none)
      (by rw [decides.face, decides.swappable]; exact held)
    obtain ⟨showing, -, dwell, queued⟩ := shown_unmoved decides shows same
    exact ⟨showing, dwell, queued⟩

end Sys2Proof.Safety
end

section
/-! The end of a notice at a refresh start (04 R61, R63, R77). Settles O20. -/

namespace Sys2Proof.Safety

open Sys2Proof.Machine

variable {s a t w : State} {n m : SlotNo} {e : QueueEntry} {b : BufferNo} {c : Fin 4}

/-! ## The notice closed -/

theorem closeNotice_frame (a : State) : Unchanged [.table, .cues, .face] a a.closeNotice :=
  State.closeNotice_unchanged (by decide) (.refl _ a)

theorem closeNotice_stamp (a : State) : State.showStampNow a.closeNotice = State.showStampNow a :=
  showStampNow_congr (by rw [State.closeNotice_face]) ((closeNotice_frame a).agree .light (by decide))

theorem closeNotice_dwellLoad (a : State) (c : Fin 4) : a.closeNotice.dwellLoad c = a.dwellLoad c :=
  dwellLoad_congr ((closeNotice_frame a).agree .settings (by decide)) ((closeNotice_frame a).agree .light (by decide)) c

/-- What the cues hold of the notice that ended, in a state on the way from its end. -/
theorem closeNotice_slot (showing : a.face.showing = .buffer b n) (m : SlotNo) : a.closeNotice.slot m =
    if m = n then SlotRecord.closed (a.slot n) .noticeEnded none a.clockNow else a.slot m := by
  rw [slot_of_cues (closeNotice_cues showing), closeSlot_slot]

theorem closeNotice_queue (showing : a.face.showing = .buffer b n) : a.closeNotice.cues.queue = a.cues.queue := by
  rw [closeNotice_cues showing, closeSlot_queue]

theorem closeNotice_writeBack (showing : a.face.showing = .buffer b n) :
    a.closeNotice.cues.writeBack = listedAfter a [n] := by
  rw [closeNotice_cues showing, closeSlot_writeBack]

theorem listedAfter_closeNotice (showing : a.face.showing = .buffer b n) (apart : m ≠ n) :
    listedAfter a.closeNotice [m] = listedAfter a [n, m] := by
  rw [listedAfter_of_cues (closeNotice_cues showing), State.closeSlot,
    listedAfter_setOutcome a n rfl (by simpa using apart.symm)]

/-- R77: the notice's buffer is owed a sweep. -/
theorem closeNotice_wipes (showing : a.face.showing = .buffer noticeBuffer n) :
    a.closeNotice.bufferState noticeBuffer = .wiping := by
  rw [State.closeNotice_bufferState, showing]
  exact if_pos rfl

/-! ## The branches of the notice's end -/

theorem endNotice_of_buffer (suspended : a.face.suspended = .buffer b m c) : a.endNotice =
    (a.closeNotice.onBuffer b (BufferRecord.toState .showing)).resume (.buffer b m) m c := by
  rw [State.endNotice, suspended]

theorem endNotice_of_blank (suspended : a.face.suspended = .blank m c) :
    a.endNotice = a.closeNotice.resume (.blank m) m c := by
  rw [State.endNotice, suspended]

theorem endNotice_of_swappable (suspended : a.face.suspended = .empty) (swaps : a.swappable = some e) :
    a.endNotice = a.closeNotice.swapIn e := by
  rw [State.endNotice, suspended, swaps]

theorem endNotice_of_none (suspended : a.face.suspended = .empty) (none : a.swappable = none) :
    a.endNotice = a.closeNotice.goBlack := by
  rw [State.endNotice, suspended, none]

theorem endNotice_noticeEnd (a : State) : a.endNotice.face.noticeEnd = false := by
  have closed : a.closeNotice.face.noticeEnd = false := by rw [State.closeNotice_face]
  unfold State.endNotice
  dsimp only
  split
  · rw [resume_face]
    exact closed
  · rw [resume_face]
    exact closed
  · split
    · rw [swapIn_face]
      exact closed
    · exact closed

/-! ## Each branch, after the take -/

section
variable (decides : Deciding s a) (shows : ShownAs a.showDecision t) (showing : a.face.showing = .buffer noticeBuffer n)
include decides shows showing

/-- R61: the record of the notice that ended, where nothing after its end touched it. -/
theorem shown_noticeEnded (slot : a.showDecision.slot n = a.closeNotice.slot n) :
    (t.slot n).state = .closing ∧ (t.slot n).outcome = some .noticeEnded ∧ (t.slot n).endStamp = endsNow s n := by
  obtain ⟨state, outcome, -, endStamp, -⟩ := shows.slotFields n
  rw [slot, closeNotice_slot showing, if_pos rfl, decides.slot, decides.clockNow] at state outcome endStamp
  exact ⟨state, outcome, endStamp⟩

/-- R77: what the notice suspended shows again. -/
theorem shown_resumes {w : State} {sel : Showing} (resumes : a.showDecision = w.resume sel m c)
    (cues : w.cues = a.closeNotice.cues) (load : w.dwellLoad c = a.closeNotice.dwellLoad c)
    (apart : m ≠ n) :
    t.face.showing = sel ∧ t.face.suspended = .empty ∧ t.face.dwellClass = some c ∧
    t.face.dwell = loadedDwell (max (s.settings.dwellClass c) s.bandMinDwell) ∧
    (t.slot m).outcome = some .onFace ∧ (t.slot m).showStamp = (s.slot m).showStamp ∧
    (t.slot n).state = .closing ∧ (t.slot n).outcome = some .noticeEnded ∧
    (t.slot n).endStamp = endsNow s n ∧ WriteBackListIs t (listedAfter s [n, m]) := by
  have hface : a.showDecision.face = _ := (congrArg State.face resumes).trans (resume_face w sel m c)
  have hcues : a.showDecision.cues = (a.closeNotice.setInterim m .onFace).cues := by
    rw [resumes, resume_cues, setInterim_cues_congr cues]
  have record : a.showDecision.slot m = { s.slot m with outcome := some .onFace, listed := true } := by
    rw [slot_of_cues hcues, State.setInterim, setOutcome_slot_self, closeNotice_slot showing, if_neg apart, decides.slot]
  have other : a.showDecision.slot n = a.closeNotice.slot n := by
    rw [slot_of_cues hcues, State.setInterim, setOutcome_slot_of_ne _ _ apart.symm]
  have list : a.showDecision.cues.writeBack = listedAfter s [n, m] := by
    rw [hcues, State.setInterim, setOutcome_writeBack _ _ rfl, listedAfter_closeNotice showing apart, decides.listedAfter]
  obtain ⟨state, outcome, endStamp⟩ := shown_noticeEnded decides shows showing other
  obtain ⟨-, resumed, stamp, -, -⟩ := shows.slotFields m
  rw [record] at resumed stamp
  refine ⟨?_, ?_, ?_, ?_, resumed, stamp, state, outcome, endStamp, shows.list list⟩
  · rw [shows.showing, hface]
  · rw [shows.suspended, hface]
  · rw [shows.dwellClass, hface]
  · rw [shows.dwell, hface, load, closeNotice_dwellLoad, decides.dwellLoad]

/-- R77: nothing was suspended, and the head swaps in. -/
theorem shown_swaps_after_notice (swapsIn : a.showDecision = a.closeNotice.swapIn e) (apart : e.slot ≠ n) :
    t.face.showing = e.selection ∧ t.face.dwellClass = some e.dwellClass ∧
    t.face.dwell = loadedDwell (max (s.settings.dwellClass e.dwellClass) s.bandMinDwell) ∧
    t.cues.queue = s.cues.queue.filter (fun q => q.slot != e.slot) ∧
    (e.buffer ≠ some noticeBuffer → t.bufferState noticeBuffer = .wiping) ∧
    (∀ k, e.buffer = some k → t.bufferState k = .showing) ∧
    (t.slot e.slot).state = .active ∧ (t.slot e.slot).outcome = some .onFace ∧
    (t.slot e.slot).showStamp = some { sequence := s.face.sequence + 1, clock := s.clockNow } ∧
    (t.slot n).state = .closing ∧ (t.slot n).outcome = some .noticeEnded ∧
    (t.slot n).endStamp = endsNow s n ∧ WriteBackListIs t (listedAfter s [n, e.slot]) := by
  have hcues : a.showDecision.cues = (State.takesFace a.closeNotice e).cues := by rw [swapsIn, swapIn_cues]
  obtain ⟨queue, state, outcome, stamp, -, list, -⟩ :=
    shown_takesFace decides shows hcues (closeNotice_stamp a) (closeNotice_queue showing)
  have face : a.showDecision.face = _ := (congrArg State.face swapsIn).trans (swapIn_face a.closeNotice e)
  have other : a.showDecision.slot n = a.closeNotice.slot n := by
    rw [slot_of_cues hcues, takesFace_slot, if_neg apart.symm]
  obtain ⟨closing, ended, endStamp⟩ := shown_noticeEnded decides shows showing other
  rw [listedAfter_closeNotice showing apart, decides.listedAfter] at list
  refine ⟨?_, ?_, ?_, queue, fun free => ?_, fun k hk => ?_, state, outcome, stamp, closing, ended, endStamp, list⟩
  · rw [shows.showing, face]
  · rw [shows.dwellClass, face]
  · rw [shows.dwell, face, closeNotice_dwellLoad, decides.dwellLoad]
  · rw [shows.states, swapsIn, State.swapIn_bufferState, if_neg free, closeNotice_wipes showing]
  · rw [shows.states, swapsIn, State.swapIn_bufferState, if_pos hk]

/-- R77: nothing is left to show. -/
theorem shown_black (dark : a.showDecision = a.closeNotice.goBlack) :
    t.face.showing = .black ∧ t.face.dwellClass = none ∧ t.face.dwell = .met ∧
    t.bufferState noticeBuffer = .wiping ∧ (t.slot n).state = .closing ∧
    (t.slot n).outcome = some .noticeEnded ∧ (t.slot n).endStamp = endsNow s n ∧
    WriteBackListIs t (listedAfter s [n]) := by
  have cues : a.showDecision.cues = a.closeNotice.cues := by
    rw [dark]
    rfl
  have face : a.showDecision.face = _ := congrArg State.face dark
  obtain ⟨state, outcome, endStamp⟩ := shown_noticeEnded decides shows showing (slot_of_cues cues n)
  have list : a.showDecision.cues.writeBack = listedAfter s [n] := by
    rw [cues, closeNotice_writeBack showing, decides.listedAfter]
  refine ⟨?_, ?_, ?_, ?_, state, outcome, endStamp, shows.list list⟩
  · rw [shows.showing, face]
    rfl
  · rw [shows.dwellClass, face]
    rfl
  · rw [shows.dwell, face]
    rfl
  · have states : a.closeNotice.goBlack.bufferState noticeBuffer = a.closeNotice.bufferState noticeBuffer := rfl
    rw [shows.states, dark, states, closeNotice_wipes showing]

end

/-- Settles O20. -/
theorem noticeEndResumes : Obligations.NoticeEndResumes := by
  unfold Obligations.NoticeEndResumes
  intro p s n takes starts notice ends onFace
  obtain ⟨a, decides, shows⟩ := start_decides takes starts
  have face := decides.face
  have ended := showDecision_of_notice (decides.noticeShowing.trans (beq_iff_eq.mpr notice)) (by rw [face]; exact ends)
  have showing := (congrArg ShowUnit.showing face).trans onFace
  have suspended := congrArg ShowUnit.suspended face
  refine ⟨_, exec_start takes starts, ?_, fun b m c suspends apart other => ?_,
    fun m c suspends apart => ?_, fun e empty swaps apart => ?_, fun empty none => ?_⟩
  · rw [shows.noticeEnd, ended, endNotice_noticeEnd]
  · have resumes := ended.trans (endNotice_of_buffer (suspended.trans suspends))
    obtain ⟨face, empty, cls, dwell, outcome, stamp, closes⟩ := shown_resumes decides shows showing resumes rfl rfl apart
    refine ⟨face, empty, cls, dwell, ?_, ?_, outcome, stamp, closes⟩
    · rw [shows.states, resumes, resume_bufferState, State.onBuffer_bufferState_self]
      rfl
    · rw [shows.states, resumes, resume_bufferState, State.onBuffer_bufferState_of_ne _ _ other.symm, closeNotice_wipes showing]
  · have resumes := ended.trans (endNotice_of_blank (suspended.trans suspends))
    obtain ⟨face, empty, cls, dwell, outcome, stamp, closes⟩ := shown_resumes decides shows showing resumes rfl rfl apart
    refine ⟨face, empty, cls, dwell, ?_, outcome, stamp, closes⟩
    rw [shows.states, resumes, resume_bufferState, closeNotice_wipes showing]
  · exact shown_swaps_after_notice decides shows showing
      (ended.trans (endNotice_of_swappable (suspended.trans empty) (decides.swappable.trans swaps))) apart
  · exact shown_black decides shows showing
      (ended.trans (endNotice_of_none (suspended.trans empty) (decides.swappable.trans none)))

end Sys2Proof.Safety
end
